-- ==== Sys2Proof/Word.lean ====
section
/-! DEFINITION. Bytes, sixteen-bit words, and the table type that holds a fixed number of like things (rooms,
profiles, slots). A table carries the proof of its size, so no part of the model ever reads past its end. -/
namespace Sys2Proof

/-- A byte of the Supervisor Port or of the Room Loop. -/
abbrev Byte := BitVec 8

/-- A two-byte field of the port or of the loop. -/
abbrev Word16 := BitVec 16

/-- Exactly `n` values, kept as a list together with the proof of its length. -/
structure Table (n : Nat) (α : Type) where
  list : List α
  size : list.length = n
  deriving DecidableEq, Repr

/-- The value at an index. -/
def Table.get {n : Nat} {α : Type} (t : Table n α) (i : Fin n) : α :=
  t.list[i.val]'(by have := t.size; have := i.isLt; omega)

/-- The table with one value replaced. -/
def Table.set {n : Nat} {α : Type} (t : Table n α) (i : Fin n) (x : α) : Table n α :=
  ⟨t.list.set i.val x, by simp [t.size]⟩

/-- The table with one value changed by a function. -/
def Table.modify {n : Nat} {α : Type} (t : Table n α) (i : Fin n) (f : α → α) : Table n α :=
  t.set i (f (t.get i))

/-- The same value everywhere. -/
def Table.fill {α : Type} (n : Nat) (x : α) : Table n α :=
  ⟨List.replicate n x, by simp⟩

/-- The table of a function's values. -/
def Table.ofFn {n : Nat} {α : Type} (f : Fin n → α) : Table n α :=
  ⟨(List.finRange n).map f, by simp⟩

/-- Every value changed, each knowing its index. -/
def Table.mapIdx {n : Nat} {α β : Type} (t : Table n α) (f : Fin n → α → β) : Table n β :=
  ⟨List.zipWith f (List.finRange n) t.list, by simp [t.size]⟩

/-- Whether some value of a table passes a test. -/
def Table.any {n : Nat} {α : Type} (t : Table n α) (p : α → Bool) : Bool := t.list.any p

/-- A two-value table written out. -/
def Table.two {α : Type} (a b : α) : Table 2 α := ⟨[a, b], rfl⟩

/-- A four-value table written out. -/
def Table.four {α : Type} (a b c d : α) : Table 4 α := ⟨[a, b, c, d], rfl⟩

/-- `x` brought into `lo..hi`: "clamped" in the manual's words (00_scope.md, Arithmetic). -/
def clampNat (lo hi x : Nat) : Nat := max lo (min hi x)

/-- `x` brought into `lo..hi`, for a signed quantity. -/
def clampInt (lo hi x : Int) : Int := max lo (min hi x)

/-- Division rounded up (00_scope.md, Arithmetic). -/
def ceilDiv (a b : Nat) : Nat := (a + b - 1) / b

end Sys2Proof
end

