-- ==== Sys2Proof/Syntax.lean ====
section
/-! DEFINITION. The steps of the CW4832: one constructor of `Instr` for each row of spec/opcode_table.json. A host
command carries the quantities that its owning chapter checks (R202), as numbers that may lie outside their ranges; an
enumerated field whose byte names no code is `none`. An event of the part itself (a timer's end, a calendar step, an
exchange on the loop) carries the wing object it concerns. -/
namespace Sys2Proof

/-- A room, 0..47 (00_scope.md, Numbering of wing objects). -/
abbrev RoomId := Fin 48
/-- A partition group, 0..7. -/
abbrev GroupId := Fin 8
/-- An air group, 0..3. -/
abbrev AirId := Fin 4
/-- A façade, 0..5. -/
abbrev FacadeId := Fin 6
/-- An activity profile, 0..7. -/
abbrev ProfileId := Fin 8
/-- A scene of the scene table, 0..15. -/
abbrev SceneId := Fin 16
/-- A lighting channel of a room, 0..3. -/
abbrev ChannelId := Fin 4
/-- A blind group of a room, 0..1. -/
abbrev BlindId := Fin 2
/-- A booking slot, 0..511. -/
abbrev SlotId := Fin 512
/-- A blind token or a panel event number, 0..3. -/
abbrev Token := Fin 4

/-- A handle as the port carries it: the low 12 bits are the slot, the high 4 bits the generation (R19, R202). -/
structure Handle where
  slot : Nat
  gen : Nat
  deriving DecidableEq, Repr

/-- How often a record meets (R18). -/
inductive Pattern where
  | single | weekly
  deriving DecidableEq, Repr

/-- How a profile places blinds (R11). -/
inductive BlindPolicy where
  | projection | daylight | fixed
  deriving DecidableEq, Repr

/-- What a façade sees of the sun (R159). -/
inductive Sun where
  | none | sun | glare
  deriving DecidableEq, Repr

/-- A façade's season (R159). -/
inductive Season where
  | heating | cooling
  deriving DecidableEq, Repr

/-- Which way the scene pointer steps fastest (R150). -/
inductive ScanOrder where
  | sceneMajor | channelMajor
  deriving DecidableEq, Repr

/-- A setting with the two values ON and OFF. -/
inductive Switch where
  | off | on
  deriving DecidableEq, Repr

/-- A heat and a cool setpoint in signed tenths of a degree. -/
structure Band where
  heat : Int
  cool : Int
  deriving DecidableEq, Repr

/-- The fields of a room record as WRITE_ROOM carries them (R3). `airGroup` is `none` for the code NONE. -/
structure RoomWrite where
  enabled : Bool
  station : Nat
  seats : Nat
  area : Nat
  areaRate : Nat
  vminUn : Nat
  vminOcc : Nat
  vmax : Nat
  airGroup : Option Nat
  channels : Nat
  daylight : Table 4 Bool
  blindCount : Nat
  facades : Table 2 Nat
  travels : Table 2 Nat
  doorCounting : Bool
  walkIn : Nat
  confirmTime : Nat
  quietTime : Nat
  deriving DecidableEq, Repr

/-- The fields of a profile as WRITE_PROFILE carries them (R11). -/
structure ProfileWrite where
  lead : Nat
  noShow : Nat
  reclaim : Nat
  overrunLimit : Nat
  extStep : Nat
  maxExt : Nat
  still : Nat
  perPerson : Nat
  co2Target : Nat
  co2Gain : Nat
  band : Band
  scenePre : Nat
  sceneAwait : Nat
  sceneUse : Nat
  sceneOver : Nat
  policy : Option BlindPolicy
  blindPos : Nat
  glarePos : Nat
  luxTarget : Nat
  minDim : Nat
  fade : Nat
  deriving DecidableEq, Repr

/-- Which triggers may start an allocation pass (R17). -/
structure TriggerMask where
  capacityWrite : Bool
  memberChange : Bool
  period : Bool
  hostRequest : Bool
  deriving DecidableEq, Repr

/-- A room's calibration as WRITE_CALIBRATION carries it (R109, R113). -/
structure Calibration where
  co2Gain : Nat
  co2Offset : Int
  luxGain : Nat
  luxOffset : Int
  tempOffset : Int
  deriving DecidableEq, Repr

/-- The booking image of CREATE_BOOKING and AMEND_BOOKING (R207, offsets 0 to 16). -/
structure BookingFields where
  group : Bool
  number : Nat
  pattern : Option Pattern
  weekday : Nat
  firstWeek : Nat
  lastWeek : Nat
  skipCount : Nat
  skips : Table 4 Nat
  start : Nat
  stop : Nat
  cls : Nat
  attendance : Nat
  deriving DecidableEq, Repr

/-- The hold record as HOLD_ROOM carries it (R89). -/
structure HoldFields where
  scene : Nat
  blinds : Table 2 Nat
  flow : Nat
  band : Band
  expiry : Nat
  deriving DecidableEq, Repr

/-- The window of SCENE_WINDOW (R149). -/
structure WindowFields where
  firstScene : Nat
  lastScene : Nat
  firstChannel : Nat
  lastChannel : Nat
  order : Option ScanOrder
  wrap : Option Switch
  deriving DecidableEq, Repr

/-- The bytes of a reply on the loop as the line gave them, and whether every byte had a good stop bit (R172). -/
structure Reply where
  bytes : List Byte
  stopBits : Bool
  deriving DecidableEq, Repr

/-- The steps of the part. The docstring of each names its row of the table and the rule that governs it. -/
inductive Instr where
  /-- POWER_ON (R200) -/
  | powerOn
  /-- RESET_LINE (R200) -/
  | resetLine
  /-- RESTART (R200) -/
  | restart
  /-- MALFORMED (R188): the code byte of the select period that was cut short -/
  | malformed (code : Byte)
  /-- UNKNOWN_COMMAND (R190): the code byte that names no command -/
  | unknownCommand (code : Byte)
  /-- POLL (R189) -/
  | poll
  /-- READ_RESPONSE (R192) -/
  | readResponse
  /-- READ_ATTENTION (R189) -/
  | readAttention
  /-- ACK_ATTENTION (R196) -/
  | ackAttention (mask : Word16)
  /-- READ_ROOM_CHANGES (R194) -/
  | readRoomChanges
  /-- READ_BOOKING_CHANGES (R195) -/
  | readBookingChanges
  /-- SET_ATTENTION (R197) -/
  | setAttention (enables : Word16) (lines : Word16)
  /-- READ_RESET_CAUSE (R200) -/
  | readResetCause
  /-- WRITE_ROOM (R3) -/
  | writeRoom (room : Nat) (fields : RoomWrite)
  /-- READ_ROOM (R1) -/
  | readRoom (room : Nat)
  /-- WRITE_PROFILE (R11) -/
  | writeProfile (profile : Nat) (fields : ProfileWrite)
  /-- READ_PROFILE (R1) -/
  | readProfile (profile : Nat)
  /-- WRITE_WING (R14) -/
  | writeWing (gap : Nat) (setback : Band) (silence : Nat)
  /-- READ_WING (R14) -/
  | readWing
  /-- WRITE_PARTITION (R15) -/
  | writePartition (group : Nat) (members : List Nat)
  /-- DELETE_PARTITION (R15) -/
  | deletePartition (group : Nat)
  /-- READ_PARTITION (R16) -/
  | readPartition (group : Nat)
  /-- WRITE_AIR_GROUP (R17) -/
  | writeAirGroup (group : Nat) (fallback : Nat) (period : Nat) (mask : TriggerMask)
  /-- READ_AIR_GROUP (R17) -/
  | readAirGroup (group : Nat)
  /-- WRITE_CALIBRATION (R113) -/
  | writeCalibration (room : Nat) (fields : Calibration)
  /-- READ_CALIBRATION (R113) -/
  | readCalibration (room : Nat)
  /-- CREATE_BOOKING (R25) -/
  | createBooking (fields : BookingFields)
  /-- AMEND_BOOKING (R26) -/
  | amendBooking (handle : Handle) (fields : BookingFields)
  /-- CANCEL_BOOKING (R28) -/
  | cancelBooking (handle : Handle)
  /-- SUSPEND_BOOKING (R29) -/
  | suspendBooking (handle : Handle)
  /-- RESUME_BOOKING (R30) -/
  | resumeBooking (handle : Handle)
  /-- READ_BOOKING (R31) -/
  | readBooking (handle : Handle)
  /-- LIST_ROOM_BOOKINGS (R31): the cursor is a slot, or `none` -/
  | listRoomBookings (room : Nat) (cursor : Option Nat)
  /-- READ_AGENDA (R32) -/
  | readAgenda (room : Nat) (first : Nat)
  /-- FIND_FREE_ROOM (R33) -/
  | findFreeRoom (week : Nat) (weekday : Nat) (start : Nat) (stop : Nat) (attendance : Nat) (groups : Bool)
  /-- SET_CLOCK (R63) -/
  | setClock (week : Nat) (weekday : Nat) (minute : Nat)
  /-- READ_CLOCK (R46) -/
  | readClock
  /-- ADD_CLOSURE (R48) -/
  | addClosure (week : Nat) (weekday : Nat)
  /-- REMOVE_CLOSURE (R48) -/
  | removeClosure (week : Nat) (weekday : Nat)
  /-- LIST_CLOSURES (R48) -/
  | listClosures
  /-- HOLD_ROOM (R89) -/
  | holdRoom (room : Nat) (fields : HoldFields)
  /-- RELEASE_HOLD (R90) -/
  | releaseHold (room : Nat)
  /-- END_OCCURRENCE (R91) -/
  | endOccurrence (room : Nat) (handle : Handle)
  /-- EXTEND_OCCURRENCE (R92) -/
  | extendOccurrence (room : Nat) (handle : Handle)
  /-- SET_OPEN_RANGE (R86) -/
  | setOpenRange (first : Nat) (last : Nat)
  /-- READ_ROOM_STATUS (R93) -/
  | readRoomStatus (room : Nat)
  /-- READ_ROOM_SENSORS (R124) -/
  | readRoomSensors (room : Nat)
  /-- SET_CAPACITY (R134) -/
  | setCapacity (group : Nat) (capacity : Nat)
  /-- REQUEST_ALLOCATION (R135) -/
  | requestAllocation (group : Nat)
  /-- READ_ALLOCATION (R146) -/
  | readAllocation (group : Nat) (first : Nat)
  /-- READ_ROOM_AIR (R147) -/
  | readRoomAir (room : Nat)
  /-- SCENE_WINDOW (R149) -/
  | sceneWindow (fields : WindowFields)
  /-- SCENE_WRITE_START (R151) -/
  | sceneWriteStart (count : Nat) (levels : List Nat)
  /-- SCENE_WRITE_CONTINUE (R151) -/
  | sceneWriteContinue (count : Nat) (levels : List Nat)
  /-- SCENE_READ_START (R152) -/
  | sceneReadStart (count : Nat)
  /-- SCENE_READ_CONTINUE (R152) -/
  | sceneReadContinue (count : Nat)
  /-- SET_ECONOMY (R157) -/
  | setEconomy (state : Option Switch) (cap : Nat)
  /-- SET_FACADE (R159) -/
  | setFacade (facade : Nat) (sun : Option Sun) (season : Option Season) (retract : Option Switch)
  /-- READ_ROOM_LIGHTING (R170) -/
  | readRoomLighting (room : Nat)
  /-- READ_WING_LIGHTING (R170) -/
  | readWingLighting
  /-- READMIT_STATION (R184) -/
  | readmitStation (address : Nat)
  /-- READ_STATION (R185) -/
  | readStation (address : Nat)
  /-- READ_LOOP_LOG (R186) -/
  | readLoopLog
  /-- STORE_OPERATION_COMPLETE (R42) -/
  | storeOperationComplete
  /-- RETIREMENT_PASS (R41) -/
  | retirementPass
  /-- AGENDA_BUILD (R61): the room whose build is the running calendar step -/
  | agendaBuild (room : RoomId)
  /-- TERM_END_STEP (R47) -/
  | termEndStep
  /-- NOTE_SERVED (R35): the room whose note is the running operation -/
  | noteServed (room : RoomId)
  /-- EXTENSION_REQUEST_SERVED (R38): the room whose request is the running operation -/
  | extensionRequestServed (room : RoomId)
  /-- SECOND_EVENT (R46) -/
  | secondEvent
  /-- MINUTE_EVENT (R53) -/
  | minuteEvent
  /-- ROLLOVER_EVENT (R62) -/
  | rolloverEvent
  /-- TERM_END (R47) -/
  | termEnd
  /-- NO_SHOW_EXPIRY (R54): the room whose entry holds the timer -/
  | noShowExpiry (room : RoomId)
  /-- CONFIRM_REQUEST (R57): the room that sent the request -/
  | confirmRequest (room : RoomId)
  /-- END_NOW_REQUEST (R58): the room the request names -/
  | endNowRequest (room : RoomId)
  /-- SENSED_ABSENCE_EXPIRY (R117): a room, whose own or shared estimate is meant -/
  | sensedAbsenceExpiry (room : RoomId)
  /-- QUIET_TIMER_EXPIRY (R118): a room, whose own or shared estimate is meant -/
  | quietTimerExpiry (room : RoomId)
  /-- SETTLE_TIMER_EXPIRY (R95): the non-leader member whose contact settles -/
  | settleTimerExpiry (room : RoomId)
  /-- HOLD_EXPIRY (R90) -/
  | holdExpiry (room : RoomId)
  /-- HOST_SILENCE_EXPIRY (R198) -/
  | hostSilenceExpiry
  /-- PERIOD_TIMER_MATCH (R136) -/
  | periodTimerMatch (group : AirId)
  /-- ALLOCATION_PASS_COMPLETE (R142) -/
  | allocationPassComplete (group : AirId)
  /-- ROUND_START (R176) -/
  | roundStart
  /-- STATION_VISIT (R178) -/
  | stationVisit
  /-- NO_REPLY (R172) -/
  | noReply
  /-- REPORT_RECEIVED (R172): the reply frame that ended -/
  | reportReceived (reply : Reply)
  /-- BLIND_TRAVEL_COMPLETE (R165) -/
  | blindTravelComplete (room : RoomId) (blind : BlindId)
  /-- BLIND_PAUSE_END (R167) -/
  | blindPauseEnd (room : RoomId) (blind : BlindId)
  deriving DecidableEq, Repr

end Sys2Proof
end

