-- ==== Sys2Proof/Decode.lean ====
section
/-! DEFINITION. From the bytes of a select period to a command (R188, R202, R205), and the code byte of each command.
spec/opcode_table.json gives its rows no bits, so `decodeTableWord` reads no command from a table word. -/
namespace Sys2Proof

/-- The command that a word spells by the bits of spec/opcode_table.json. No row of the table has bits, so no word
spells a command. -/
def decodeTableWord (_nbits _w : Nat) : Option Instr := none

/-- The command codes in the order of R205, each with its parameter count. -/
def commandCodes : List (Nat × Nat) :=
  [(0x00, 0), (0x01, 0), (0x02, 0), (0x03, 2), (0x04, 0), (0x05, 0), (0x06, 4), (0x07, 0), (0x0F, 0),
   (0x10, 29), (0x11, 1), (0x12, 28), (0x13, 1), (0x14, 6), (0x15, 0), (0x16, 5), (0x17, 1), (0x18, 1), (0x19, 6),
   (0x1A, 1), (0x1B, 10), (0x1C, 1)] ++
  [(0x30, 17), (0x31, 19), (0x32, 2), (0x33, 2), (0x34, 2), (0x35, 2), (0x36, 3), (0x37, 2), (0x38, 9),
   (0x40, 4), (0x41, 0), (0x42, 2), (0x43, 2), (0x44, 0),
   (0x50, 12), (0x51, 1), (0x52, 3), (0x53, 3), (0x54, 2), (0x55, 1), (0x56, 1)] ++
  [(0x60, 3), (0x61, 1), (0x62, 2), (0x63, 1), (0x68, 6), (0x69, 33), (0x6A, 33), (0x6B, 1), (0x6C, 1),
   (0x6D, 3), (0x6E, 4), (0x6F, 1), (0x70, 0), (0x78, 1), (0x79, 1), (0x7A, 0)]

/-- The parameter count of a code byte, if it names a command (R205). -/
def paramCount (code : Byte) : Option Nat := (commandCodes.find? fun p => p.1 == code.toNat).map (·.2)

/-- The code byte of a command (R205). The events of the part have none. For a malformed or unknown command it is the
byte that was shifted. -/
def Instr.code : Instr → Byte
  | .malformed c => c
  | .unknownCommand c => c
  | .poll => 0x00
  | .readResponse => 0x01
  | .readAttention => 0x02
  | .ackAttention _ => 0x03
  | .readRoomChanges => 0x04
  | .readBookingChanges => 0x05
  | .setAttention _ _ => 0x06
  | .readResetCause => 0x07
  | .restart => 0x0F
  | .writeRoom _ _ => 0x10
  | .readRoom _ => 0x11
  | .writeProfile _ _ => 0x12
  | .readProfile _ => 0x13
  | .writeWing _ _ _ => 0x14
  | .readWing => 0x15
  | .writePartition _ _ => 0x16
  | .deletePartition _ => 0x17
  | .readPartition _ => 0x18
  | .writeAirGroup _ _ _ _ => 0x19
  | .readAirGroup _ => 0x1A
  | .writeCalibration _ _ => 0x1B
  | .readCalibration _ => 0x1C
  | .createBooking _ => 0x30
  | .amendBooking _ _ => 0x31
  | .cancelBooking _ => 0x32
  | .suspendBooking _ => 0x33
  | .resumeBooking _ => 0x34
  | .readBooking _ => 0x35
  | .listRoomBookings _ _ => 0x36
  | .readAgenda _ _ => 0x37
  | .findFreeRoom _ _ _ _ _ _ => 0x38
  | .setClock _ _ _ => 0x40
  | .readClock => 0x41
  | .addClosure _ _ => 0x42
  | .removeClosure _ _ => 0x43
  | .listClosures => 0x44
  | .holdRoom _ _ => 0x50
  | .releaseHold _ => 0x51
  | .endOccurrence _ _ => 0x52
  | .extendOccurrence _ _ => 0x53
  | .setOpenRange _ _ => 0x54
  | .readRoomStatus _ => 0x55
  | .readRoomSensors _ => 0x56
  | .setCapacity _ _ => 0x60
  | .requestAllocation _ => 0x61
  | .readAllocation _ _ => 0x62
  | .readRoomAir _ => 0x63
  | .sceneWindow _ => 0x68
  | .sceneWriteStart _ _ => 0x69
  | .sceneWriteContinue _ _ => 0x6A
  | .sceneReadStart _ => 0x6B
  | .sceneReadContinue _ => 0x6C
  | .setEconomy _ _ => 0x6D
  | .setFacade _ _ _ _ => 0x6E
  | .readRoomLighting _ => 0x6F
  | .readWingLighting => 0x70
  | .readmitStation _ => 0x78
  | .readStation _ => 0x79
  | .readLoopLog => 0x7A
  | .powerOn => 0
  | .resetLine => 0
  | .storeOperationComplete => 0
  | .retirementPass => 0
  | .agendaBuild _ => 0
  | .termEndStep => 0
  | .noteServed _ => 0
  | .extensionRequestServed _ => 0
  | .secondEvent => 0
  | .minuteEvent => 0
  | .rolloverEvent => 0
  | .termEnd => 0
  | .noShowExpiry _ => 0
  | .confirmRequest _ => 0
  | .endNowRequest _ => 0
  | .sensedAbsenceExpiry _ => 0
  | .quietTimerExpiry _ => 0
  | .settleTimerExpiry _ => 0
  | .holdExpiry _ => 0
  | .hostSilenceExpiry => 0
  | .periodTimerMatch _ => 0
  | .allocationPassComplete _ => 0
  | .roundStart => 0
  | .stationVisit => 0
  | .noReply => 0
  | .reportReceived _ => 0
  | .blindTravelComplete _ _ => 0
  | .blindPauseEnd _ _ => 0

/-- One byte shifted in a select period: whether SEL was high, and the byte (R188). -/
structure Shifted where
  sel : Bool
  byte : Byte
  deriving DecidableEq, Repr

/-- What a whole select period carries (R188). `params` are exactly the code's parameter bytes. -/
inductive Period where
  | noCommand
  | malformed (code : Byte)
  | unknown (code : Byte)
  | command (code : Byte) (params : List Byte)
  deriving DecidableEq, Repr

/-- The first `n` bytes if `n` bytes are there and each was shifted with SEL high (R188). -/
def takeParams : Nat → List Shifted → Option (List Byte)
  | 0, _ => some []
  | _ + 1, [] => none
  | n + 1, b :: rest => if b.sel then (takeParams n rest).map (b.byte :: ·) else none

/-- The framing of a select period from chip select's fall to its rise (R188). -/
def framePeriod : List Shifted → Period
  | [] => .noCommand
  | first :: rest =>
    if first.sel then .noCommand
    else match paramCount first.byte with
      | none => .unknown first.byte
      | some n => match takeParams n rest with
        | none => .malformed first.byte
        | some params => .command first.byte params

/-- A two-byte field, least significant byte first. -/
def word (lo hi : Byte) : Nat := lo.toNat + 256 * hi.toNat

/-- A handle's two bytes: the low 12 bits the slot, the high 4 bits the generation (R202). -/
def handleOf (lo hi : Byte) : Handle := { slot := word lo hi % 4096, gen := word lo hi / 4096 }

/-- The booking image's pattern byte (R207). -/
def patternOf (b : Byte) : Option Pattern :=
  if b = 0 then some .single else if b = 1 then some .weekly else none

/-- The seventeen bytes of a booking image that a command carries (R207, offsets 0 to 16). -/
def bookingOf : List Byte → Option BookingFields
  | [t, p, wd, fw, lw, sc, k0, k1, k2, k3, s0, s1, e0, e1, c, a0, a1] =>
    some { group := t.toNat ≥ 128, number := t.toNat % 128, pattern := patternOf p, weekday := wd.toNat,
           firstWeek := fw.toNat, lastWeek := lw.toNat, skipCount := sc.toNat,
           skips := .four k0.toNat k1.toNat k2.toNat k3.toNat, start := word s0 s1, stop := word e0 e1,
           cls := c.toNat, attendance := word a0 a1 }
  | _ => none

/-- Sixteen two-byte levels (R205). -/
def levelsOf : List Byte → List Nat
  | lo :: hi :: rest => word lo hi :: levelsOf rest
  | _ => []

/-- A signed byte (chapter 11: two's complement). -/
def signedByte (b : Byte) : Int := b.toInt

/-- A signed two-byte field, least significant byte first (chapter 11). -/
def signedWord (lo hi : Byte) : Int := (hi ++ lo).toInt

/-- A heat and a cool setpoint (R11, R14, R89). -/
def bandOf (h0 h1 c0 c1 : Byte) : Band := { heat := signedWord h0 h1, cool := signedWord c0 c1 }

/-- A byte that names one of a list of codes, numbered from 0 in the order in which the owning rule lists them
(assumption 5). -/
def codeOf {α : Type} (names : List α) (b : Byte) : Option α := names[b.toNat]?

/-- A code byte of a setting: 0 OFF, 1 ON (assumption 5). -/
def switchOf (b : Byte) : Option Switch := codeOf [.off, .on] b

/-- The members a WRITE_PARTITION lists: a count and three places, of which the first count are read (R15; assumption
5). A count above 3 is a list of that many, which R15 refuses. -/
def membersListed (count a b c : Byte) : List Nat :=
  ([a, b, c] ++ List.replicate (count.toNat - 3) (0xFF : Byte)).take count.toNat |>.map (·.toNat)

/-- The twenty-nine parameter bytes of WRITE_ROOM (R3; assumption 5). The air group byte 0xFF is NONE, and the daylight
flag of channel k is bit k of one byte: both are the model's, assumption 5. The read-only partition membership (R1, R3)
has no place among them, since the other fields take all twenty-nine (assumption 5). -/
def roomWriteOf : List Byte → Option Instr
  | r :: fl :: st :: s0 :: s1 :: a0 :: a1 :: ra :: u0 :: u1 :: o0 :: o1 :: m0 :: m1 :: rest =>
    match rest with
    | [ag, ch, dl, bc, f0, f1, t0, t1, t2, t3, wi, c0, c1, q0, q1] =>
      some (.writeRoom r.toNat {
        enabled := fl.getLsbD 0, station := st.toNat, seats := word s0 s1, area := word a0 a1, areaRate := ra.toNat,
        vminUn := word u0 u1, vminOcc := word o0 o1, vmax := word m0 m1,
        airGroup := if ag = 0xFF then none else some ag.toNat, channels := ch.toNat,
        daylight := .four (dl.getLsbD 0) (dl.getLsbD 1) (dl.getLsbD 2) (dl.getLsbD 3), blindCount := bc.toNat,
        facades := .two f0.toNat f1.toNat, travels := .two (word t0 t1) (word t2 t3), doorCounting := fl.getLsbD 1,
        walkIn := wi.toNat, confirmTime := word c0 c1, quietTime := word q0 q1 })
    | _ => none
  | _ => none

/-- The twenty-eight parameter bytes of WRITE_PROFILE (R11; assumption 5). -/
def profileWriteOf : List Byte → Option Instr
  | p :: ld :: ns :: k :: ov :: st :: mx :: so :: rp :: t0 :: t1 :: kc :: h0 :: h1 :: c0 :: c1 :: rest =>
    match rest with
    | [s0, s1, s2, s3, po, bp, gp, l0, l1, d0, d1, fd] =>
      some (.writeProfile p.toNat {
        lead := ld.toNat, noShow := ns.toNat, reclaim := k.toNat, overrunLimit := ov.toNat, extStep := st.toNat,
        maxExt := mx.toNat, still := so.toNat, perPerson := rp.toNat, co2Target := word t0 t1, co2Gain := kc.toNat,
        band := bandOf h0 h1 c0 c1, scenePre := s0.toNat, sceneAwait := s1.toNat, sceneUse := s2.toNat,
        sceneOver := s3.toNat, policy := codeOf [.projection, .daylight, .fixed] po, blindPos := bp.toNat,
        glarePos := gp.toNat, luxTarget := word l0 l1, minDim := word d0 d1, fade := fd.toNat })
    | _ => none
  | _ => none

/-- The twelve parameter bytes of HOLD_ROOM (R89; assumption 5). -/
def holdRoomOf : List Byte → Option Instr
  | [r, sc, b0, b1, f0, f1, h0, h1, c0, c1, e0, e1] =>
    some (.holdRoom r.toNat { scene := sc.toNat, blinds := .two b0.toNat b1.toNat, flow := word f0 f1,
                              band := bandOf h0 h1 c0 c1, expiry := word e0 e1 })
  | _ => none

/-- The command of a code and its parameter bytes (R202, R204, R205, R207). Where no rule places the fields, they stand
in the order in which the owning rule lists them, in widths that add up to the count of R205, and FIND_FREE_ROOM's
include-groups flag is bit 0 of its byte (assumption 5). -/
def commandOf (code : Byte) (params : List Byte) : Option Instr :=
  match code.toNat, params with
  | 0x00, [] => some .poll
  | 0x01, [] => some .readResponse
  | 0x02, [] => some .readAttention
  | 0x03, [lo, hi] => some (.ackAttention (BitVec.ofNat 16 (word lo hi)))
  | 0x04, [] => some .readRoomChanges
  | 0x05, [] => some .readBookingChanges
  | 0x06, [a, b, c, d] => some (.setAttention (BitVec.ofNat 16 (word a b)) (BitVec.ofNat 16 (word c d)))
  | 0x07, [] => some .readResetCause
  | 0x0F, [] => some .restart
  | 0x10, fields => roomWriteOf fields
  | 0x11, [r] => some (.readRoom r.toNat)
  | 0x12, fields => profileWriteOf fields
  | 0x13, [p] => some (.readProfile p.toNat)
  | 0x14, [g, h0, h1, c0, c1, t] => some (.writeWing g.toNat (bandOf h0 h1 c0 c1) t.toNat)
  | 0x15, [] => some .readWing
  | 0x16, [g, n, a, b, c] => some (.writePartition g.toNat (membersListed n a b c))
  | 0x17, [g] => some (.deletePartition g.toNat)
  | 0x18, [g] => some (.readPartition g.toNat)
  | 0x19, [g, f0, f1, p0, p1, m] =>
    some (.writeAirGroup g.toNat (word f0 f1) (word p0 p1) {
      capacityWrite := m.getLsbD 0, memberChange := m.getLsbD 1, period := m.getLsbD 2, hostRequest := m.getLsbD 3 })
  | 0x1A, [g] => some (.readAirGroup g.toNat)
  | 0x1B, [r, c0, c1, c2, c3, l0, l1, l2, l3, t] =>
    some (.writeCalibration r.toNat { co2Gain := word c0 c1, co2Offset := signedWord c2 c3, luxGain := word l0 l1,
                                      luxOffset := signedWord l2 l3, tempOffset := signedByte t })
  | 0x1C, [r] => some (.readCalibration r.toNat)
  | 0x30, image => (bookingOf image).map .createBooking
  | 0x31, lo :: hi :: image => (bookingOf image).map (.amendBooking (handleOf lo hi))
  | 0x32, [lo, hi] => some (.cancelBooking (handleOf lo hi))
  | 0x33, [lo, hi] => some (.suspendBooking (handleOf lo hi))
  | 0x34, [lo, hi] => some (.resumeBooking (handleOf lo hi))
  | 0x35, [lo, hi] => some (.readBooking (handleOf lo hi))
  | 0x36, [r, lo, hi] =>
    some (.listRoomBookings r.toNat (if word lo hi = 0xFFFF then none else some (word lo hi)))
  | 0x37, [r, k] => some (.readAgenda r.toNat k.toNat)
  | 0x38, [w, d, s0, s1, e0, e1, a0, a1, g] =>
    some (.findFreeRoom w.toNat d.toNat (word s0 s1) (word e0 e1) (word a0 a1) (g.getLsbD 0))
  | 0x40, [w, d, m0, m1] => some (.setClock w.toNat d.toNat (word m0 m1))
  | 0x41, [] => some .readClock
  | 0x42, [w, d] => some (.addClosure w.toNat d.toNat)
  | 0x43, [w, d] => some (.removeClosure w.toNat d.toNat)
  | 0x44, [] => some .listClosures
  | 0x50, fields => holdRoomOf fields
  | 0x51, [r] => some (.releaseHold r.toNat)
  | 0x52, [r, lo, hi] => some (.endOccurrence r.toNat (handleOf lo hi))
  | 0x53, [r, lo, hi] => some (.extendOccurrence r.toNat (handleOf lo hi))
  | 0x54, [a, b] => some (.setOpenRange a.toNat b.toNat)
  | 0x55, [r] => some (.readRoomStatus r.toNat)
  | 0x56, [r] => some (.readRoomSensors r.toNat)
  | 0x60, [g, c0, c1] => some (.setCapacity g.toNat (word c0 c1))
  | 0x61, [g] => some (.requestAllocation g.toNat)
  | 0x62, [g, k] => some (.readAllocation g.toNat k.toNat)
  | 0x63, [r] => some (.readRoomAir r.toNat)
  | 0x68, [s0, s1, c0, c1, o, w] =>
    some (.sceneWindow { firstScene := s0.toNat, lastScene := s1.toNat, firstChannel := c0.toNat, lastChannel := c1.toNat,
                         order := codeOf [.sceneMajor, .channelMajor] o, wrap := switchOf w })
  | 0x69, c :: levels => some (.sceneWriteStart c.toNat (levelsOf levels))
  | 0x6A, c :: levels => some (.sceneWriteContinue c.toNat (levelsOf levels))
  | 0x6B, [c] => some (.sceneReadStart c.toNat)
  | 0x6C, [c] => some (.sceneReadContinue c.toNat)
  | 0x6D, [e, c0, c1] => some (.setEconomy (switchOf e) (word c0 c1))
  | 0x6E, [f, u, n, t] =>
    some (.setFacade f.toNat (codeOf [.none, .sun, .glare] u) (codeOf [.heating, .cooling] n) (switchOf t))
  | 0x6F, [r] => some (.readRoomLighting r.toNat)
  | 0x70, [] => some .readWingLighting
  | 0x78, [a] => some (.readmitStation a.toNat)
  | 0x79, [a] => some (.readStation a.toNat)
  | 0x7A, [] => some .readLoopLog
  | _, _ => none

/-- The step that a whole select period makes (R188). -/
def decodePeriod (bytes : List Shifted) : Option Instr :=
  match framePeriod bytes with
  | .noCommand => none
  | .malformed c => some (.malformed c)
  | .unknown c => some (.unknownCommand c)
  | .command c params => commandOf c params

end Sys2Proof
end

