-- ==== Sys2Proof/Machine/State.lean ====
section
/-! DEFINITION. The state of the CW4832: every record, register, timer and flag that the manual gives each of its
eight blocks, the queue of steps that are waiting, and the values after power-on. -/
namespace Sys2Proof.Machine

/-! ## Status codes and resets -/

/-- The status codes of queued commands (R206). -/
inductive Status where
  | ok | okClamped | okOversize | range | conflict | dayFull | full | stale | notFound | live | groupBooked
  | roomBooked | duplicateAddress | notEnabled | past | closedDay | malformed | unknownCommand
  deriving DecidableEq, Repr

/-- What caused the last reset (R200). -/
inductive ResetCause where
  | powerOn | resetLine | restart
  deriving DecidableEq, Repr

/-! ## Configuration records -/

/-- A room record (R3, R10). Partition membership is not stored here: it is read from the group records (R16). -/
structure RoomRec where
  enabled : Bool
  station : Nat
  seats : Nat
  area : Nat
  areaRate : Nat
  vminUn : Nat
  vminOcc : Nat
  vmax : Nat
  airGroup : Option AirId
  channels : Nat
  daylight : Table 4 Bool
  blindCount : Nat
  facades : Table 2 FacadeId
  travels : Table 2 Nat
  doorCounting : Bool
  walkIn : Nat
  confirmTime : Nat
  quietTime : Nat
  deriving DecidableEq, Repr

/-- An activity profile (R11). Blind positions are held per mille. -/
structure Profile where
  lead : Nat
  noShow : Nat
  reclaim : Nat
  overrunLimit : Nat
  extStep : Nat
  maxExt : Nat
  still : Nat
  perPerson : Nat
  co2Target : Nat
  co2Gain : Nat
  band : Band
  scenePre : SceneId
  sceneAwait : SceneId
  sceneUse : SceneId
  sceneOver : SceneId
  policy : BlindPolicy
  blindPos : Nat
  glarePos : Nat
  luxTarget : Nat
  minDim : Nat
  fade : Nat
  deriving DecidableEq, Repr

/-! ## The calendar -/

/-- A date of the term (00_scope.md, Wing time). -/
structure Date where
  week : Nat
  weekday : Nat
  deriving DecidableEq, Repr

/-- The states of an agenda entry (R51). -/
inductive EntryState where
  | waiting | preconditioning | started | confirmed | ended | released | skipped
  deriving DecidableEq, Repr

/-- A running or paused no-show timer: seconds left (R54, R55). At 0 its expiry is due. -/
structure NoShow where
  left : Nat
  paused : Bool
  deriving DecidableEq, Repr

/-- An agenda entry (R51). -/
structure Entry where
  handle : Handle
  group : Bool
  start : Nat
  curEnd : Nat
  ext : Nat
  cls : ProfileId
  attendance : Nat
  state : EntryState
  timer : Option NoShow
  deriving DecidableEq, Repr

/-- A piece of the Calendar and Agenda Unit's own work that has arrived and is not applied yet (R52). -/
inductive CalWork where
  /-- a confirm request of a room for a handle (R57) -/
  | confirm (room : RoomId) (handle : Handle)
  /-- an end-now request naming a room and a handle; `host` when END_OCCURRENCE waits for its answer (R58, R91) -/
  | endNow (room : RoomId) (handle : Handle) (host : Bool)
  /-- the evaluation of a minute event at the minute it carries (R52, R53) -/
  | minute (m : Nat)
  /-- a no-show expiry (R54) -/
  | expiry (handle : Handle)
  /-- a room entered or left SAFE (R55) -/
  | safeChanged
  /-- a room became CLOSED (R59) -/
  | closed (room : RoomId)
  /-- a room re-entered the open range (R59, R88) -/
  | reopened (room : RoomId)
  /-- every room of a SET_OPEN_RANGE has been handled: its response is due (R86) -/
  | rangeDone
  deriving DecidableEq, Repr

/-- The Calendar and Agenda Unit less the agendas, which stand with their rooms (R46, R48, R52, R65). -/
structure Calendar where
  valid : Bool
  week : Nat
  weekday : Nat
  minute : Nat
  second : Nat
  /-- the second has passed 59 and the minute event it makes is not taken yet (assumption 2) -/
  minuteDue : Bool
  rolloverFlag : Bool
  closures : List Date
  gap : Nat
  work : List CalWork
  deriving DecidableEq, Repr

/-! ## The Booking Store -/

/-- What a record targets (R18). -/
inductive Target where
  | room (r : RoomId)
  | group (g : GroupId)
  deriving DecidableEq, Repr

/-- Why a record is suspended (R18). -/
inductive SuspendReason where
  | host | reclaimed
  deriving DecidableEq, Repr

/-- The state of a record, with its reason while SUSPENDED (R18). -/
inductive RecordState where
  | active
  | suspended (reason : SuspendReason)
  deriving DecidableEq, Repr

/-- A booking record (R18). For a SINGLE record first and last week are its week and there is no skip list. -/
structure Record where
  target : Target
  pattern : Pattern
  weekday : Nat
  firstWeek : Nat
  lastWeek : Nat
  skips : List Nat
  start : Nat
  stop : Nat
  cls : ProfileId
  attendance : Nat
  state : RecordState
  noShows : Nat
  releases : Nat
  deriving DecidableEq, Repr

/-- A slot: its generation, and the record it holds while live (R18). -/
structure Slot where
  gen : Nat
  record : Option Record
  deriving DecidableEq, Repr

/-- The two kinds of note (R77). -/
inductive NoteKind where
  | confirm | release
  deriving DecidableEq, Repr

/-- A room request waiting at the store arbiter (R42). -/
inductive RoomReq where
  | note (kind : NoteKind) (handle : Handle)
  | extend (handle : Handle) (step : Nat)
  deriving DecidableEq, Repr

/-- A host command at the store arbiter (R42). EXTEND_OCCURRENCE carries what the Room Service Unit accepted (R92). -/
inductive HostOp where
  | command (cmd : Instr)
  | extend (room : RoomId) (handle : Handle) (step : Nat)
  deriving DecidableEq, Repr

/-- A calendar step posted to the arbiter (R42, R43, R47). -/
inductive CalStep where
  | retire
  | build (room : RoomId)
  | termEnd
  deriving DecidableEq, Repr

/-- A store operation (R42). -/
inductive StoreOp where
  | host (op : HostOp)
  | room (room : RoomId) (req : RoomReq)
  | step (step : CalStep)
  deriving DecidableEq, Repr

/-- The date and minute an operation judges by: those at the instant it was taken (R42). -/
structure Instant where
  valid : Bool
  date : Date
  minute : Nat
  deriving DecidableEq, Repr

/-- The operation the arbiter is performing. -/
structure Running where
  op : StoreOp
  at_ : Instant
  deriving DecidableEq, Repr

/-- Why a run of builds is under way: only a rollover raises DAY_ROLLOVER at its end (R62, R65). -/
inductive Rebuild where
  | none | rollover | warmReset
  deriving DecidableEq, Repr

/-- The Booking Store and its arbiter (R18, R42, R43). -/
structure Store where
  slots : Table 512 Slot
  running : Option Running
  hostWait : Option HostOp
  steps : List CalStep
  rebuild : Rebuild
  deriving DecidableEq, Repr

/-! ## The Room Service Unit -/

/-- The eight service states (04_room_service_states.md). -/
inductive Service where
  | unconfigured | setback | precondition | awaiting | inUse | vacated | overrun | adHoc
  deriving DecidableEq, Repr

/-- The state a room acts in: a service state or an overlay (R67). -/
inductive Effective where
  | service (s : Service)
  | safe | hold | closed
  deriving DecidableEq, Repr

/-- A hold record with its remaining seconds (R66, R89, R90). -/
structure Hold where
  scene : SceneId
  blinds : Table 2 Nat
  flow : Nat
  band : Band
  expiry : Nat
  remaining : Nat
  deriving DecidableEq, Repr

/-- An occupant's blind override (R66, R83). -/
inductive Override where
  | none | up | down
  deriving DecidableEq, Repr

/-- The extend result sent to a panel (R66, R80). -/
inductive ExtendResult where
  | none | granted | refused
  deriving DecidableEq, Repr

/-- A room's context (R66). The note list is the notes among `requests`, which keeps notes and extension request in
the order they were raised (R43, R77). -/
structure Context where
  service : Service
  safe : Bool
  hold : Option Hold
  gov : Option Handle
  overrunStart : Option Nat
  trim : Int
  overrides : Table 2 Override
  requests : List RoomReq
  noteLost : Bool
  extPending : Bool
  extResult : ExtendResult
  outConfirm : Option Handle
  deriving DecidableEq, Repr

/-- What a contact last read (R95). -/
inductive Reading where
  | unknown | opened | closed
  deriving DecidableEq, Repr

/-- A contact record (R95). -/
structure Contact where
  reading : Reading
  settled : Bool
  timer : Option Nat
  deriving DecidableEq, Repr

/-- The states of a partition group (R96). -/
inductive GroupState where
  | split | partly | merged
  deriving DecidableEq, Repr

/-! ## The Occupancy Estimator -/

/-- Presence (06_occupancy_estimation.md). -/
inductive Presence where
  | empty | sensed | present | quiet
  deriving DecidableEq, Repr

/-- The estimate of one room, or of one MERGED group: tally, presence and their timers (R97, R109). -/
structure Estimate where
  tally : Nat
  presence : Presence
  sensedSince : Option Nat
  lastEvidence : Option Nat
  quiet : Option Nat
  frozenAt : Option Nat
  deriving DecidableEq, Repr

/-- A stored sensor value and its valid flag (R109, R112). -/
structure Sensor where
  value : Int
  valid : Bool
  deriving DecidableEq, Repr

/-- The status flags of a report (R109). -/
structure UnitFlags where
  restarted : Bool
  co2Fault : Bool
  luxFault : Bool
  doorFault : Bool
  deriving DecidableEq, Repr

/-- An estimator record (R109). -/
structure Estimator where
  cal : Calibration
  entriesBase : Option Nat
  exitsBase : Option Nat
  est : Estimate
  co2 : Sensor
  temp : Sensor
  lux : Sensor
  theta : Sensor
  motion : Nat
  flags : UnitFlags
  age : Option Nat
  deriving DecidableEq, Repr

/-- A partition group record: the leader, and each other member with its contact; the shared estimate is in use
while the group is MERGED (R15, R16, R95, R97). -/
structure PartGroup where
  leader : RoomId
  others : List (RoomId × Contact)
  state : GroupState
  shared : Estimate
  deriving DecidableEq, Repr

/-! ## The Air Share Unit -/

/-- How a demand was formed (R125). -/
inductive Basis where
  | none | fourStage | safeFloor | holdFlow
  deriving DecidableEq, Repr

/-- A demand record (R125). -/
structure Demand where
  basis : Basis
  nEff : Nat
  vb : Nat
  trim : Nat
  vv : Nat
  vt : Nat
  d : Nat
  f : Nat
  grant : Nat
  tier : Option Nat
  deriving DecidableEq, Repr

/-- The triggers a pass serves (R132, R137). -/
structure TriggerSet where
  capacityWrite : Bool
  memberChange : Bool
  period : Bool
  hostRequest : Bool
  reset : Bool
  deriving DecidableEq, Repr

/-- The four shortage flags of an air group (R132). -/
structure ShortFlags where
  floor : Bool
  tier1 : Bool
  tier2 : Bool
  tier3 : Bool
  deriving DecidableEq, Repr

/-- One member's line of a pass record (R132). -/
structure PassMember where
  room : RoomId
  tier : Nat
  d : Nat
  f : Nat
  grant : Nat
  deriving DecidableEq, Repr

/-- What a pass reads and decides (R132, R139 to R142). -/
structure PassRecord where
  capacity : Nat
  triggers : TriggerSet
  sumF : Nat
  members : List PassMember
  flags : ShortFlags
  unallocated : Nat
  deriving DecidableEq, Repr

/-- An air group: its record and its running state (R17, R132). A pass that runs has decided its grants when it
started, from what it read then; they land when it completes (R137, R142). -/
structure AirGroup where
  fallback : Nat
  period : Nat
  mask : TriggerMask
  capacity : Nat
  timer : Nat
  pending : Bool
  triggers : TriggerSet
  passCount : Nat
  flags : ShortFlags
  unallocated : Nat
  last : PassRecord
  running : Option PassRecord
  deriving DecidableEq, Repr

/-! ## The Light and Shade Unit -/

/-- A façade record (R159). -/
structure Facade where
  sun : Sun
  season : Season
  retract : Switch
  deriving DecidableEq, Repr

/-- The scene window with its pointer (R148). -/
structure Window where
  firstScene : SceneId
  lastScene : SceneId
  firstChannel : ChannelId
  lastChannel : ChannelId
  order : ScanOrder
  wrap : Switch
  scene : SceneId
  channel : ChannelId
  pastEnd : Bool
  deriving DecidableEq, Repr

/-- A room's lighting output record (R153). -/
structure LightOut where
  scene : Option SceneId
  levels : Table 4 Nat
  fade : Nat
  daylight : Bool
  deriving DecidableEq, Repr

/-- The motion of a blind group (R162). -/
inductive Motion where
  | still | raising | lowering | stopping | pausing
  deriving DecidableEq, Repr

/-- The direction of a blind command (R162). -/
inductive Dir where
  | up | down | stop
  deriving DecidableEq, Repr

/-- A blind command (R162). A STOP has no origin or destination; a first reference run has no origin. -/
structure BlindCmd where
  token : Token
  dir : Dir
  run : Nat
  origin : Option Nat
  dest : Option Nat
  reference : Bool
  echoed : Bool
  deriving DecidableEq, Repr

/-- The command a STOP replaced (R162). Its elapsed count is the travel timer's. -/
structure StoppedMove where
  token : Token
  origin : Option Nat
  dest : Option Nat
  run : Nat
  echoed : Bool
  deriving DecidableEq, Repr

/-- The travel timer: the elapsed tenths it was last set to, and the wing-clock cycles counted since (R162). -/
structure Travel where
  base : Nat
  cycles : Nat
  deriving DecidableEq, Repr

/-- A blind group's travel model (R162). `position` is `none` while UNKNOWN. -/
structure Blind where
  position : Option Nat
  motion : Motion
  target : Option Nat
  pending : Option Nat
  cmd : Option BlindCmd
  timer : Travel
  /-- cycles counted by the pause timer while it runs -/
  pause : Option Nat
  stopped : Option StoppedMove
  unitToken : Option Token
  sent : List Token
  moves : Nat
  deriving DecidableEq, Repr

/-! ## The Room Loop Controller -/

/-- The states of a station (R175, R181). -/
inductive StationState where
  | active | warning | degraded | off
  deriving DecidableEq, Repr

/-- A station record of the scan list (R175). It stands with its room, since an enabled room has exactly one. -/
structure Station where
  address : Nat
  state : StationState
  health : Nat
  lastError : Nat
  goodProbes : Nat
  readmit : Bool
  lastEvent : Option Token
  deriving DecidableEq, Repr

/-- The two kinds of exchange (R171). -/
inductive ExchangeKind where
  | setpoint | probe
  deriving DecidableEq, Repr

/-- The exchange in progress: the visited room and address, the kind, the frame sent, and whether the room has lost
the station record it was begun with (R174). -/
structure Exchange where
  room : RoomId
  address : Nat
  kind : ExchangeKind
  frame : List Byte
  orphan : Bool
  deriving DecidableEq, Repr

/-- The Room Loop Controller less the station records (R176, R186, R187). -/
structure Loop where
  roundCount : Nat
  /-- wing-clock cycles since the round in progress, or the last one, began -/
  roundTimer : Nat
  /-- no round has begun since the reset: round 0 begins as soon as the reset is over -/
  firstRound : Bool
  active : Bool
  lastAddress : Nat
  exchange : Option Exchange
  logCount : Nat
  logOverflow : Bool
  deriving DecidableEq, Repr

/-! ## One room across the blocks -/

/-- Everything the eight blocks keep for one room. -/
structure Room where
  cfg : RoomRec
  ctx : Context
  agenda : List Entry
  oce : Estimator
  air : Demand
  light : LightOut
  blinds : Table 2 Blind
  station : Option Station
  deriving DecidableEq, Repr

/-! ## The Supervisor Port -/

/-- The room-status image before it is laid out (R93, R207). -/
structure StatusImage where
  room : RoomId
  enabled : Bool
  safe : Bool
  hold : Bool
  closed : Bool
  noteLost : Bool
  extPending : Bool
  effective : Effective
  service : Service
  groupService : Option Service
  group : Option GroupId
  groupState : Option GroupState
  gov : Option Handle
  govState : Option EntryState
  overrunStart : Option Nat
  presence : Presence
  tally : Nat
  d : Nat
  f : Nat
  grant : Nat
  station : Option StationState
  trim : Int
  overrides : Table 2 Override
  extResult : ExtendResult
  notes : Nat
  holdRecord : Option Hold
  indicator : Nat
  nextStart : Nat
  deriving DecidableEq, Repr

/-- The answer of READ_ROOM_SENSORS (R124). -/
structure SensorImage where
  room : RoomId
  co2 : Sensor
  temp : Sensor
  lux : Sensor
  theta : Sensor
  motion : Nat
  flags : UnitFlags
  tally : Nat
  tallyLimit : Nat
  presence : Presence
  quiet : Option Nat
  entriesSet : Bool
  exitsSet : Bool
  frozen : Bool
  age : Option Nat
  deriving DecidableEq, Repr

/-- The answer of READ_ALLOCATION (R146). -/
structure AllocationImage where
  group : AirId
  capacity : Nat
  fallback : Nat
  period : Nat
  timer : Nat
  mask : TriggerMask
  pending : Bool
  passCount : Nat
  usedCapacity : Nat
  triggers : TriggerSet
  sumF : Nat
  flags : ShortFlags
  unallocated : Nat
  memberCount : Nat
  members : List PassMember
  deriving DecidableEq, Repr

/-- The answer of READ_ROOM_AIR (R147). -/
structure RoomAirImage where
  room : RoomId
  group : Option AirId
  demand : Demand
  band : Option Band
  deriving DecidableEq, Repr

/-- One blind group in the answer of READ_ROOM_LIGHTING (R170): positions and targets in per cent. -/
structure BlindImage where
  target : Option Nat
  position : Option Nat
  motion : Motion
  modelled : Option Nat
  command : Option (Token × Dir × Nat × Bool)
  elapsed : Nat
  pending : Option Nat
  unitToken : Option Token
  moves : Nat
  deriving DecidableEq, Repr

/-- A candidate of the free-room search: kind, number and slack (R34). -/
structure Candidate where
  target : Target
  slack : Nat
  deriving DecidableEq, Repr

/-- The result part of a response, as the owning chapters give it (R191). -/
inductive Result where
  | none
  | attention (enables lines : BitVec 11)
  | resetCause (cause : ResetCause) (clockKept storeKept : Bool)
  | room (room : RoomId) (record : RoomRec) (membership : Option (GroupId × Bool))
  | profile (profile : ProfileId) (record : Profile)
  | wing (gap : Nat) (setback : Band) (silence : Nat)
  | partition (group : GroupId) (record : Option PartGroup)
  | airGroup (group : AirId) (fallback period : Nat) (mask : TriggerMask) (members : List RoomId)
  | calibration (room : RoomId) (record : Calibration)
  | booking (handle : Handle) (record : Record)
  | record (record : Record)
  | handle (handle : Handle)
  | handlePair (a b : Handle)
  | roomPair (room : RoomId) (a b : Handle)
  | dayFull (date : Date) (room : RoomId)
  | bookingList (handles : List Handle) (more : Bool)
  | agenda (count : Nat) (entries : List Entry)
  | candidates (list : List Candidate)
  | clock (valid : Bool) (date : Date) (minute second : Nat) (closure rollover : Bool)
  | clockSet (date : Date) (minute retired : Nat)
  | closureCount (count : Nat)
  | closures (count : Nat) (dates : List Date)
  | hold (room : RoomId) (record : Hold)
  | ended (handle : Handle) (minute : Nat)
  | extended (handle : Handle) (curEnd ext : Nat)
  | status (image : StatusImage)
  | sensors (image : SensorImage)
  | capacity (group : AirId) (capacity : Nat)
  | passStarted (started : Bool)
  | allocation (image : AllocationImage)
  | roomAir (image : RoomAirImage)
  | window (window : Window)
  | sceneWritten (stored dropped : Nat) (scene : SceneId) (channel : ChannelId) (pastEnd : Bool)
  | sceneLevels (levels : List Nat) (scene : SceneId) (channel : ChannelId) (pastEnd : Bool)
  | economy (state : Switch) (cap : Nat)
  | facade (facade : FacadeId) (record : Facade)
  | roomLighting (room : RoomId) (light : LightOut) (trim : Int) (blinds : Table 2 BlindImage)
  | wingLighting (facades : Table 6 Facade) (economy : Switch) (cap : Nat) (window : Window)
  | readmitted (room : RoomId) (state : StationState)
  | station (room : RoomId) (record : Station) (roundCount : Nat)
  | loopLog (count : Nat) (overflow : Bool) (roundCount : Nat)
  deriving DecidableEq, Repr

/-- A response in a DONE slot (R191). -/
structure Response where
  status : Status
  code : Byte
  late : Bool
  result : Result
  deriving DecidableEq, Repr

/-- The command slot (R190). -/
inductive CommandSlot where
  | empty
  | executing (cmd : Instr) (late : Bool)
  | done (response : Response)
  deriving DecidableEq, Repr

/-- The response header of READ_RESPONSE (R204). -/
structure Header where
  slotState : Nat
  status : Byte
  code : Byte
  late : Bool
  length : Nat
  deriving DecidableEq, Repr

/-- What the port clocks out after the last immediate command (R189, R204). -/
inductive PortOut where
  | nothing
  | bytes (bytes : List Byte)
  /-- the response of READ_RESPONSE; `bytes` are the header's six and the result's -/
  | response (header : Header) (result : Result) (bytes : List Byte)
  deriving DecidableEq, Repr

/-- Why a slot stands in the booking change set (R195). -/
inductive ChangeReason where
  | retired | reclaimed
  deriving DecidableEq, Repr

/-- An entry of the booking change set (R195). -/
structure BookingChange where
  slot : SlotId
  gen : Nat
  reason : ChangeReason
  deriving DecidableEq, Repr

/-- The Supervisor Port (R190 to R201). Attention masks have bit 0 for RESPONSE_READY to bit 10 for RESET (R204). -/
structure Port where
  slot : CommandSlot
  flags : BitVec 11
  enables : BitVec 11
  lines : BitVec 11
  roomChanges : Table 48 Bool
  bookingChanges : List BookingChange
  present : Bool
  silenceTimer : Nat
  silenceTime : Nat
  cause : ResetCause
  clockKept : Bool
  storeKept : Bool
  out : PortOut
  deriving DecidableEq, Repr

/-! ## The whole machine -/

/-- The state of the part. `divider` counts the wing-clock cycles of the second in progress, `oceNow` is the
estimator's own second count (R109), and `pending` is the queue of steps that are waiting, first in, first out. -/
structure State where
  port : Port
  store : Store
  cal : Calendar
  rooms : Table 48 Room
  groups : Table 8 (Option PartGroup)
  profiles : Table 8 Profile
  setback : Band
  openFirst : RoomId
  openLast : RoomId
  oceNow : Nat
  airs : Table 4 AirGroup
  scenes : Table 16 (Table 4 Nat)
  window : Window
  economy : Switch
  cap : Nat
  facades : Table 6 Facade
  loop : Loop
  divider : Nat
  pending : List Instr
  deriving DecidableEq, Repr

/-- No step of this part stops in a fault: the manual describes none. -/
inductive Fault where
  deriving DecidableEq, Repr

/-- Why a step has no meaning. -/
inductive Refusal where
  /-- raised by `exec` for a row of the table that is not modelled yet; safe -/
  | notModelled (mnemonic : String)
  deriving DecidableEq, Repr

/-! ## Values after power-on -/

/-- The room record after power-on (R10): the station address is the room number plus 1. -/
def RoomRec.reset (r : RoomId) : RoomRec :=
  { enabled := false, station := r.val + 1, seats := 30, area := 60, areaRate := 30, vminUn := 20, vminOcc := 60,
    vmax := 300, airGroup := none, channels := 0, daylight := .fill 4 false, blindCount := 0, facades := .fill 2 0,
    travels := .fill 2 300, doorCounting := false, walkIn := 10, confirmTime := 120, quietTime := 600 }

/-- A profile after power-on (R11). -/
def Profile.reset : Profile :=
  { lead := 15, noShow := 15, reclaim := 0, overrunLimit := 30, extStep := 15, maxExt := 30, still := 20,
    perPerson := 80, co2Target := 1000, co2Gain := 40, band := ⟨200, 240⟩, scenePre := 0, sceneAwait := 0,
    sceneUse := 0, sceneOver := 0, policy := .fixed, blindPos := 0, glarePos := 0, luxTarget := 500, minDim := 100,
    fade := 3 }

/-- A room context after power-on (R66). -/
def Context.reset : Context :=
  { service := .unconfigured, safe := false, hold := none, gov := none, overrunStart := none, trim := 0,
    overrides := .fill 2 .none, requests := [], noteLost := false, extPending := false, extResult := .none,
    outConfirm := none }

/-- An estimate with nobody in it (R109). -/
def Estimate.reset : Estimate :=
  { tally := 0, presence := .empty, sensedSince := none, lastEvidence := none, quiet := none, frozenAt := none }

/-- The neutral calibration (R109). -/
def neutralCalibration : Calibration :=
  { co2Gain := 1024, co2Offset := 0, luxGain := 1024, luxOffset := 0, tempOffset := 0 }

/-- An estimator record as a reset leaves it, with its calibration (R109). -/
def Estimator.fresh (cal : Calibration) : Estimator :=
  { cal := cal, entriesBase := none, exitsBase := none, est := .reset, co2 := ⟨0, false⟩, temp := ⟨0, false⟩,
    lux := ⟨0, false⟩, theta := ⟨0, false⟩, motion := 0, flags := ⟨false, false, false, false⟩, age := none }

/-- A demand record after power-on (R125). -/
def Demand.reset : Demand :=
  { basis := .none, nEff := 0, vb := 0, trim := 0, vv := 0, vt := 0, d := 0, f := 0, grant := 0, tier := none }

/-- No trigger (R132). -/
def TriggerSet.none : TriggerSet := ⟨false, false, false, false, false⟩

/-- No shortage (R132). -/
def ShortFlags.clear : ShortFlags := ⟨false, false, false, false⟩

/-- The empty pass record (R132). -/
def PassRecord.empty : PassRecord :=
  { capacity := 0, triggers := .none, sumF := 0, members := [], flags := .clear, unallocated := 0 }

/-- An air group after power-on (R17, R132). -/
def AirGroup.reset : AirGroup :=
  { fallback := 0, period := 0, mask := ⟨true, true, true, true⟩, capacity := 0, timer := 0, pending := false,
    triggers := .none, passCount := 0, flags := .clear, unallocated := 0, last := .empty, running := none }

/-- A lighting output record with everything dark (R153). -/
def LightOut.dark : LightOut := { scene := none, levels := .fill 4 0, fade := 0, daylight := false }

/-- A travel model after a reset (R162). -/
def Blind.reset : Blind :=
  { position := none, motion := .still, target := none, pending := none, cmd := none, timer := ⟨0, 0⟩, pause := none,
    stopped := none, unitToken := none, sent := [], moves := 20 }

/-- A station record as it joins the scan list (R175). -/
def Station.joining (address : Nat) : Station :=
  { address := address, state := .active, health := 0, lastError := 0, goodProbes := 0, readmit := false,
    lastEvent := none }

/-- The loop controller after any reset (R187). -/
def Loop.reset : Loop :=
  { roundCount := 0, roundTimer := 0, firstRound := true, active := false, lastAddress := 0, exchange := none,
    logCount := 0, logOverflow := false }

/-- A room after power-on. -/
def Room.reset (r : RoomId) : Room :=
  { cfg := .reset r, ctx := .reset, agenda := [], oce := .fresh neutralCalibration, air := .reset, light := .dark,
    blinds := .fill 2 .reset, station := none }

/-- The scene window after power-on (R148). -/
def Window.reset : Window :=
  { firstScene := 0, lastScene := 15, firstChannel := 0, lastChannel := 3, order := .sceneMajor, wrap := .off,
    scene := 0, channel := 0, pastEnd := false }

/-- The port after power-on (R201): RESET is set, RESET and RESPONSE_READY are enabled, every line select is A. -/
def Port.reset : Port :=
  { slot := .empty, flags := 0x400#11, enables := 0x401#11, lines := 0#11, roomChanges := .fill 48 false,
    bookingChanges := [], present := true, silenceTimer := 0, silenceTime := 15, cause := .powerOn,
    clockKept := false, storeKept := false, out := .nothing }

/-- The calendar after power-on (R46, R65). -/
def Calendar.reset : Calendar :=
  { valid := false, week := 0, weekday := 0, minute := 0, second := 0, minuteDue := false, rolloverFlag := false,
    closures := [], gap := 10, work := [] }

/-- The store after power-on (R45). -/
def Store.reset : Store :=
  { slots := .fill 512 ⟨0, none⟩, running := none, hostWait := none, steps := [], rebuild := .none }

/-- The machine after power-on. -/
def State.reset : State :=
  { port := .reset, store := .reset, cal := .reset, rooms := .ofFn Room.reset, groups := .fill 8 none,
    profiles := .fill 8 .reset, setback := ⟨160, 280⟩, openFirst := 0, openLast := 47, oceNow := 0,
    airs := .fill 4 .reset, scenes := .fill 16 (.fill 4 0), window := .reset, economy := .off, cap := 1000,
    facades := .fill 6 ⟨.none, .heating, .off⟩, loop := .reset, divider := 0, pending := [] }

end Sys2Proof.Machine
end

