-- ==== Sys2Proof/Machine/Flags.lean ====
section
/-! DEFINITION. The eleven attention causes, their flags and the two attention lines (R196, R197, R204). -/
namespace Sys2Proof.Machine

/-- The attention causes in the order of their mask bits (R204). -/
inductive Cause where
  | responseReady | roomsChanged | bookingsChanged | stationWarning | stationOff | airShort | dayRollover
  | clockInvalid | hostAbsent | loopLogOverflow | reset
  deriving DecidableEq, Repr

/-- The mask bit of a cause (R204). -/
def Cause.index : Cause → Nat
  | .responseReady => 0
  | .roomsChanged => 1
  | .bookingsChanged => 2
  | .stationWarning => 3
  | .stationOff => 4
  | .airShort => 5
  | .dayRollover => 6
  | .clockInvalid => 7
  | .hostAbsent => 8
  | .loopLogOverflow => 9
  | .reset => 10

/-- The mask with a cause's bit alone. -/
def Cause.mask (c : Cause) : BitVec 11 := 1#11 <<< c.index

/-- An event of a cause sets its flag, whatever its enable (R196). -/
def Port.raise (p : Port) (c : Cause) : Port := { p with flags := p.flags ||| c.mask }

/-- The same, where a condition holds. -/
def Port.raiseIf (p : Port) (b : Bool) (c : Cause) : Port := if b then p.raise c else p

/-- ATTN_A: a flag set, enabled and selected to line A (R197). -/
def Port.lineA (p : Port) : Bool := p.flags &&& p.enables &&& ~~~p.lines ≠ 0#11

/-- ATTN_B: a flag set, enabled and selected to line B (R197). -/
def Port.lineB (p : Port) : Bool := p.flags &&& p.enables &&& p.lines ≠ 0#11

/-- ACK_ATTENTION: masked flags clear, and a change-set flag so cleared is set again at once while its set is not empty
(R196). Mask bits that name no cause are disregarded (R189). -/
def Port.acknowledge (p : Port) (mask : Word16) : Port :=
  let m := mask.setWidth 11
  let q := { p with flags := p.flags &&& ~~~m }
  let again (c : Cause) (nonEmpty : Bool) : Bool := m &&& c.mask ≠ 0#11 && nonEmpty
  (q.raiseIf (again .roomsChanged (p.roomChanges.any id)) .roomsChanged).raiseIf
    (again .bookingsChanged (!p.bookingChanges.isEmpty)) .bookingsChanged

/-- A room enters the room change set, which raises ROOMS_CHANGED (R194). -/
def Port.roomChanged (p : Port) (r : RoomId) : Port :=
  { p with roomChanges := p.roomChanges.set r true }.raise .roomsChanged

/-- An entry put at its place by slot, replacing an earlier one of the same slot (R195). -/
def insertChange (c : BookingChange) : List BookingChange → List BookingChange
  | [] => [c]
  | x :: rest =>
    if c.slot = x.slot then c :: rest else if c.slot < x.slot then c :: x :: rest else x :: insertChange c rest

/-- An entry is added to the booking change set, which raises BOOKINGS_CHANGED (R195). -/
def Port.bookingChanged (p : Port) (c : BookingChange) : Port :=
  { p with bookingChanges := insertChange c p.bookingChanges }.raise .bookingsChanged

end Sys2Proof.Machine
end

