-- ==== Sys2Proof/Machine/Operands.lean ====
section
/-! DEFINITION. Operands: range checks, clamps and roundings of the fields a command carries (R1, R24, R202). -/
namespace Sys2Proof.Machine

/-- A number as an index below `n`, if it is one (R1: a number outside the record's range is refused RANGE). -/
def asIndex (n k : Nat) : Option (Fin n) := if h : k < n then some ⟨k, h⟩ else none

/-- A room number, 0..47. -/
def asRoom (k : Nat) : Option RoomId := asIndex 48 k

/-- Rounded up to a multiple of 5 (R11, R14, R24). -/
def roundUp5 (n : Nat) : Nat := (n + 4) / 5 * 5

/-- Rounded down to a multiple of 5 (R24). -/
def roundDown5 (n : Nat) : Nat := n / 5 * 5

/-- A date as a day of the term, for "earlier" and "later". -/
def Date.day (d : Date) : Nat := d.week * 7 + d.weekday

/-- Whether a date lies on the calendar of the term (R48). -/
def Date.inTerm (d : Date) : Bool := d.week < 64 && d.weekday < 7

/-- A band brought into −200..600 (R3, R11, R14, R89). -/
def clampBand (b : Band) : Band := ⟨clampInt (-200) 600 b.heat, clampInt (-200) 600 b.cool⟩

/-- The order check of every band: the cool setpoint at least 10 tenths above the heat setpoint (R11, R14, R89). -/
def bandOrdered (b : Band) : Bool := b.heat + 10 ≤ b.cool

/-- The clamped fields of a WRITE_ROOM (R3). -/
def clampRoom (w : RoomWrite) : RoomWrite :=
  { w with seats := clampNat 1 500 w.seats, area := clampNat 10 1000 w.area, areaRate := clampNat 0 200 w.areaRate,
           vminUn := clampNat 0 3000 w.vminUn, vminOcc := clampNat 0 3000 w.vminOcc, vmax := clampNat 0 3000 w.vmax,
           travels := .two (clampNat 5 1200 (w.travels.get 0)) (clampNat 5 1200 (w.travels.get 1)),
           walkIn := clampNat 1 50 w.walkIn, confirmTime := clampNat 30 600 w.confirmTime,
           quietTime := clampNat 60 1800 w.quietTime }

/-- The record of a clamped WRITE_ROOM whose coded fields lie within their ranges (R3). -/
def roomRecOf (w : RoomWrite) : Option RoomRec := do
  let airGroup ← match w.airGroup with
    | none => some none
    | some g => (asIndex 4 g).map some
  let f0 ← asIndex 6 (w.facades.get 0)
  let f1 ← asIndex 6 (w.facades.get 1)
  if 1 ≤ w.station ∧ w.station ≤ 62 ∧ w.channels ≤ 4 ∧ w.blindCount ≤ 2 then
    some { enabled := w.enabled, station := w.station, seats := w.seats, area := w.area, areaRate := w.areaRate,
           vminUn := w.vminUn, vminOcc := w.vminOcc, vmax := w.vmax, airGroup := airGroup, channels := w.channels,
           daylight := w.daylight, blindCount := w.blindCount, facades := .two f0 f1, travels := w.travels,
           doorCounting := w.doorCounting, walkIn := w.walkIn, confirmTime := w.confirmTime,
           quietTime := w.quietTime }
  else none

/-- The clamped and rounded fields of a WRITE_PROFILE (R11). -/
def clampProfile (w : ProfileWrite) : ProfileWrite :=
  { w with lead := clampNat 0 120 w.lead, noShow := clampNat 0 60 w.noShow, reclaim := clampNat 0 15 w.reclaim,
           overrunLimit := clampNat 0 60 w.overrunLimit, extStep := roundUp5 (clampNat 5 30 w.extStep),
           maxExt := clampNat 0 120 w.maxExt, still := clampNat 1 120 w.still,
           perPerson := clampNat 25 200 w.perPerson, co2Target := clampNat 600 1500 w.co2Target,
           co2Gain := clampNat 0 255 w.co2Gain, band := clampBand w.band, blindPos := clampNat 0 100 w.blindPos,
           glarePos := clampNat 0 100 w.glarePos, luxTarget := clampNat 100 1000 w.luxTarget,
           minDim := clampNat 0 1000 w.minDim, fade := clampNat 0 60 w.fade }

/-- The profile of a clamped WRITE_PROFILE that passes its structural checks (R11); every failure is RANGE. -/
def profileOf (w : ProfileWrite) : Option Profile := do
  let preScene ← asIndex 16 w.scenePre
  let awaitScene ← asIndex 16 w.sceneAwait
  let useScene ← asIndex 16 w.sceneUse
  let overScene ← asIndex 16 w.sceneOver
  let policy ← w.policy
  if bandOrdered w.band then
    some { lead := w.lead, noShow := w.noShow, reclaim := w.reclaim, overrunLimit := w.overrunLimit,
           extStep := w.extStep, maxExt := w.maxExt, still := w.still, perPerson := w.perPerson,
           co2Target := w.co2Target, co2Gain := w.co2Gain, band := w.band, scenePre := preScene, sceneAwait := awaitScene,
           sceneUse := useScene, sceneOver := overScene, policy := policy, blindPos := w.blindPos * 10,
           glarePos := w.glarePos * 10, luxTarget := w.luxTarget, minDim := w.minDim, fade := w.fade }
  else none

/-- The clamped calibration (R109, R113). -/
def clampCalibration (c : Calibration) : Calibration :=
  { co2Gain := clampNat 0 2047 c.co2Gain, co2Offset := clampInt (-500) 500 c.co2Offset,
    luxGain := clampNat 0 2047 c.luxGain, luxOffset := clampInt (-200) 200 c.luxOffset,
    tempOffset := clampInt (-50) 50 c.tempOffset }

/-- The clamped hold fields (R89). -/
def clampHold (h : HoldFields) : HoldFields :=
  { h with blinds := .two (clampNat 0 100 (h.blinds.get 0)) (clampNat 0 100 (h.blinds.get 1)),
           flow := clampNat 0 3000 h.flow, band := clampBand h.band, expiry := clampNat 0 1440 h.expiry }

/-- OK, or OK_CLAMPED where a field was clamped or rounded (R1, R193). -/
def okStatus (clamped : Bool) : Status := if clamped then .okClamped else .ok

/-- The times and the attendance of a booking after R24's adjustments. -/
structure Times where
  start : Nat
  stop : Nat
  attendance : Nat
  clamped : Bool
  deriving DecidableEq, Repr

/-- R24's rows for start, end and length, and for attendance. `none` is RANGE. -/
def adjustTimes (start stop attendance : Nat) : Option Times :=
  if start ≤ 1439 ∧ 1 ≤ stop ∧ stop ≤ 1440 ∧ roundDown5 start + 15 ≤ roundUp5 stop then
    some { start := roundDown5 start, stop := roundUp5 stop, attendance := min 500 attendance,
           clamped := roundDown5 start ≠ start || roundUp5 stop ≠ stop || min 500 attendance ≠ attendance }
  else none

/-- Whether skip weeks are in order, distinct, and within the run of weeks (R24). -/
def skipsInOrder (first last : Nat) : List Nat → Bool
  | [] => true
  | w :: rest => first ≤ w && w ≤ last && rest.all (w < ·) && skipsInOrder first last rest

/-- The target of booking fields (R24). -/
def targetOf (f : BookingFields) : Option Target :=
  if f.group then (asIndex 8 f.number).map .group else (asRoom f.number).map .room

/-- The weeks of booking fields: first, last and skip list (R24). A SINGLE booking has one week and no skip list. -/
def weeksOf (f : BookingFields) : Option (Pattern × Nat × Nat × List Nat) :=
  match f.pattern with
  | none => none
  | some .single => if f.firstWeek ≤ 63 then some (.single, f.firstWeek, f.firstWeek, []) else none
  | some .weekly =>
    let skips := f.skips.list.take f.skipCount
    if f.firstWeek ≤ f.lastWeek ∧ f.lastWeek ≤ 63 ∧ f.skipCount ≤ 4 ∧ skipsInOrder f.firstWeek f.lastWeek skips
        ∧ f.skipCount < f.lastWeek - f.firstWeek + 1 then
      some (.weekly, f.firstWeek, f.lastWeek, skips)
    else none

/-- The record that booking fields describe, ACTIVE with counts 0, and whether a field was clamped or rounded (R24,
R25). `none` is RANGE: every row of R24's table refuses with the same status. -/
def recordOf (f : BookingFields) : Option (Record × Bool) := do
  let target ← targetOf f
  let (pattern, first, last, skips) ← weeksOf f
  let t ← adjustTimes f.start f.stop f.attendance
  let cls ← asIndex 8 f.cls
  if f.weekday < 7 ∧ 1 ≤ f.cls then
    some ({ target := target, pattern := pattern, weekday := f.weekday, firstWeek := first, lastWeek := last,
            skips := skips, start := t.start, stop := t.stop, cls := cls, attendance := t.attendance,
            state := .active, noShows := 0, releases := 0 }, t.clamped)
  else none

/-- Room numbers of a partition write as rooms (R15, check 1). -/
def membersOf : List Nat → Option (List RoomId)
  | [] => some []
  | n :: rest => do
    let r ← asRoom n
    let rs ← membersOf rest
    some (r :: rs)

/-- A room put at its place in ascending order. -/
def insertRoom (r : RoomId) : List RoomId → List RoomId
  | [] => [r]
  | x :: rest => if r ≤ x then r :: x :: rest else x :: insertRoom r rest

/-- Rooms in ascending order (R16). -/
def sortRooms : List RoomId → List RoomId
  | [] => []
  | r :: rest => insertRoom r (sortRooms rest)

/-- Whether no room is repeated (R15, check 1). -/
def noRepeat : List RoomId → Bool
  | [] => true
  | r :: rest => !rest.contains r && noRepeat rest

end Sys2Proof.Machine
end

