-- ==== Sys2Proof/Machine/Views.lean ====
section
/-! DEFINITION. What one block reads of another: effective states, governing entries and profiles, shared estimates,
occupant figures, bands, panel codes and the dates of records. Nothing here changes the state. -/
namespace Sys2Proof.Machine

/-! ## Rooms and groups -/

/-- Everything kept for one room. -/
def State.room (s : State) (r : RoomId) : Room := s.rooms.get r

/-- The rooms in ascending order. -/
def allRooms : List RoomId := List.finRange 48

/-- The members of a partition group in ascending order, the leader first (R16). -/
def PartGroup.members (p : PartGroup) : List RoomId := p.leader :: p.others.map (·.1)

/-- The partition group a room belongs to (R15: at most one). -/
def State.groupOf (s : State) (r : RoomId) : Option (GroupId × PartGroup) :=
  (List.finRange 8).findSome? fun g =>
    match s.groups.get g with
    | some p => if p.members.contains r then some (g, p) else none
    | none => none

/-- The MERGED partition group a room belongs to, if its group is MERGED. -/
def State.mergedOf (s : State) (r : RoomId) : Option (GroupId × PartGroup) :=
  match s.groupOf r with
  | some (g, p) => if p.state = .merged then some (g, p) else none
  | none => none

/-- Whether a room number lies in the open range, which wraps when its first room is above its last (R86). -/
def State.inOpenRange (s : State) (r : RoomId) : Bool :=
  if s.openFirst ≤ s.openLast then s.openFirst ≤ r && r ≤ s.openLast else s.openFirst ≤ r || r ≤ s.openLast

/-- Whether a room is CLOSED: enabled and outside the open range (R66, R67). -/
def State.closed (s : State) (r : RoomId) : Bool := (s.room r).cfg.enabled && !s.inOpenRange r

/-- The order of service states in a MERGED group (R99). -/
def Service.rank : Service → Nat
  | .inUse => 7
  | .overrun => 6
  | .vacated => 5
  | .awaiting => 4
  | .adHoc => 3
  | .precondition => 2
  | .setback => 1
  | .unconfigured => 0

/-- The governing member of a group: highest rank, ties to the lower room number (R100). -/
def State.governor (s : State) (p : PartGroup) : RoomId :=
  p.members.foldl (fun best r => if (s.room best).ctx.service.rank < (s.room r).ctx.service.rank then r else best)
    p.leader

/-- The room whose service state and governing entry a room acts by: itself, or its MERGED group's governing member
(R99, R100). -/
def State.govRoom (s : State) (r : RoomId) : RoomId :=
  match s.mergedOf r with
  | some (_, p) => s.governor p
  | none => r

/-- The service state a room acts by beneath any overlay: its own, or the group service state (R67, R99). -/
def State.base (s : State) (r : RoomId) : Service := (s.room (s.govRoom r)).ctx.service

/-- A room's effective state (R67). -/
def State.effective (s : State) (r : RoomId) : Effective :=
  let x := s.room r
  if !x.cfg.enabled then .service .unconfigured
  else if x.ctx.safe then .safe
  else if x.ctx.hold.isSome then .hold
  else if s.closed r then .closed
  else .service (s.base r)

/-! ## Entries and profiles -/

/-- The entry of a handle in an agenda; an agenda holds at most one (R51). -/
def entryOf (a : List Entry) (h : Handle) : Option Entry := a.find? fun e => e.handle == h

/-- The entry in state STARTED or CONFIRMED (R68: at most one at any minute). -/
def activeEntry (a : List Entry) : Option Entry := a.find? fun e => e.state == .started || e.state == .confirmed

/-- The earliest PRECONDITIONING entry: agendas stand in order of start (R51, R68). -/
def firstPrecond (a : List Entry) : Option Entry := a.find? fun e => e.state == .preconditioning

/-- A terminal entry state (R51). -/
def EntryState.terminal : EntryState → Bool
  | .ended => true
  | .released => true
  | .skipped => true
  | _ => false

/-- A live entry state (R51). -/
def EntryState.live : EntryState → Bool
  | .preconditioning => true
  | .started => true
  | .confirmed => true
  | _ => false

/-- A room's own governing entry as its agenda now shows it. -/
def State.ownEntry (s : State) (r : RoomId) : Option Entry :=
  (s.room r).ctx.gov.bind (entryOf (s.room r).agenda)

/-- The governing handle a room acts by (R68, R100). -/
def State.govHandle (s : State) (r : RoomId) : Option Handle := (s.room (s.govRoom r)).ctx.gov

/-- The governing entry a room acts by (R68, R100). -/
def State.govEntry (s : State) (r : RoomId) : Option Entry := s.ownEntry (s.govRoom r)

/-- The profile a governing entry selects: profile 0 when there is none (R12, R68). -/
def profileIdOf (e : Option Entry) : ProfileId :=
  match e with
  | some e => e.cls
  | none => 0

/-- The profile of a room's own governing entry. -/
def State.ownProfile (s : State) (r : RoomId) : Profile := s.profiles.get (profileIdOf (s.ownEntry r))

/-- The governing profile a room acts by (R68, R100). -/
def State.govProfile (s : State) (r : RoomId) : Profile := s.profiles.get (profileIdOf (s.govEntry r))

/-! ## Presence -/

/-- The estimate any block reads for a room: its own, or the MERGED group's shared one (R97). -/
def State.estimate (s : State) (r : RoomId) : Estimate :=
  match s.mergedOf r with
  | some (_, p) => p.shared
  | none => (s.room r).oce.est

/-- Presence as the other blocks read it. -/
def State.presence (s : State) (r : RoomId) : Presence := (s.estimate r).presence

/-- Presence that counts as confirmed: PRESENT or QUIET (04_room_service_states.md). -/
def Presence.confirmed : Presence → Bool
  | .present => true
  | .quiet => true
  | _ => false

/-- Whether a room's presence is confirmed. -/
def State.occupied (s : State) (r : RoomId) : Bool := (s.presence r).confirmed

/-- A room's tally limit (R7, R109). -/
def RoomRec.tallyLimit (c : RoomRec) : Nat := c.seats * 5 / 4

/-- The sum of a figure over the members of a group. -/
def State.sumOver (s : State) (rs : List RoomId) (f : Room → Nat) : Nat := (rs.map fun r => f (s.room r)).sum

/-- The largest of a figure over the members of a group. -/
def State.maxOver (s : State) (rs : List RoomId) (f : Room → Nat) : Nat :=
  rs.foldl (fun m r => max m (f (s.room r))) 0

/-- The tally limit of a MERGED group: the sum of its members' limits (R97, R104). -/
def State.groupLimit (s : State) (p : PartGroup) : Nat := s.sumOver p.members (·.cfg.tallyLimit)

/-- A figure divided by floor area: each non-leader takes floor(total × area / sum), the leader the rest (R103, R123). -/
def State.areaShare (s : State) (p : PartGroup) (total : Nat) (r : RoomId) : Nat :=
  let sum := s.sumOver p.members (·.cfg.area)
  let part (x : RoomId) : Nat := total * (s.room x).cfg.area / sum
  if r = p.leader then total - (p.others.map fun o => part o.1).sum else part r

/-! ## The occupant figure -/

/-- The service states of the occupied class (R127). -/
def Service.occupiedClass : Service → Bool
  | .awaiting => true
  | .inUse => true
  | .vacated => true
  | .overrun => true
  | .adHoc => true
  | _ => false

/-- The occupant figure of a service state, door counting, estimate, attendance and walk-in count (R122). Where presence
is not confirmed the counted figure is 0, also with a tally above 0 (assumption 56). -/
def occupantFigure (svc : Service) (counting : Bool) (e : Estimate) (attendance walkIn : Nat) : Nat :=
  let counted := if e.presence.confirmed then max e.tally 1 else 0
  match svc with
  | .inUse => if counting then counted else attendance
  | .vacated => if counting then counted else attendance
  | .overrun => if counting then counted else attendance
  | .adHoc => if counting then counted else walkIn
  | .precondition => attendance
  | .awaiting => attendance
  | .setback => 0
  | .unconfigured => 0

/-- The attendance of a governing entry; 0 when there is none. -/
def attendanceOf (e : Option Entry) : Nat :=
  match e with
  | some e => e.attendance
  | none => 0

/-- A room's n_eff (R122), or a MERGED member's share of the group's figure (R123). A CLOSED room's service state is
SETBACK (R87), so the state beneath an overlay gives the figure in every case. -/
def State.nEff (s : State) (r : RoomId) : Nat :=
  match s.mergedOf r with
  | none =>
    let x := s.room r
    occupantFigure x.ctx.service x.cfg.doorCounting x.oce.est (attendanceOf (s.ownEntry r)) x.cfg.walkIn
  | some (_, p) =>
    let counting := p.members.any fun m => (s.room m).cfg.doorCounting
    let n := occupantFigure (s.base r) counting p.shared (attendanceOf (s.govEntry r))
      (s.sumOver p.members (·.cfg.walkIn))
    min (s.areaShare p n r) (s.room r).cfg.tallyLimit

/-! ## Bands and panels -/

/-- The band a room's next setpoint frame carries; none for a SAFE room (R145). An UNCONFIGURED room is sent no frame
(R144). -/
def State.band (s : State) (r : RoomId) : Option Band :=
  match s.effective r with
  | .safe => none
  | .hold => (s.room r).ctx.hold.map (·.band)
  | .closed => some s.setback
  | .service .setback => some s.setback
  | .service .unconfigured => none
  | .service _ => some (s.govProfile r).band

/-- The panel indicator code of a room (R94, R208): 0 FREE, 1 BOOKED_SOON, 2 IN_USE, 3 RELEASED, 4 HOLD, 5 CLOSED,
6 WALK_IN. A SAFE or UNCONFIGURED room is sent no frame; the status image shows 0xFF for it (R202, assumption 25).
Between TERM_END and its step, with no current minute, entries are compared with minute 0 (R47, assumption 73). -/
def State.indicator (s : State) (r : RoomId) : Nat :=
  match s.effective r with
  | .service .setback =>
    if (s.room r).agenda.any fun e => e.state == .released && s.cal.minute < e.curEnd then 3 else 0
  | .service .precondition => 1
  | .service .awaiting => 2
  | .service .inUse => 2
  | .service .vacated => 2
  | .service .overrun => 2
  | .service .adHoc => 6
  | .service .unconfigured => 255
  | .hold => 4
  | .closed => 5
  | .safe => 255

/-- The next start minute of a room's panel, or 65535 (R94). -/
def State.nextStart (s : State) (r : RoomId) : Nat :=
  if s.cal.valid then
    match (s.room r).agenda.find? fun e => e.state == .waiting || e.state == .preconditioning with
    | some e => e.start
    | none => 65535
  else 65535

/-- The extend result a room's frame carries: for a MERGED member the governing member's (R80, R102). -/
def State.extendResult (s : State) (r : RoomId) : ExtendResult := (s.room (s.govRoom r)).ctx.extResult

/-! ## Dates and records -/

/-- Today's date. It means something while the clock is VALID. -/
def State.today (s : State) : Date := ⟨s.cal.week, s.cal.weekday⟩

/-- The date and minute of the clock (R42). -/
def State.instant (s : State) : Instant := { valid := s.cal.valid, date := s.today, minute := s.cal.minute }

/-- One of a record's dates: those on which it would occur if the closure list were empty (R20). -/
def Record.hasDate (b : Record) (d : Date) : Bool :=
  d.weekday == b.weekday && b.firstWeek ≤ d.week && d.week ≤ b.lastWeek && !b.skips.contains d.week

/-- A record occurs on a date (R20). -/
def State.occurs (s : State) (b : Record) (d : Date) : Bool := b.hasDate d && !s.cal.closures.contains d

/-- A record's last date, whether or not that week is skipped (R41). -/
def Record.lastDate (b : Record) : Date := ⟨b.lastWeek, b.weekday⟩

/-- The rooms a target claims (R20). -/
def State.claims (s : State) : Target → List RoomId
  | .room r => [r]
  | .group g => match s.groups.get g with
    | some p => p.members
    | none => []

/-- Whether a record targets a group. -/
def Target.isGroup : Target → Bool
  | .group _ => true
  | .room _ => false

/-- The live record a handle names (R19). -/
def State.recordAt (s : State) (h : Handle) : Option Record :=
  match asIndex 512 h.slot with
  | none => none
  | some k => if (s.store.slots.get k).gen = h.gen then (s.store.slots.get k).record else none

/-- The rooms that hold the entries of a handle: those its record claims (R56). -/
def State.handleRooms (s : State) (h : Handle) : List RoomId :=
  match s.recordAt h with
  | some b => s.claims b.target
  | none => []

/-- The records of the store in slot order, each with its handle. -/
def State.records (s : State) : List (Handle × Record) :=
  (s.store.slots.list.zipIdx).filterMap fun p =>
    match p.1.record with
    | some b => some ({ slot := p.2, gen := p.1.gen }, b)
    | none => none

/-- The ACTIVE records in slot order. -/
def State.activeRecords (s : State) : List (Handle × Record) :=
  s.records.filter fun p => p.2.state == .active

end Sys2Proof.Machine
end

