-- ==== Sys2Proof/Machine/Ops.lean ====
section
/-! DEFINITION. The named operations every block uses: changing one room, attention and change sets, the arrival of a
command at the slot and its completion, and the sending of requests to the calendar. -/
namespace Sys2Proof.Machine

/-! ## One room -/

/-- One room replaced. -/
def State.setRoom (s : State) (r : RoomId) (x : Room) : State := { s with rooms := s.rooms.set r x }

/-- One room changed. -/
def State.modifyRoom (s : State) (r : RoomId) (f : Room → Room) : State := s.setRoom r (f (s.room r))

/-- One room's context changed. -/
def State.modifyCtx (s : State) (r : RoomId) (f : Context → Context) : State :=
  s.modifyRoom r fun x => { x with ctx := f x.ctx }

/-- One room's estimator record changed. -/
def State.modifyOce (s : State) (r : RoomId) (f : Estimator → Estimator) : State :=
  s.modifyRoom r fun x => { x with oce := f x.oce }

/-- One room's demand record changed. -/
def State.modifyAir (s : State) (r : RoomId) (f : Demand → Demand) : State :=
  s.modifyRoom r fun x => { x with air := f x.air }

/-- One blind group's travel model changed. -/
def State.modifyBlind (s : State) (r : RoomId) (b : BlindId) (f : Blind → Blind) : State :=
  s.modifyRoom r fun x => { x with blinds := x.blinds.modify b f }

/-- Every room changed, each knowing its number. -/
def State.mapRooms (s : State) (f : RoomId → Room → Room) : State := { s with rooms := s.rooms.mapIdx f }

/-- Every agenda changed, each knowing its room. -/
def State.mapAgendas (s : State) (f : RoomId → List Entry → List Entry) : State :=
  s.mapRooms fun r x => { x with agenda := f r x.agenda }

/-- One partition group's record changed, where the group is defined. -/
def State.modifyGroup (s : State) (g : GroupId) (f : PartGroup → PartGroup) : State :=
  { s with groups := s.groups.modify g (·.map f) }

/-- One air group changed. -/
def State.modifyAirGroup (s : State) (g : AirId) (f : AirGroup → AirGroup) : State :=
  { s with airs := s.airs.modify g f }

/-! ## The port -/

/-- An attention cause occurs (R196). -/
def State.raise (s : State) (c : Cause) : State := { s with port := s.port.raise c }

/-- A room enters the room change set (R194). -/
def State.roomChanged (s : State) (r : RoomId) : State := { s with port := s.port.roomChanged r }

/-- A complete command restarts the host silence timer and ends any host absence (R188, R198). -/
def State.hostHeard (s : State) : State := { s with port := { s.port with present := true, silenceTimer := 0 } }

/-- The slot becomes DONE with a response, and RESPONSE_READY is raised (R190, R191). -/
def State.respond (s : State) (cmd : Instr) (late : Bool) (status : Status) (result : Result) : State :=
  { s with port := { s.port with slot := .done ⟨status, cmd.code, late, result⟩ }.raise .responseReady }

/-- The slot takes a command: it becomes EXECUTING (R190). -/
def State.takeCommand (s : State) (cmd : Instr) : State :=
  { s with port := { s.port with slot := .executing cmd false } }

/-- The executing command completes (R191). Nothing happens when no command is executing. -/
def State.completeCommand (s : State) (status : Status) (result : Result) : State :=
  match s.port.slot with
  | .executing cmd late => s.respond cmd late status result
  | _ => s

/-- A queued command arrives at the slot: taken from EMPTY and DONE, and from EXECUTING discarded with LATE set
(R190). -/
def State.arrive (s : State) (act : State → State) : State :=
  match s.port.slot with
  | .executing cmd _ => { s with port := { s.port with slot := .executing cmd true } }
  | _ => act s

/-- A complete queued command whose owner answers at once: its owner's action, then its response (R191). -/
def State.queued (s : State) (cmd : Instr) (act : State → State × Status × Result) : State :=
  s.hostHeard.arrive fun s =>
    match act s with
    | (s, status, result) => s.respond cmd false status result

/-- A complete queued command that reads and answers at once, changing nothing of its owner (R191). -/
def State.queuedRead (s : State) (cmd : Instr) (answer : State → Status × Result) : State :=
  s.queued cmd fun s => (s, answer s)

/-- The slot takes a command that waits at the store arbiter as its host command (R42, R191). -/
def State.storeCommand (s : State) (cmd : Instr) (op : HostOp) : State :=
  let t := s.takeCommand cmd
  { t with store := { t.store with hostWait := some op } }

/-! ## The calendar's own work -/

/-- A piece of calendar work arrives (R52). -/
def State.postWork (s : State) (w : CalWork) : State := { s with cal := { s.cal with work := s.cal.work ++ [w] } }

/-- The same piece, unless it stands there already. -/
def State.postWorkOnce (s : State) (w : CalWork) : State := if s.cal.work.contains w then s else s.postWork w

/-- A room sends a confirm request for its governing entry, unless one of its own is outstanding (R71). -/
def State.sendConfirm (s : State) (r : RoomId) : State :=
  let c := (s.room r).ctx
  match c.outConfirm, c.gov with
  | none, some h => (s.modifyCtx r fun c => { c with outConfirm := some h }).postWork (.confirm r h)
  | _, _ => s

/-! ## Notes -/

/-- Whether a request is a note. -/
def RoomReq.isNote : RoomReq → Bool
  | .note _ _ => true
  | .extend _ _ => false

/-- How many notes wait in a room's note list (R77). -/
def Context.noteCount (c : Context) : Nat := (c.requests.filter RoomReq.isNote).length

/-- A note is raised in a room: appended while the list holds fewer than 2, otherwise dropped with NOTE_LOST (R77). -/
def Context.raiseNote (c : Context) (kind : NoteKind) (h : Handle) : Context :=
  if c.noteCount < 2 then { c with requests := c.requests ++ [.note kind h] } else { c with noteLost := true }

end Sys2Proof.Machine
end

