-- ==== Sys2Proof/Machine/Service.lean ====
section
/-! DEFINITION. The service state machine of a room: how agenda reports, presence changes, the overrun limit and the
answers of the calendar move it (R68 to R76), and what a panel event asks (R78 to R84). -/
namespace Sys2Proof.Machine

/-- The rooms that share a room's lighting trim and clearings: itself, or the members of its MERGED group (R101). -/
def State.trimRooms (s : State) (r : RoomId) : List RoomId :=
  match s.mergedOf r with
  | some (_, p) => p.members
  | none => [r]

/-! ## Moves of a room's service state -/

/-- The trim and both overrides return to 0 and none (R84). -/
def Context.clearOutputs (c : Context) : Context := { c with trim := 0, overrides := .fill 2 .none }

/-- What a change of governing entry, or a service state that has become SETBACK, clears (R80, R84). -/
def Context.clearFor (c : Context) (govChanged setback : Bool) : Context :=
  let c := if govChanged || setback then c.clearOutputs else c
  if govChanged then { c with extResult := .none } else c

/-- The clearings of one move of room `r`, which began at `before`: by the room's own governing entry and service state,
or in every member of its MERGED group by the group's (R68, R80, R84, R101; assumption 30). -/
def State.afterMove (s before : State) (r : RoomId) : State :=
  let gov := before.govHandle r != s.govHandle r
  let setback := before.base r != .setback && s.base r == .setback
  let clear (x : Table 48 Room) (m : RoomId) := x.modify m fun y => { y with ctx := y.ctx.clearFor gov setback }
  { s with rooms := (s.trimRooms r).foldl clear s.rooms }

/-- One move of a room's context, with its clearings: the only way in which the service machine changes a service state
or a governing entry (R68, R84). -/
def State.moveCtx (s : State) (r : RoomId) (f : Context → Context) : State := (s.modifyCtx r f).afterMove s r

/-- A service state and governing entry are taken; the overrun start stands only while OVERRUN (R66). -/
def State.setService (s : State) (r : RoomId) (svc : Service) (gov : Option Handle) : State :=
  s.moveCtx r fun c => { c with service := svc, gov := gov, overrunStart := none }

/-- The earliest PRECONDITIONING entry governs, or else a given service state with no governing entry. -/
def State.precondOr (s : State) (r : RoomId) (svc : Service) : State :=
  match firstPrecond (s.room r).agenda with
  | some e => s.setService r .precondition (some e.handle)
  | none => s.setService r svc none

/-- A STARTED or CONFIRMED entry governs the room (R69, R70 line 4). -/
def State.enterClass (s : State) (r : RoomId) (e : Entry) : State :=
  if e.state = .confirmed then s.setService r (if s.occupied r then .inUse else .vacated) (some e.handle)
  else if s.occupied r then (s.setService r .inUse (some e.handle)).sendConfirm r
  else s.setService r .awaiting (some e.handle)

/-- The derivation of a room's state from its agenda and presence alone (R69, R76). -/
def State.derive (s : State) (r : RoomId) : State :=
  if !(s.room r).cfg.enabled then s.setService r .unconfigured none
  else if s.closed r then s.setService r .setback none
  else match activeEntry (s.room r).agenda with
    | some e => s.enterClass r e
    | none => s.precondOr r (if s.occupied r then .adHoc else .setback)

/-- Leaving OVERRUN at its limit (R74): PRECONDITION if an entry preconditions, otherwise AD_HOC. -/
def State.leaveOverrun (s : State) (r : RoomId) : State := s.precondOr r .adHoc

/-- Entering OVERRUN under the ended entry `e` (R74). `early` is the minute of an end-now; otherwise the overrun starts
at the entry's current end, also where a SET_CLOCK jump ended the entry past it (assumption 46). A limit of 0 is reached
at once. -/
def State.enterOverrun (s : State) (r : RoomId) (e : Entry) (early : Option Nat) : State :=
  if (s.profiles.get e.cls).overrunLimit = 0 then s.leaveOverrun r
  else s.moveCtx r fun c =>
    { c with service := .overrun, gov := some e.handle, overrunStart := some (early.getD e.curEnd) }

/-- R70's line 9, with line 10 where it does not apply. -/
def State.reportRest (s : State) (r : RoomId) : State :=
  let svc := (s.room r).ctx.service
  match firstPrecond (s.room r).agenda with
  | some e =>
    if svc = .setback ∨ svc = .adHoc ∨ svc = .precondition then s.setService r .precondition (some e.handle) else s
  | none => s

/-- R70's lines 5 to 10: no entry is STARTED or CONFIRMED. `g` is the governing entry as the agenda now shows it.
A release with presence confirmed leaves no governing entry, also where another entry is PRECONDITIONING (R72,
assumption 50). -/
def State.reportInactive (s : State) (r : RoomId) (early : Option Nat) (g : Option Entry) : State :=
  let svc := (s.room r).ctx.service
  match g with
  | none => s.precondOr r (if s.occupied r then .adHoc else .setback)
  | some e =>
    match e.state with
    | .released => if s.occupied r then s.setService r .adHoc none else s.precondOr r .setback
    | .ended =>
      if svc = .inUse ∨ svc = .vacated then
        if s.occupied r then s.enterOverrun r e early else s.precondOr r .setback
      else if svc = .awaiting then s.precondOr r .setback
      else s.reportRest r
    | .skipped => s.precondOr r (if s.occupied r then .adHoc else .setback)
    | _ => s.reportRest r

/-- An agenda report to a room, taken after the whole of it is made (R70). Where the governing entry itself has become
STARTED or CONFIRMED and lines 1 to 3 do not apply, line 4 is taken for it (assumption 8). -/
def State.report (s : State) (early : Option Nat) (r : RoomId) : State :=
  let x := s.room r
  let svc := x.ctx.service
  if !x.cfg.enabled then s
  else if s.closed r then s.setService r .setback none
  else
    let g := s.ownEntry r
    let gs := g.map (·.state)
    if gs = some .started ∧ (svc = .inUse ∨ svc = .vacated ∨ svc = .awaiting) then s
    else if gs = some .confirmed ∧ svc = .awaiting then
      s.setService r (if s.occupied r then .inUse else .vacated) x.ctx.gov
    else if gs = some .confirmed ∧ (svc = .inUse ∨ svc = .vacated) then s
    else match activeEntry x.agenda with
      | some e => s.enterClass r e
      | none => if x.ctx.gov.isSome then s.reportInactive r early g else s.reportRest r

/-- A confirm request is due for a room that entered IN_USE while its governing entry is STARTED (R71, R73). -/
def State.confirmIfStarted (s : State) (r : RoomId) : State :=
  match s.ownEntry r with
  | some e => if e.state = .started then s.sendConfirm r else s
  | none => s

/-- Only the service state of a context changes. -/
def State.moveService (s : State) (r : RoomId) (svc : Service) : State :=
  s.moveCtx r fun c => { c with service := svc }

/-- A change of a room's presence moves its service state (R73). -/
def State.presenceMoved (s : State) (r : RoomId) (was now : Presence) : State :=
  let x := s.room r
  let rose := !was.confirmed && now.confirmed
  let emptied := was != .empty && now == .empty
  match x.ctx.service with
  | .setback =>
    if rose && !s.closed r && !x.agenda.any (·.state.live) then s.setService r .adHoc none else s
  | .adHoc => if emptied then s.setService r .setback none else s
  | .awaiting => if rose then (s.moveService r .inUse).confirmIfStarted r else s
  | .inUse => if emptied then s.moveService r .vacated else s
  | .vacated => if rose then (s.moveService r .inUse).confirmIfStarted r else s
  | .overrun => if emptied then s.precondOr r .setback else s
  | .precondition => s
  | .unconfigured => s

/-- Minutes since the overrun start, with 1440 added where it lies above the current minute (R74). -/
def overrunElapsed (start minute : Nat) : Nat := if start > minute then minute + 1440 - start else minute - start

/-- The overrun limit check of one room at a minute event (R74). For a MERGED member the limit is that of its own
governing entry's profile (assumption 59). -/
def State.overrunCheck (s : State) (r : RoomId) : State :=
  let c := (s.room r).ctx
  match c.service, c.overrunStart with
  | .overrun, some t => if (s.ownProfile r).overrunLimit ≤ overrunElapsed t s.cal.minute then s.leaveOverrun r else s
  | _, _ => s

/-- The answers to a confirm request (R57). -/
inductive ConfirmAnswer where
  | confirmed | already | tooLate | notApplicable
  deriving DecidableEq, Repr

/-- The answer to a room's confirm request (R71): it clears the outstanding confirm, CONFIRMED raises the CONFIRM note,
and a room left IN_USE under a STARTED entry of another handle sends a request for that entry at once. -/
def State.confirmAnswered (s : State) (r : RoomId) (h : Handle) (a : ConfirmAnswer) : State :=
  let s := s.modifyCtx r fun c => { c with outConfirm := none }
  let s := if a = .confirmed then s.modifyCtx r fun c => c.raiseNote .confirm h else s
  let c := (s.room r).ctx
  if c.service = .inUse ∧ c.gov ≠ some h then s.confirmIfStarted r else s

/-! ## Panel events -/

/-- The panel events that have an effect (R78, R207). -/
inductive PanelEvent where
  | extend | endNow | lightsUp | lightsDown | blindsUp (b : BlindId) | blindsDown (b : BlindId)
  deriving DecidableEq, Repr

/-- The event of a code byte; other codes have no effect (R179, R203, R208). -/
def panelEventOf (code : Nat) : Option PanelEvent :=
  match code with
  | 1 => some .extend
  | 2 => some .endNow
  | 3 => some .lightsUp
  | 4 => some .lightsDown
  | 5 => some (.blindsUp 0)
  | 6 => some (.blindsUp 1)
  | 7 => some (.blindsDown 0)
  | 8 => some (.blindsDown 1)
  | _ => none

/-- EXTEND (R79), for a MERGED member handled at the governing member (R102). -/
def State.panelExtend (s : State) (r : RoomId) : State :=
  let q := s.govRoom r
  let c := (s.room q).ctx
  if c.service = .inUse ∨ c.service = .vacated then
    if c.extPending then s
    else match c.gov with
      | some h =>
        s.modifyCtx q fun c =>
          { c with extPending := true, extResult := .none,
                   requests := c.requests ++ [.extend h (s.govProfile r).extStep] }
      | none => s
  else s.modifyCtx q fun c => { c with extResult := .refused }

/-- END_NOW (R81), for a MERGED member named in the governing member's room (R102). -/
def State.panelEndNow (s : State) (r : RoomId) : State :=
  let q := s.govRoom r
  let c := (s.room q).ctx
  match c.gov with
  | some h =>
    if c.service = .awaiting ∨ c.service = .inUse ∨ c.service = .vacated then s.postWork (.endNow q h false) else s
  | none => s

/-- LIGHTS_UP and LIGHTS_DOWN: the trim moves by 100 within −500..+500, in every member of a MERGED group (R82,
R101). -/
def State.panelTrim (s : State) (r : RoomId) (by_ : Int) : State :=
  (s.trimRooms r).foldl (fun s m => s.modifyCtx m fun c => { c with trim := clampInt (-500) 500 (c.trim + by_) }) s

/-- BLINDS_UP and BLINDS_DOWN: the override of one blind group below the blind group count (R83). -/
def State.panelBlind (s : State) (r : RoomId) (b : BlindId) (o : Override) : State :=
  if b.val < (s.room r).cfg.blindCount then s.modifyCtx r fun c => { c with overrides := c.overrides.set b o }
  else s

/-- A panel event with effect in its room (R79 to R83). -/
def State.panelAct (s : State) (r : RoomId) : PanelEvent → State
  | .extend => s.panelExtend r
  | .endNow => s.panelEndNow r
  | .lightsUp => s.panelTrim r 100
  | .lightsDown => s.panelTrim r (-100)
  | .blindsUp b => s.panelBlind r b .up
  | .blindsDown b => s.panelBlind r b .down

/-- Whether a panel event of a room has an effect: in no overlay and not UNCONFIGURED (R78), but an EXTEND at a member of
a MERGED group, which R102 handles as if taken at the governing member, also where the presser is under SAFE or HOLD
(assumption 47). -/
def State.panelHeard (s : State) (r : RoomId) (e : PanelEvent) : Bool :=
  match s.effective r with
  | .safe => e == .extend && (s.mergedOf r).isSome
  | .hold => e == .extend && (s.mergedOf r).isSome
  | .closed => false
  | .service .unconfigured => false
  | .service _ => true

/-- A panel event taken by the loop controller (R78). -/
def State.panelEvent (s : State) (r : RoomId) (e : PanelEvent) : State :=
  if s.panelHeard r e then s.panelAct r e else s

end Sys2Proof.Machine
end

