-- ==== Sys2Proof/Machine/Agenda.lean ====
section
/-! DEFINITION. The agendas: entries and their no-show timers, the evaluation of a minute event, expiries, confirm and
end-now requests, CLOSED and re-entry, late placement and the build of a room's agenda (R51 to R61, R64). -/
namespace Sys2Proof.Machine

/-! ## Entries -/

/-- An entry takes a state; a timer stands only in a STARTED entry (R54). -/
def Entry.toState (e : Entry) (st : EntryState) : Entry :=
  { e with state := st, timer := if st = .started then e.timer else none }

/-- An entry without its timer: what "its agenda changed" compares (R194; a timer's count or pause is no change). -/
def Entry.untimed (e : Entry) : Entry := { e with timer := none }

/-- An entry put at its place in order of start, after those that start with it (R51). -/
def insertEntry (e : Entry) : List Entry → List Entry
  | [] => [e]
  | x :: rest => if e.start < x.start then e :: x :: rest else x :: insertEntry e rest

/-- Whether some room's agenda holds an entry of a handle in a state that passes a test. -/
def State.hasEntry (s : State) (h : Handle) (p : EntryState → Bool) : Bool :=
  s.rooms.any fun x => x.agenda.any fun e => e.handle == h && p e.state

/-- The lowest-numbered room whose agenda holds an entry of a handle in a state that passes a test. -/
def State.firstRoomWith (s : State) (h : Handle) (p : EntryState → Bool) : Option RoomId :=
  allRooms.find? fun r => (s.room r).agenda.any fun e => e.handle == h && p e.state

/-- The state of a handle's entry in an agenda, if it has one. -/
def stateIn (a : List Entry) (h : Handle) : Option EntryState := (entryOf a h).map fun e => e.state

/-- Every entry of a handle changed, in every agenda. -/
def State.mapHandle (s : State) (h : Handle) (f : Entry → Entry) : State :=
  s.mapAgendas fun _ a => a.map fun e => if e.handle == h then f e else e

/-! ## No-show timers -/

/-- The one timer of a handle, wherever it stands (R56). -/
def State.timerOf (s : State) (h : Handle) : Option NoShow :=
  allRooms.findSome? fun r => (entryOf (s.room r).agenda h).bind (·.timer)

/-- The room whose entry holds the timer of a handle. -/
def State.timerRoom (s : State) (h : Handle) : Option RoomId :=
  allRooms.find? fun r => ((entryOf (s.room r).agenda h).bind (·.timer)).isSome

/-- The timer of a handle set: it stands in the lowest-numbered STARTED entry of the handle, and the others show none
(R56). -/
def State.setTimer (s : State) (h : Handle) (t : Option NoShow) : State :=
  let home := s.firstRoomWith h (· == .started)
  s.mapAgendas fun r a => a.map fun e =>
    if e.handle == h then { e with timer := if home = some r ∧ e.state = .started then t else none } else e

/-- The rooms whose agendas hold an entry of a handle, in ascending order. -/
def State.holders (s : State) (h : Handle) : List RoomId :=
  allRooms.filter fun r => (entryOf (s.room r).agenda h).isSome

/-- The rooms whose SAFE state pauses a timer of a handle in room `r`: the members of its target, and where the record has
been amended to a target without that room, the rooms that hold entries of the handle (R55, R56, assumption 75). -/
def State.pauseRooms (s : State) (r : RoomId) (h : Handle) : List RoomId :=
  if (s.handleRooms h).contains r then s.handleRooms h else s.holders h

/-- Whether a timer of a handle in room `r` is to be paused (R55, R56). -/
def State.pausedAt (s : State) (r : RoomId) (h : Handle) : Bool := (s.pauseRooms r h).any fun q => (s.room q).ctx.safe

/-- A fresh timer for a class: its profile's no-show window in seconds, none for a window of 0 (R54); paused as the room
that is to hold it says (R55, R56). -/
def State.freshTimer (s : State) (h : Handle) (cls : ProfileId) : Option NoShow :=
  let w := (s.profiles.get cls).noShow
  if w = 0 then none
  else some { left := w * 60, paused := (s.firstRoomWith h (· == .started)).any fun r => s.pausedAt r h }

/-- The timer of a handle is loaded fresh. -/
def State.loadTimer (s : State) (h : Handle) (cls : ProfileId) : State := s.setTimer h (s.freshTimer h cls)

/-- Every timer is paused or resumed as its room and the other members of its target are SAFE or not, keeping its
remaining time (R55, R56). -/
def State.refreshPauses (s : State) : State :=
  s.mapAgendas fun r a => a.map fun e =>
    { e with timer := e.timer.map fun t => { t with paused := s.pausedAt r e.handle } }

/-! ## Reports to the rooms -/

/-- The rooms whose agendas differ between two states, timers apart, in ascending order. -/
def changedRooms (before after : State) : List RoomId :=
  allRooms.filter fun r =>
    decide ((before.room r).agenda.map Entry.untimed ≠ (after.room r).agenda.map Entry.untimed)

/-- Each room whose agenda changed since `before` takes one report, after all the changes are made (R53, R70). -/
def State.reportChanges (s before : State) (early : Option Nat) : State :=
  (changedRooms before s).foldl (fun s r => s.report early r) s

/-! ## The minute event -/

/-- The state an entry has after a minute event with minute `m` (R53; a WAITING entry of a CLOSED room stays WAITING
through its lead, R59). -/
def evalState (m lead : Nat) (closed : Bool) (e : Entry) : EntryState :=
  match e.state with
  | .waiting =>
    if e.curEnd ≤ m then .skipped
    else if e.start ≤ m then (if closed then .skipped else .started)
    else if !closed && 0 < lead && e.start ≤ m + lead then .preconditioning
    else .waiting
  | .preconditioning =>
    if e.curEnd ≤ m then .skipped else if e.start ≤ m && !closed then .started else .preconditioning
  | .started => if e.curEnd ≤ m then .ended else .started
  | .confirmed => if e.curEnd ≤ m then .ended else .confirmed
  | .ended => .ended
  | .released => .released
  | .skipped => .skipped

/-- The lead of an entry's class. -/
def State.leadOf (s : State) (e : Entry) : Nat := (s.profiles.get e.cls).lead

/-- The handles, with their classes, that have a STARTED entry. -/
def State.startedHandles (s : State) : List (Handle × ProfileId) :=
  let all := allRooms.flatMap fun r =>
    (s.room r).agenda.filterMap fun e => if e.state = .started then some (e.handle, e.cls) else none
  all.foldl (fun l p => if l.contains p then l else l ++ [p]) []

/-- The one timer of every handle with a STARTED entry put where R56 keeps it, after the entries have moved on from
`before`: a handle that has just become STARTED takes a fresh timer (R54), and any other keeps its own, which moves where
a lower-numbered member's entry has become STARTED or its holder's is STARTED no longer. -/
def State.settleTimers (s before : State) : State :=
  s.startedHandles.foldl (fun s p =>
    if before.hasEntry p.1 (· == .started) then s.setTimer p.1 (before.timerOf p.1) else s.loadTimer p.1 p.2) s

/-- Every agenda evaluated at minute `m`, and the rooms told (R53). A room is read as CLOSED or not by the open range as
it stands now (assumption 48). -/
def State.evalAgendas (s : State) (m : Nat) : State :=
  let t := s.mapAgendas fun r a => a.map fun e => e.toState (evalState m (s.leadOf e) (s.closed r) e)
  (t.settleTimers s).reportChanges s none

/-! ## Expiry, confirm and end-now -/

/-- Whether the no-show timer of a handle has run out: it stands at 0 and is not paused (R54, R55). -/
def State.expiryDue (s : State) (h : Handle) : Bool := s.timerOf h == some { left := 0, paused := false }

/-- The handle whose expiry is due in a room's agenda. -/
def State.dueHandle (s : State) (r : RoomId) : Option Handle :=
  ((s.room r).agenda.find? fun e => e.state == .started && e.timer == some { left := 0, paused := false }).map
    (·.handle)

/-- The release of a handle told to every room whose agenda holds an entry of it, each of which enters the room change
set, whether or not its own entry was STARTED (R54). -/
def State.reportRelease (s : State) (h : Handle) : State :=
  (s.holders h).foldl (fun s r => (s.report none r).roomChanged r) s

/-- The expiry of a handle's timer: every STARTED entry of it becomes RELEASED, the room that held the timer raises the
RELEASE note, and each room whose agenda holds an entry of the handle is told (R54, R56, R72). An expiry that finds no
timer run out does not take place. -/
def State.expire (s : State) (h : Handle) : State :=
  if s.expiryDue h then
    let home := s.timerRoom h
    let t := s.mapHandle h fun e => if e.state = .started then e.toState .released else e
    let t := match home with
      | some r => t.modifyCtx r fun c => c.raiseNote .release h
      | none => t
    t.reportRelease h
  else s

/-- A confirm request of room `r` for a handle is applied and answered (R57). -/
def State.applyConfirm (s : State) (r : RoomId) (h : Handle) : State :=
  match stateIn (s.room r).agenda h with
  | some .started =>
    let t := s.mapHandle h fun e => if e.state = .started then e.toState .confirmed else e
    (t.reportChanges s none).confirmAnswered r h .confirmed
  | some .confirmed => s.confirmAnswered r h .already
  | some .released => s.confirmAnswered r h .tooLate
  | _ => s.confirmAnswered r h .notApplicable

/-- An end-now request for a handle in room `r` is applied; the flag tells whether it was answered ENDED (R58). The
entry's current end is kept. -/
def State.applyEndNow (s : State) (r : RoomId) (h : Handle) : State × Bool :=
  match stateIn (s.room r).agenda h with
  | some st =>
    if st = .started ∨ st = .confirmed then
      let t := s.mapHandle h fun e =>
        if e.state = .started ∨ e.state = .confirmed then e.toState .ended else e
      (t.reportChanges s (some s.cal.minute), true)
    else (s, false)
  | none => (s, false)

/-! ## CLOSED and the open range -/

/-- A room has become CLOSED: its live entries are skipped, without release or note, and the timer of a group handle
moves to the next STARTED member (R56, R59). -/
def State.applyClosed (s : State) (r : RoomId) : State :=
  let moved := (s.room r).agenda.filterMap fun e => if e.timer.isSome then some (e.handle, e.timer) else none
  let t := s.modifyRoom r fun x =>
    { x with agenda := x.agenda.map fun e => if e.state.live then e.toState .skipped else e }
  let t := moved.foldl (fun t p => t.setTimer p.1 p.2) t
  t.reportChanges s none

/-- The state late placement gives an entry at minute `m` (R60). Its fourth line puts an entry of a CLOSED room whose
lead has come WAITING, where R59 speaks of SKIPPED: the table is followed (assumption 12). -/
def placeState (m lead : Nat) (closed : Bool) (start curEnd : Nat) : EntryState :=
  if curEnd ≤ m then .skipped
  else if start ≤ m then (if closed then .skipped else .started)
  else if 0 < lead && start ≤ m + lead then (if closed then .waiting else .preconditioning)
  else .waiting

/-- The state of the other members' entries of a group handle, where one is STARTED or CONFIRMED (R59). -/
def State.othersState (s : State) (r : RoomId) (h : Handle) : Option EntryState :=
  allRooms.findSome? fun q =>
    if q = r then none
    else match stateIn (s.room q).agenda h with
      | some .started => some .started
      | some .confirmed => some .confirmed
      | _ => none

/-- One SKIPPED entry re-evaluated on re-entry to the open range (R59). Where it takes the other members' state, it keeps
its own current end, extension total and attendance (assumption 58). -/
def State.reopenEntry (s : State) (r : RoomId) (e : Entry) : State :=
  let put (st : EntryState) : State := s.modifyRoom r fun x =>
    { x with agenda := x.agenda.map fun y => if y.handle == e.handle then y.toState st else y }
  match s.othersState r e.handle with
  | some st => (put st).setTimer e.handle (s.timerOf e.handle)
  | none =>
    let st := placeState s.cal.minute (s.leadOf e) (s.closed r) e.start e.curEnd
    if st = .started then (put st).loadTimer e.handle e.cls else put st

/-- A room has re-entered the open range: its SKIPPED entries that still lie ahead and occur today are re-evaluated
(R59), the room derives its state afresh, and it enters the room change set (R88). -/
def State.applyReopened (s : State) (r : RoomId) : State :=
  let again := (s.room r).agenda.filter fun e =>
    e.state == .skipped && s.cal.valid && s.cal.minute < e.curEnd
      && match s.recordAt e.handle with
        | some b => s.occurs b s.today
        | none => false
  ((again.foldl (fun s e => s.reopenEntry r e) s).derive r).roomChanged r

/-! ## Placement and building -/

/-- An entry for a record, before its state is known (R60). -/
def newEntry (h : Handle) (b : Record) : Entry :=
  { handle := h, group := b.target.isGroup, start := b.start, curEnd := b.stop, ext := 0, cls := b.cls,
    attendance := b.attendance, state := .waiting, timer := none }

/-- An entry inserted into a room's agenda. -/
def State.addEntry (s : State) (r : RoomId) (e : Entry) : State :=
  s.modifyRoom r fun x => { x with agenda := insertEntry e x.agenda }

/-- Late placement of an occurrence at minute `m` in the given rooms; the handle's one timer is loaded in the
lowest-numbered STARTED entry (R56, R60). -/
def State.place (s : State) (m : Nat) (rooms : List RoomId) (h : Handle) (b : Record) : State :=
  let e := newEntry h b
  let t := rooms.foldl (fun t r =>
    t.addEntry r (e.toState (placeState m (s.leadOf e) (s.closed r) e.start e.curEnd))) s
  if t.hasEntry h (· == .started) then t.loadTimer h b.cls else t

/-- Late placement in every room the record claims, where the occurrence is today's and not over (R25, R27, R30). -/
def State.placeToday (s : State) (now : Instant) (h : Handle) (b : Record) : State :=
  if now.valid && s.occurs b now.date && now.minute < b.stop then s.place now.minute (s.claims b.target) h b else s

/-- Every entry of a handle leaves every agenda (R19). -/
def State.removeHandle (s : State) (h : Handle) : State :=
  s.mapAgendas fun _ a => a.filter fun e => e.handle != h

/-- Late placement of an occurrence at minute `m` in one room (R60). The handle's one timer is loaded with its first
STARTED entry, and goes on where one stands already (R56). The entry stands at the record's own start, and no gap is
tested or made here (R14, assumption 71). -/
def State.placeIn (s : State) (m : Nat) (r : RoomId) (h : Handle) (b : Record) : State :=
  let e := newEntry h b
  let st := placeState m (s.leadOf e) (s.closed r) e.start e.curEnd
  let t := s.addEntry r (e.toState st)
  if st = .started then
    if s.hasEntry h (· == .started) then t.setTimer h (s.timerOf h) else t.loadTimer h b.cls
  else t

/-- The state a group occurrence already has in a member built earlier in the same rebuild and not CLOSED (R61). A
member whose re-entry indication is still held counts as not CLOSED already (assumption 48). -/
def State.builtState (s : State) (r : RoomId) (h : Handle) : Option EntryState :=
  allRooms.findSome? fun q =>
    if q < r && !s.closed q then stateIn (s.room q).agenda h else none

/-- One occurrence placed by the build of room `r` at minute `m` (R61). -/
def State.buildEntry (s : State) (m : Nat) (r : RoomId) (h : Handle) (b : Record) : State :=
  match (if b.target.isGroup && !s.closed r then s.builtState r h else none) with
  | some st => s.addEntry r ((newEntry h b).toState st)
  | none => s.placeIn m r h b

/-- The records to place, in ascending order of start (R61). -/
def insertByStart (p : Handle × Record) : List (Handle × Record) → List (Handle × Record)
  | [] => [p]
  | q :: rest => if p.2.start < q.2.start then p :: q :: rest else q :: insertByStart p rest

/-- The shared trim of a MERGED member's group, and a room's own overrides, are cleared by its build (R84, R101). -/
def State.clearForBuild (s : State) (r : RoomId) : State :=
  let s := (s.trimRooms r).foldl (fun s m => s.modifyCtx m fun c => { c with trim := 0 }) s
  s.modifyCtx r fun c => { c with overrides := .fill 2 .none }

/-- The build of one room's agenda (R61): everything in it is discarded, today's occurrences are placed, and the room
derives its state afresh (R69), with its trim and overrides cleared (R84), and enters the room change set. -/
def State.build (s : State) (now : Instant) (r : RoomId) : State :=
  let t := s.modifyRoom r fun x => { x with agenda := [] }
  let due := if now.valid && (s.room r).cfg.enabled then
      (s.activeRecords.filter fun p => s.occurs p.2 now.date && (s.claims p.2.target).contains r).foldl
        (fun l p => insertByStart p l) []
    else []
  let t := due.foldl (fun t p => t.buildEntry now.minute r p.1 p.2) t
  ((t.derive r).clearForBuild r).roomChanged r

/-! ## The same-date clock change -/

/-- WAITING and PRECONDITIONING entries are placed afresh at an earlier minute; the others keep their state (R64). -/
def State.rewind (s : State) (m : Nat) : State :=
  let t := s.mapAgendas fun r a => a.map fun e =>
    if e.state = .waiting ∨ e.state = .preconditioning then
      e.toState (placeState m (s.leadOf e) (s.closed r) e.start e.curEnd)
    else e
  (t.settleTimers s).reportChanges s none

/-- The entries brought from minute `m0` to minute `m1` of the same date (R64). -/
def State.jump (s : State) (m0 m1 : Nat) : State :=
  if m0 < m1 then s.evalAgendas m1 else if m1 < m0 then s.rewind m1 else s

end Sys2Proof.Machine
end

