-- ==== Sys2Proof/Machine/Air.lean ====
section
/-! DEFINITION. The Air Share Unit: the demand of a room (R125 to R131), the triggers of an air group and its
allocation pass (R132 to R142). -/
namespace Sys2Proof.Machine

/-! ## Demand -/

/-- Stage 1, base ventilation: the ceiling of (n_eff × Rp × 10 + A × Ra) / 100 (R128). -/
def baseVentilation (n rp area rate : Nat) : Nat := ceilDiv (n * rp * 10 + area * rate) 100

/-- Stage 2, the CO2 trim, for a calibrated reading (R129). -/
def co2Trim (co2 : Sensor) (target gain : Nat) : Nat :=
  if co2.valid && target < co2.value.toNat then (co2.value.toNat - target) * gain / 100 else 0

/-- Stage 3, thermal demand between floor and ceiling; an invalid θ counts as 0 (R130). -/
def thermalDemand (floor top : Nat) (theta : Sensor) : Nat :=
  floor + (top - floor) * (if theta.valid then theta.value.toNat else 0) / 100

/-- Stage 4: the greater of the two, clamped to floor and ceiling (R130). -/
def clampDemand (floor top vv vt : Nat) : Nat := clampNat floor top (max vv vt)

/-- What one recomputation decides: basis, stage results, demand and floor (R125, R127). -/
structure Figures where
  basis : Basis
  nEff : Nat
  vb : Nat
  trim : Nat
  vv : Nat
  vt : Nat
  d : Nat
  f : Nat
  deriving DecidableEq, Repr

/-- The four stages with a floor, a base and a trim (R127, R130). -/
def fourStage (n floor top vb trim : Nat) (theta : Sensor) : Figures :=
  let vt := thermalDemand floor top theta
  { basis := .fourStage, nEff := n, vb := vb, trim := trim, vv := vb + trim, vt := vt,
    d := clampDemand floor top (vb + trim) vt, f := floor }

/-- The two overlays whose demand and floor are one flow, with stage results 0 (R131). -/
def oneFlow (basis : Basis) (n flow : Nat) : Figures :=
  { basis := basis, nEff := n, vb := 0, trim := 0, vv := 0, vt := 0, d := flow, f := flow }

/-- The floor of a SAFE room by the service state beneath (R131). -/
def safeFloor (c : RoomRec) (beneath : Service) : Nat :=
  if beneath.occupiedClass || beneath == .precondition then c.vminOcc else c.vminUn

/-- The figures of a room in a service state that no overlay covers (R127). -/
def serviceFigures (c : RoomRec) (svc : Service) (n : Nat) (p : Profile) (o : Estimator) : Figures :=
  let vb := baseVentilation n p.perPerson c.area c.areaRate
  match svc with
  | .unconfigured => { basis := .none, nEff := 0, vb := 0, trim := 0, vv := 0, vt := 0, d := 0, f := 0 }
  | .setback => fourStage n c.vminUn c.vmax 0 0 o.theta
  | .precondition => fourStage n c.vminOcc c.vmax vb 0 o.theta
  | .awaiting => fourStage n c.vminOcc c.vmax vb (co2Trim o.co2 p.co2Target p.co2Gain) o.theta
  | .inUse => fourStage n c.vminOcc c.vmax vb (co2Trim o.co2 p.co2Target p.co2Gain) o.theta
  | .vacated => fourStage n c.vminOcc c.vmax vb (co2Trim o.co2 p.co2Target p.co2Gain) o.theta
  | .overrun => fourStage n c.vminOcc c.vmax vb (co2Trim o.co2 p.co2Target p.co2Gain) o.theta
  | .adHoc => fourStage n c.vminOcc c.vmax vb (co2Trim o.co2 p.co2Target p.co2Gain) o.theta

/-- The figures of a room as its inputs now stand (R126, R127). -/
def State.figures (s : State) (r : RoomId) : Figures :=
  let x := s.room r
  match s.effective r with
  | .safe => oneFlow .safeFloor (s.nEff r) (safeFloor x.cfg (s.base r))
  | .hold => oneFlow .holdFlow (s.nEff r) (match x.ctx.hold with | some h => min h.flow x.cfg.vmax | none => 0)
  | .closed => serviceFigures x.cfg .setback (s.nEff r) (s.govProfile r) x.oce
  | .service svc => serviceFigures x.cfg svc (s.nEff r) (s.govProfile r) x.oce

/-- A demand record with new figures. A disabled room has grant 0 and no tier; a room in no air group is granted its
demand at once; a room in a group keeps the grant of the last pass (R125, R126, R133). -/
def Demand.take (a : Demand) (c : RoomRec) (x : Figures) : Demand :=
  { basis := x.basis, nEff := x.nEff, vb := x.vb, trim := x.trim, vv := x.vv, vt := x.vt, d := x.d, f := x.f,
    grant := if !c.enabled then 0 else if c.airGroup = none then x.d else a.grant,
    tier := if !c.enabled || c.airGroup == none then none else a.tier }

/-- Every demand record recomputed from its inputs as they stand (R126). A record whose inputs have not changed is
recomputed to the same record. -/
def State.recompute (s : State) : State :=
  s.mapRooms fun r x => { x with air := x.air.take x.cfg (s.figures r) }

/-! ## The pass -/

/-- The tier of a member by its effective state (R139). -/
def tierOf : Effective → Nat
  | .safe => 1
  | .hold => 1
  | .closed => 3
  | .service .precondition => 2
  | .service .setback => 3
  | .service .unconfigured => 3
  | .service _ => 1

/-- The members of an air group in ascending room order: the enabled rooms whose record names it (R133). -/
def State.airMembers (s : State) (g : AirId) : List RoomId :=
  allRooms.filter fun r => (s.room r).cfg.enabled && (s.room r).cfg.airGroup == some g

/-- A member as a pass reads it, before its grant is decided (R139). -/
def State.passMember (s : State) (r : RoomId) : PassMember :=
  { room := r, tier := tierOf (s.effective r), d := (s.room r).air.d, f := (s.room r).air.f, grant := 0 }

/-- A member's surplus (R139). -/
def PassMember.surplus (m : PassMember) : Nat := m.d - m.f

/-- The surpluses of one tier together (R139). -/
def tierSum (ms : List PassMember) (t : Nat) : Nat := ((ms.filter fun m => m.tier == t).map (·.surplus)).sum

/-- A share of a quantity by a factor in 1024ths (R140, R141). -/
def shareOf (k x : Nat) : Nat := x * k / 1024

/-- The floor-short path: every floor scaled by one factor (R140). -/
def floorShort (c sumF : Nat) (ms : List PassMember) : List PassMember :=
  let k := if sumF = 0 then 0 else c * 1024 / sumF
  ms.map fun m => { m with grant := shareOf k m.f }

/-- What a tier does with the remainder: the factor its members' surpluses are scaled by, the remainder after it,
whether it is short, and whether anything is left to offer to a later tier (R141). -/
structure TierResult where
  factor : Nat
  rest : Nat
  short : Bool
  open_ : Bool
  deriving DecidableEq, Repr

/-- One tier served from a remainder, or passed over after a short tier (R141). -/
def serveTier (ms : List PassMember) (t r : Nat) (isOpen : Bool) : TierResult :=
  let sum := tierSum ms t
  if !isOpen then { factor := 0, rest := r, short := 0 < sum, open_ := false }
  else if sum ≤ r then { factor := 1024, rest := r - sum, short := false, open_ := true }
  else
    let k := r * 1024 / sum
    let given := ((ms.filter fun m => m.tier == t).map fun m => shareOf k m.surplus).sum
    { factor := k, rest := r - given, short := true, open_ := false }

/-- The three tiers one after another (R141). -/
def serveTiers (ms : List PassMember) (r : Nat) : TierResult × TierResult × TierResult :=
  let t1 := serveTier ms 1 r true
  let t2 := serveTier ms 2 t1.rest t1.open_
  let t3 := serveTier ms 3 t2.rest t2.open_
  (t1, t2, t3)

/-- The factor of a member's tier (R141). -/
def factorOf (t : TierResult × TierResult × TierResult) (m : PassMember) : Nat :=
  if m.tier = 1 then t.1.factor else if m.tier = 2 then t.2.1.factor else t.2.2.factor

/-- A pass over members with a capacity: everything it decides (R139 to R142). -/
def runPass (c : Nat) (triggers : TriggerSet) (ms : List PassMember) : PassRecord :=
  let sumF := (ms.map (·.f)).sum
  if c ≤ sumF then
    let out := floorShort c sumF ms
    { capacity := c, triggers := triggers, sumF := sumF, members := out, flags := ⟨true, false, false, false⟩,
      unallocated := c - (out.map (·.grant)).sum }
  else
    let t := serveTiers ms (c - sumF)
    let out := ms.map fun m => { m with grant := m.f + shareOf (factorOf t m) m.surplus }
    { capacity := c, triggers := triggers, sumF := sumF, members := out,
      flags := ⟨false, t.1.short, t.2.1.short, t.2.2.short⟩, unallocated := c - (out.map (·.grant)).sum }

/-! ## Triggers -/

/-- The triggers of a group, and RESET after a warm reset (R132, R137). -/
inductive Trigger where
  | capacityWrite | memberChange | period | hostRequest | reset
  deriving DecidableEq, Repr

/-- Whether a mask lets a trigger fire; RESET passes any mask (R132, R137). -/
def maskAllows (m : TriggerMask) : Trigger → Bool
  | .capacityWrite => m.capacityWrite
  | .memberChange => m.memberChange
  | .period => m.period
  | .hostRequest => m.hostRequest
  | .reset => true

/-- A trigger added to a set. -/
def TriggerSet.add (t : TriggerSet) : Trigger → TriggerSet
  | .capacityWrite => { t with capacityWrite := true }
  | .memberChange => { t with memberChange := true }
  | .period => { t with period := true }
  | .hostRequest => { t with hostRequest := true }
  | .reset => { t with reset := true }

/-- A trigger fires in a group: where the mask allows it a pass is pending, with the trigger recorded (R137). -/
def AirGroup.fire (g : AirGroup) (t : Trigger) : AirGroup :=
  if maskAllows g.mask t then { g with pending := true, triggers := g.triggers.add t } else g

/-- A group's pending pass starts when none runs: it reads its members as they stand, and the flag is clear (R137,
R139). -/
def State.startPass (s : State) (g : AirId) (a : AirGroup) : AirGroup :=
  if a.pending && a.running.isNone then
    { a with pending := false, triggers := .none,
             running := some (runPass a.capacity a.triggers ((s.airMembers g).map s.passMember)) }
  else a

/-- Every pending pass that can start does. -/
def State.startPasses (s : State) : State := { s with airs := s.airs.mapIdx fun g a => s.startPass g a }

/-- The capacity of a group becomes its fallback capacity, and CAPACITY_WRITE fires (R138). -/
def AirGroup.fallBack (g : AirGroup) : AirGroup := { g with capacity := g.fallback }.fire .capacityWrite

/-- Whether a flag was clear before and is set now (R142). -/
def ShortFlags.newlySet (old new : ShortFlags) : Bool :=
  (!old.floor && new.floor) || (!old.tier1 && new.tier1) || (!old.tier2 && new.tier2) || (!old.tier3 && new.tier3)

/-- A group whose running pass has decided `p` completes it (R142). -/
def AirGroup.complete (a : AirGroup) (p : PassRecord) : AirGroup :=
  { a with passCount := (a.passCount + 1) % 65536, flags := p.flags, unallocated := p.unallocated, last := p,
           running := none }

/-- A completed pass stores grant and tier in a room that is still a member (R133, R142). -/
def storeGrant (g : AirId) (p : PassRecord) (r : RoomId) (x : Room) : Room :=
  match p.members.find? fun m => m.room == r with
  | some m =>
    if x.cfg.enabled && x.cfg.airGroup == some g then { x with air := { x.air with grant := m.grant, tier := some m.tier } }
    else x
  | none => x

/-- ALLOCATION_PASS_COMPLETE: the running pass of a group, if there is one, completes (R142). -/
def State.completePass (s : State) (g : AirId) : State :=
  let a := s.airs.get g
  match a.running with
  | none => s
  | some p =>
    { s.mapRooms (storeGrant g p) with
      airs := s.airs.set g (a.complete p)
      port := s.port.raiseIf (a.flags.newlySet p.flags) .airShort }

/-- One second of a group's period timer, which runs only with a period of 1..600 (R136). A timer at its period is due
to match. -/
def AirGroup.second (a : AirGroup) : AirGroup :=
  if a.period = 0 then a else { a with timer := min a.period (a.timer + 1) }

/-- The match of the period timer, where it is due (R136). -/
def AirGroup.matchPeriod (a : AirGroup) : AirGroup :=
  if 0 < a.period && a.timer == a.period then { a with timer := 0 }.fire .period else a

end Sys2Proof.Machine
end

