-- ==== Sys2Proof/Machine/Blinds.lean ====
section
/-! DEFINITION. The blind travel model of one blind group: modelled position, tokens, planning, new targets, echoes,
completion, reversal and forgetting (R162 to R169). Nothing here reads the rest of the part. -/
namespace Sys2Proof.Machine

/-! ## Position and timers -/

/-- Elapsed tenths, up to a run: the n-th tick falls at the first cycle count not below n × 32768 / 10 (R162). -/
def Travel.elapsed (t : Travel) (run : Nat) : Nat := min run (t.base + t.cycles * 10 / 32768)

/-- The travel timer set to a value (R165). -/
def Travel.at (elapsed : Nat) : Travel := { base := elapsed, cycles := 0 }

/-- A position moved from origin towards destination by floor(distance × elapsed / run) (R162). -/
def along (origin dest elapsed run : Nat) : Nat :=
  if origin ≤ dest then origin + (dest - origin) * elapsed / run else origin - (origin - dest) * elapsed / run

/-- The modelled position; `none` is UNKNOWN (R162). -/
def Blind.modelled (b : Blind) : Option Nat :=
  match b.motion, b.cmd, b.stopped with
  | .stopping, _, some m =>
    match m.echoed, m.origin, m.dest with
    | true, some o, some d => some (along o d (b.timer.elapsed m.run) m.run)
    | _, _, _ => b.position
  | .raising, some c, _ =>
    match c.echoed, c.origin, c.dest with
    | true, some o, some d => some (along o d (b.timer.elapsed c.run) c.run)
    | _, _, _ => b.position
  | .lowering, some c, _ =>
    match c.echoed, c.origin, c.dest with
    | true, some o, some d => some (along o d (b.timer.elapsed c.run) c.run)
    | _, _, _ => b.position
  | _, _, _ => b.position

/-- The elapsed run as the model holds it (R162, R170). -/
def Blind.elapsedNow (b : Blind) : Nat :=
  match b.stopped, b.cmd with
  | some m, _ => b.timer.elapsed m.run
  | none, some c => b.timer.elapsed c.run
  | none, none => 0

/-- Whether the travel timer counts: an echoed move runs, or an echoed move is being stopped (R162, R167). -/
def Blind.travelling (b : Blind) : Bool :=
  match b.stopped, b.cmd with
  | some m, _ => m.echoed
  | none, some c => c.echoed && c.dir != .stop
  | none, none => false

/-- One cycle of the wing-clock input on a blind group's two timers (R162). -/
def Blind.cycles (b : Blind) (n : Nat) : Blind :=
  { b with timer := if b.travelling then { b.timer with cycles := b.timer.cycles + n } else b.timer,
           pause := b.pause.map (· + n) }

/-- The first cycle count at which 600 ms are over (R162, R167). -/
def pauseCycles : Nat := ceilDiv (600 * 32768) 1000

/-! ## Planning -/

/-- The lowest token the room unit cannot hold: neither the unit token nor one sent since echo (R163). -/
def freeToken (unit : Token) (sent : List Token) : Token :=
  match [(0 : Token), 1, 2, 3].find? fun t => t != unit && !sent.contains t with
  | some t => t
  | none => 0

/-- The distance of two positions. -/
def distance (a b : Nat) : Nat := if a ≤ b then b - a else a - b

/-- The run of a first reference (R164). -/
def firstRun (full : Nat) : Nat := ceilDiv (full * 11) 10

/-- The run of an ordinary move (R164). -/
def ordinaryRun (full origin dest : Nat) : Nat := ceilDiv (distance origin dest * full) 1000

/-- The run of a reference move (R164). -/
def referenceRun (full origin dest : Nat) : Nat := ceilDiv (ordinaryRun full origin dest * 11) 10

/-- A command made: it takes a new token, is not echoed, and elapsed is 0 (R163, R164). -/
def Blind.start (b : Blind) (unit : Token) (dir : Dir) (run : Nat) (origin dest : Option Nat) (reference : Bool)
    (motion : Motion) : Blind :=
  let token := freeToken unit b.sent
  { b with cmd := some { token := token, dir := dir, run := run, origin := origin, dest := dest,
                         reference := reference, echoed := false },
           sent := b.sent ++ [token], timer := .at 0, motion := motion }

/-- A move planned from a known position to a target that differs from it (R164). -/
def Blind.planFrom (b : Blind) (unit : Token) (full origin target : Nat) : Blind :=
  let dir : Dir := if target < origin then .up else .down
  let motion : Motion := if target < origin then .raising else .lowering
  if b.moves = 20 ∧ (target = 0 ∨ target = 1000) then
    b.start unit dir (referenceRun full origin target) (some origin) (some target) true motion
  else
    { b with moves := min 20 (b.moves + 1) }.start unit dir (ordinaryRun full origin target) (some origin)
      (some target) false motion

/-- A first reference run in place of a move from UNKNOWN; the target is kept as pending, unless it is 0 (R164). -/
def Blind.firstReference (b : Blind) (unit : Token) (full target : Nat) : Blind :=
  { b with pending := if target = 0 then none else some target }.start unit .up (firstRun full) none (some 0) true
    .raising

/-- The move that is due is planned: the group holds a target, is STILL with no command, and the target differs from
the position. While the unit token is unknown it waits (R163, R164). -/
def Blind.plan (b : Blind) (full : Nat) : Blind :=
  if b.motion = .still ∧ b.cmd = none then
    match b.unitToken, b.target with
    | some u, some t =>
      match b.position with
      | none => b.firstReference u full t
      | some p => if p = t then b else b.planFrom u full p t
    | _, _ => b
  else b

/-! ## New targets -/

/-- The target already held, which a newly chosen one is compared with: the pending target where there is one, or else
the target (R160, R162, R166; assumption 70). -/
def Blind.held (b : Blind) : Option Nat :=
  match b.pending with
  | some t => some t
  | none => b.target

/-- The command is replaced by a STOP and kept as the stopped move; the new target is pending (R167, R168). -/
def Blind.stopFor (b : Blind) (c : BlindCmd) (target : Nat) : Blind :=
  let unit := b.unitToken.getD 0
  let token := freeToken unit b.sent
  { b with cmd := some { token := token, dir := .stop, run := 0, origin := none, dest := none, reference := false,
                         echoed := false },
           stopped := some { token := c.token, origin := c.origin, dest := c.dest, run := c.run, echoed := c.echoed },
           sent := b.sent ++ [token], pending := some target, motion := .stopping }

/-- Whether a target lies on the far side of the modelled position in a command's direction (R166). -/
def beyond (dir : Dir) (m target : Nat) : Bool :=
  match dir with
  | .up => target < m
  | .down => m < target
  | .stop => false

/-- A new target while an echoed move runs (R166, R167). A first reference run is carried on with the target pending
(assumption 20). -/
def Blind.retarget (b : Blind) (full : Nat) (c : BlindCmd) (target : Nat) : Blind :=
  match c.origin, b.modelled with
  | some _, some m =>
    if c.dest = some target then { b with target := some target }
    else if beyond c.dir m target then
      { b with position := some m, target := some target }.planFrom (b.unitToken.getD 0) full m target
    else b.stopFor c target
  | _, _ => { b with pending := some target }

/-- A new target reaches the model (R164, R166, R167). -/
def Blind.newTarget (b : Blind) (full target : Nat) : Blind :=
  match b.motion, b.cmd with
  | .still, _ => { b with target := some target }.plan full
  | .stopping, _ => { b with pending := some target }
  | .pausing, _ => { b with pending := some target }
  | _, none => { b with pending := some target }
  | _, some c => if c.echoed then b.retarget full c target else { b with pending := some target }

/-- A LOWERING command held and not echoed (R168). -/
def Blind.unechoedLowering (b : Blind) : Option BlindCmd :=
  match b.cmd with
  | some c => if c.dir = .down ∧ c.echoed = false then some c else none
  | none => none

/-- The target chosen for a group is handed to the model (R160): nothing where it is the one held, but that the retract
of the façade replaces an unechoed LOWERING command at once (R168); then any move that is due is planned (R164). -/
def Blind.handTarget (b : Blind) (full : Nat) (retracted : Bool) (target : Option Nat) : Blind :=
  match target with
  | none => b.plan full
  | some t =>
    match (if retracted then b.unechoedLowering else none) with
    | some c => b.stopFor c 0
    | none => (if b.held = some t then b else b.newTarget full t).plan full

/-! ## Completion, echo and pause -/

/-- The pending target becomes the target and its move is planned (R164, R165, R167). -/
def Blind.takePending (b : Blind) (full : Nat) : Blind :=
  match b.pending with
  | some t => { b with target := some t, pending := none }.plan full
  | none => b

/-- A command completes: the position becomes its destination, and a reference run counts moves from 0 (R165). -/
def Blind.complete (b : Blind) (full : Nat) (c : BlindCmd) : Blind :=
  { b with position := c.dest, motion := .still, cmd := none, timer := .at 0,
           moves := if c.reference then 0 else b.moves }.takePending full

/-- The room unit has stopped: the position is the modelled one, UNKNOWN if the stopped move was never echoed, and the
pause begins (R167). -/
def Blind.stopDone (b : Blind) : Blind :=
  let known := match b.stopped with
    | some m => m.echoed
    | none => true
  { b with position := if known then b.modelled else none, cmd := none, stopped := none, timer := .at 0,
           motion := .pausing, pause := some 0 }

/-- What a report's echo does to the tokens (R163). -/
def Blind.echoToken (b : Blind) (token : Token) : Blind :=
  let mine := match b.cmd with
    | some c => c.token == token
    | none => false
  { b with unitToken := some token,
           sent := if mine then [] else (b.sent.dropWhile fun t => t != token).drop 1,
           cmd := b.cmd.map fun c => if c.token = token then { c with echoed := true } else c }

/-- A report's echo re-bases the travel timer (R165, R167): `run` less the remaining run. -/
def rebased (run remaining : Nat) : Travel := .at (run - remaining)

/-- The blind status of a good report: token and remaining run (R163, R165, R166, R167). A first echo that carries
remaining run 0 completes the command, and a pending target is planned after that (assumption 62). -/
def Blind.reported (b : Blind) (full : Nat) (token : Token) (remaining : Nat) : Blind :=
  let was := b
  let b := b.echoToken token
  match was.cmd with
  | none => b.plan full
  | some c =>
    if c.dir = .stop then
      if c.token = token then (if remaining = 0 then b.stopDone else b)
      else match b.stopped with
        | some m => if m.echoed ∧ m.token = token then { b with timer := rebased m.run remaining } else b
        | none => b
    else if c.token = token then
      let b := { b with timer := rebased c.run remaining }
      if remaining = 0 then b.complete full c
      else match c.echoed, c.origin, b.pending with
        | false, some _, some t => { b with pending := none }.retarget full { c with echoed := true } t
        | _, _, _ => b
    else b

/-- Whether a move has reached its run by the travel timer (R165). -/
def Blind.travelDue (b : Blind) : Bool :=
  match b.cmd with
  | some c => c.echoed && c.dir != .stop && c.run ≤ b.timer.elapsed c.run
  | none => false

/-- BLIND_TRAVEL_COMPLETE, where it is due (R165). -/
def Blind.travelComplete (b : Blind) (full : Nat) : Blind :=
  match b.cmd with
  | some c => if b.travelDue then b.complete full c else b
  | none => b

/-- Whether the pause of a reversal is over (R167). -/
def Blind.pauseDue (b : Blind) : Bool :=
  match b.pause with
  | some n => pauseCycles ≤ n
  | none => false

/-- BLIND_PAUSE_END, where it is due (R167). -/
def Blind.pauseEnd (b : Blind) (full : Nat) : Blind :=
  if b.pauseDue then { b with pause := none, motion := .still }.takePending full else b

/-! ## Forgetting -/

/-- The model no longer knows where the blind stands; the target held stays (R169). -/
def Blind.forget (b : Blind) (unit : Option Token) : Blind :=
  { b with position := none, motion := .still, pending := none, cmd := none, timer := .at 0, pause := none,
           stopped := none, unitToken := unit, sent := [] }

/-- The room enters SAFE (R169). -/
def Blind.lost (b : Blind) : Blind :=
  if b.motion = .still then { b with unitToken := none } else b.forget none

end Sys2Proof.Machine
end

