-- ==== Sys2Proof/Machine/Light.lean ====
section
/-! DEFINITION. The Light and Shade Unit: the scene window (R149 to R152), the forming of lighting levels (R153 to
R158) and the choice of blind targets (R160, R161). -/
namespace Sys2Proof.Machine

/-! ## The scene window -/

/-- The cell of the scene table under a (scene, channel) pair. -/
def State.cell (s : State) (sc : SceneId) (ch : ChannelId) : Nat := (s.scenes.get sc).get ch

/-- The pointer returns to the window's first cell and the past-end flag is clear (R149, R151, R152). -/
def Window.rewind (w : Window) : Window :=
  { w with scene := w.firstScene, channel := w.firstChannel, pastEnd := false }

/-- Whether the pointer stands on the window's last cell (R150). -/
def Window.atLast (w : Window) : Bool := w.scene == w.lastScene && w.channel == w.lastChannel

/-- The pointer steps once (R150). -/
def Window.step (w : Window) : Window :=
  if w.atLast then (if w.wrap = .on then w.rewind else { w with pastEnd := true })
  else match w.order with
    | .sceneMajor =>
      if w.channel < w.lastChannel then { w with channel := w.channel + 1 }
      else { w with scene := w.scene + 1, channel := w.firstChannel }
    | .channelMajor =>
      if w.scene < w.lastScene then { w with scene := w.scene + 1 }
      else { w with scene := w.firstScene, channel := w.channel + 1 }

/-- The window of a SCENE_WINDOW, if every field is within its values (R149). -/
def windowOf (f : WindowFields) : Option Window := do
  let s0 ← asIndex 16 f.firstScene
  let s1 ← asIndex 16 f.lastScene
  let c0 ← asIndex 4 f.firstChannel
  let c1 ← asIndex 4 f.lastChannel
  let order ← f.order
  let wrap ← f.wrap
  if s0 ≤ s1 ∧ c0 ≤ c1 then
    some { firstScene := s0, lastScene := s1, firstChannel := c0, lastChannel := c1, order := order, wrap := wrap,
           scene := s0, channel := c0, pastEnd := false }
  else none

/-- How a run of levels has gone: stored, discarded or ignored, and whether a stored level was clamped (R151). -/
structure SceneTally where
  stored : Nat
  dropped : Nat
  clamped : Bool
  deriving DecidableEq, Repr

/-- One level taken (R151). -/
def State.takeLevel (s : State) (t : SceneTally) (level : Nat) : State × SceneTally :=
  let w := s.window
  if w.pastEnd then (s, { t with dropped := t.dropped + 1 })
  else if w.scene = 0 then ({ s with window := w.step }, { t with dropped := t.dropped + 1 })
  else
    ({ s with scenes := s.scenes.modify w.scene fun row => row.set w.channel (min 1000 level), window := w.step },
     { t with stored := t.stored + 1, clamped := t.clamped || 1000 < level })

/-- A run of levels taken in order (R151). -/
def State.takeLevels (s : State) (levels : List Nat) : State × SceneTally :=
  levels.foldl (fun p level => p.1.takeLevel p.2 level) (s, ⟨0, 0, false⟩)

/-- A number of levels read from the pointer on (R152): the window after it, and the levels. -/
def State.readLevels (s : State) : Nat → Window → Window × List Nat
  | 0, w => (w, [])
  | n + 1, w =>
    let rest := s.readLevels n (if w.pastEnd then w else w.step)
    (rest.1, s.cell w.scene w.channel :: rest.2)

/-! ## Lighting levels -/

/-- Step 1: the scene of a room, and whether its levels are halved, by its effective state; `none` for no scene (R154).
A SAFE room is formed for the state beneath, which is its hold where one is present. -/
def serviceScene (svc : Service) (p : Profile) : Option SceneId :=
  match svc with
  | .precondition => some p.scenePre
  | .awaiting => some p.sceneAwait
  | .inUse => some p.sceneUse
  | .vacated => some p.sceneUse
  | .overrun => some p.sceneOver
  | .adHoc => some p.sceneUse
  | .setback => some 0
  | .unconfigured => none

/-- The effective state a room's lighting is formed for: beneath SAFE, the overlay or state that SAFE covers (R67,
R154). -/
def State.litState (s : State) (r : RoomId) : Effective :=
  match s.effective r with
  | .safe => if (s.room r).ctx.hold.isSome then .hold else if s.closed r then .closed else .service (s.base r)
  | e => e

/-- Step 2: a level dimmed against daylight (R155). -/
def dim (l lux target minDim : Nat) : Nat :=
  min l (max minDim (if lux < target then l * (target - lux) / target else 0))

/-- Step 3: the trim added to a lit channel (R156). -/
def trimmed (l l' : Nat) (trim : Int) : Nat := if l = 0 then 0 else (clampInt 0 1000 (l' + trim)).toNat

/-- Step 4: the economy cap (R157). -/
def capped (economy : Switch) (cap l : Nat) : Nat := if economy = .on then min l cap else l

/-- The scene level *L* of one channel (R154). -/
def State.sceneLevel (s : State) (e : Effective) (scene : SceneId) (ch : ChannelId) : Nat :=
  if e = .service .vacated then s.cell scene ch / 2 else s.cell scene ch

/-- The level after step 2 of one channel of a room (R155). -/
def State.dimmed (s : State) (r : RoomId) (l : Nat) (ch : ChannelId) : Nat :=
  let x := s.room r
  if x.cfg.daylight.get ch && x.oce.lux.valid then
    dim l x.oce.lux.value.toNat (s.govProfile r).luxTarget (s.govProfile r).minDim
  else l

/-- A room's lighting output record as its inputs now stand (R153 to R158). Under HOLD steps 2 and 3 do not apply and
the fade is 0. -/
def State.formLight (s : State) (r : RoomId) : LightOut :=
  let x := s.room r
  let e := s.litState r
  let below (ch : ChannelId) : Bool := ch.val < x.cfg.channels
  match e with
  | .service .unconfigured => .dark
  | .hold =>
    match x.ctx.hold with
    | some h =>
      { scene := some h.scene, fade := 0, daylight := false
        levels := .ofFn fun ch => if below ch then capped s.economy s.cap (s.cell h.scene ch) else 0 }
    | none => .dark
  | e =>
    let scene := match e with
      | .service svc => (serviceScene svc (s.govProfile r)).getD 0
      | _ => 0
    let l (ch : ChannelId) := s.sceneLevel e scene ch
    { scene := some scene, fade := (s.govProfile r).fade
      daylight := (List.finRange 4).any fun ch => below ch && s.dimmed r (l ch) ch < l ch
      levels := .ofFn fun ch =>
        if below ch then capped s.economy s.cap (trimmed (l ch) (s.dimmed r (l ch) ch) x.ctx.trim) else 0 }

/-- Every lighting output record formed again from its inputs as they stand (R153). A record whose inputs have not
changed is formed to the same record. -/
def State.relight (s : State) : State := s.mapRooms fun r x => { x with light := s.formLight r }

/-! ## Blind targets -/

/-- Lines 4 to 7: the target in an occupied-class state or PRECONDITION, by policy (R161). -/
def policyTarget (p : Profile) (seen : Sun) : Nat :=
  match p.policy with
  | .projection => p.blindPos
  | .daylight => if seen = .glare then p.glarePos else 0
  | .fixed => p.blindPos

/-- Lines 8 to 10: the target in SETBACK or CLOSED; `none` where the target held stays (R161). -/
def setbackTarget (f : Facade) : Option Nat :=
  match f.sun, f.season with
  | .none, _ => none
  | _, .cooling => some 1000
  | _, .heating => some 0

/-- The target a blind group is given; `none` where the target held stays (R161). -/
def State.chooseTarget (s : State) (r : RoomId) (b : BlindId) : Option Nat :=
  let x := s.room r
  let f := s.facades.get (x.cfg.facades.get b)
  if f.retract = .on then some 0
  else match s.effective r with
    | .hold => x.ctx.hold.map fun h => h.blinds.get b * 10
    | .safe => none
    | .closed => setbackTarget f
    | .service svc =>
      if svc.occupiedClass then
        match x.ctx.overrides.get b with
        | .up => some 0
        | .down => some 1000
        | .none => some (policyTarget (s.govProfile r) f.sun)
      else match svc with
        | .precondition => some (policyTarget (s.govProfile r) f.sun)
        | .setback => setbackTarget f
        | _ => none

/-- A blind group after the target chosen for it is handed to its travel model. Groups of disabled rooms and groups at
or above the count are not chosen for (R160). -/
def State.aimBlind (s : State) (r : RoomId) (b : BlindId) (x : Blind) : Blind :=
  let c := (s.room r).cfg
  if c.enabled && b.val < c.blindCount then
    x.handTarget (c.travels.get b) ((s.facades.get (c.facades.get b)).retract == .on) (s.chooseTarget r b)
  else x

/-- Every blind group's target chosen again from its inputs as they stand (R160). A target equal to the one held
changes nothing. -/
def State.aim (s : State) : State :=
  s.mapRooms fun r x => { x with blinds := x.blinds.mapIdx fun b y => s.aimBlind r b y }

end Sys2Proof.Machine
end

