-- ==== Sys2Proof/Machine/Deliver.lean ====
section
/-! DEFINITION. What follows every effect on the rooms: demand, lighting and blind targets follow their inputs, rooms
enter the room change set, allocation passes start, and the store arbiter takes its next operation (R42, R43, R67, R126,
R137, R153, R160, R194). -/
namespace Sys2Proof.Machine

/-! ## The room change set -/

/-- Whether a room's presence moved into or out of EMPTY (R121). -/
def emptyMoved (a b : Presence) : Bool := (a == .empty) != (b == .empty)

/-- The state of a room's partition group, if it is in one (R96). -/
def State.groupStateAt (s : State) (r : RoomId) : Option GroupState := (s.groupOf r).map fun p => p.2.state

/-- Whether a room's partition group has changed state: its group has one before and after and they differ, or its
group was MERGED and is gone (R16, R96). -/
def groupMoved (a b : Option GroupState) : Bool :=
  match a, b with
  | some x, some y => x != y
  | some x, none => x == .merged
  | none, _ => false

/-- The state of a room's station, if it has one. -/
def Room.stationState (x : Room) : Option StationState := x.station.map fun t => t.state

/-- Whether a step has changed what R194 lists of a room. An agenda that is the same after the step as before has not
changed: emptied when it was empty, or with an entry removed and placed again identical (assumption 65). -/
def State.roomMoved (s before : State) (r : RoomId) : Bool :=
  let x := before.room r
  let y := s.room r
  before.effective r != s.effective r
    || x.agenda.map Entry.untimed != y.agenda.map Entry.untimed
    || emptyMoved (before.presence r) (s.presence r)
    || x.stationState != y.stationState
    || groupMoved (before.groupStateAt r) (s.groupStateAt r)
    || (!x.ctx.noteLost && y.ctx.noteLost)

/-- The rooms that pass a test enter the room change set (R194). -/
def State.noteRooms (s : State) (p : RoomId → Bool) : State :=
  { s with port := { s.port with roomChanges := s.port.roomChanges.mapIdx fun r b => b || p r }.raiseIf
                     (allRooms.any p) .roomsChanged }

/-! ## Air group triggers -/

/-- Whether a delivery of R67 takes place for a room: its effective state, its governing entry or the service state
beneath an overlay has changed. For a member of a MERGED group the governing entry and the service state are the
group's (R100), and a change of its own alone is no delivery (assumption 69). -/
def State.faceMoved (s before : State) (r : RoomId) : Bool :=
  before.effective r != s.effective r || before.base r != s.base r || before.govHandle r != s.govHandle r

/-- The air group whose member a room is: its own while it is enabled (R133). -/
def State.airGroupOf (s : State) (r : RoomId) : Option AirId :=
  if (s.room r).cfg.enabled then (s.room r).cfg.airGroup else none

/-- MEMBER_STATE_CHANGE fires in every group with a member, before or after the step, that a delivery concerns or that
the step touched (R137). A room that one step both moves between groups and changes in state fires it in both
(assumption 61). -/
def State.fireMembers (s before : State) (touched : RoomId → Bool) : State :=
  let hit (g : AirId) : Bool := allRooms.any fun r =>
    (before.airGroupOf r == some g || s.airGroupOf r == some g) && (touched r || s.faceMoved before r)
  { s with airs := s.airs.mapIdx fun g a => if hit g then a.fire .memberChange else a }

/-! ## The store arbiter -/

/-- An operation is taken: it judges by the clock as it stands (R42). -/
def State.beginOp (s : State) (op : StoreOp) : State :=
  { s with store := { s.store with running := some { op := op, at_ := s.instant } } }

/-- The lowest-numbered room with a request waiting (R43). -/
def State.requestRoom (s : State) : Option RoomId := allRooms.find? fun r => !(s.room r).ctx.requests.isEmpty

/-- The idle arbiter takes the next operation: calendar steps first, then the oldest request of the lowest-numbered room
that has one, then the host command (R43). A note leaves its room's list when it is taken (R77). -/
def State.takeNext (s : State) : State :=
  if s.store.running.isSome then s
  else match s.store.steps with
    | st :: rest => { s with store := { s.store with steps := rest } }.beginOp (.step st)
    | [] =>
      match s.requestRoom with
      | some r =>
        match (s.room r).ctx.requests with
        | q :: rest => (s.modifyCtx r fun c => { c with requests := rest }).beginOp (.room r q)
        | [] => s
      | none =>
        match s.store.hostWait with
        | some op => { s with store := { s.store with hostWait := none } }.beginOp (.host op)
        | none => s

/-! ## After every effect -/

/-- The blocks' outputs follow their inputs: demand, lighting and blind targets (R126, R153, R160). -/
def State.follow (s : State) : State := s.recompute.relight.aim

/-- What follows an effect that began at `before`. `touched` names rooms whose hold was accepted or ended, which fires
MEMBER_STATE_CHANGE with no delivery of R67 (R137). -/
def State.finishWith (s before : State) (touched : RoomId → Bool) : State :=
  let t := s.follow
  ((t.noteRooms (t.roomMoved before)).fireMembers before touched).startPasses.takeNext

/-- What follows an effect that touches no hold. -/
def State.finish (s before : State) : State := s.finishWith before fun _ => false

/-- Whether a status accepts its command (R193). -/
def Status.accepted : Status → Bool
  | .ok => true
  | .okClamped => true
  | .okOversize => true
  | _ => false

/-- A complete queued command whose owner answers at once, with everything that follows its effect; a refused command
changes nothing and nothing follows it (R191, R193). `touched` is as for `finishWith`. -/
def State.queuedTouching (s : State) (cmd : Instr) (touched : RoomId → Bool) (act : State → State × Status × Result) :
    State :=
  s.queued cmd fun t =>
    match act t with
    | (u, e, x) => (if e.accepted then u.finishWith t touched else u, e, x)

/-- The same, for a command that accepts or ends no hold. -/
def State.queuedEffect (s : State) (cmd : Instr) (act : State → State × Status × Result) : State :=
  s.queuedTouching cmd (fun _ => false) act

/-- A complete queued command that goes to the store arbiter, which takes it at once when it is idle (R42, R43). -/
def State.queuedOperation (s : State) (cmd : Instr) (op : HostOp) : State :=
  s.hostHeard.arrive fun t => (t.storeCommand cmd op).takeNext

/-- A complete queued command that its owner answers at once, or that goes to the store arbiter as its host command,
as the owner's checks decide (R2, R92, R191). -/
def State.queuedEither (s : State) (cmd : Instr) (act : State → (State × Status × Result) ⊕ HostOp) : State :=
  s.hostHeard.arrive fun t =>
    match act t with
    | .inl (u, e, x) => (if e.accepted then u.finish t else u).respond cmd false e x
    | .inr op => (t.storeCommand cmd op).takeNext

end Sys2Proof.Machine
end

