-- ==== Sys2Proof/Machine/Store.lean ====
section
/-! DEFINITION. The Booking Store: handles, collision, day cap and past tests, and what each store operation on records
does (R18 to R41). -/
namespace Sys2Proof.Machine

/-! ## Slots and handles -/

/-- One slot replaced. -/
def State.setSlot (s : State) (k : SlotId) (x : Slot) : State :=
  { s with store := { s.store with slots := s.store.slots.set k x } }

/-- The record of a live slot changed. -/
def State.modifyRecord (s : State) (k : SlotId) (f : Record → Record) : State :=
  s.setSlot k { s.store.slots.get k with record := (s.store.slots.get k).record.map f }

/-- A slot becomes free and its generation advances, from 15 to 0 (R19). -/
def State.freeSlot (s : State) (k : SlotId) : State :=
  s.setSlot k { gen := ((s.store.slots.get k).gen + 1) % 16, record := none }

/-- The lowest-numbered free slot (R19). -/
def State.lowestFree (s : State) : Option SlotId :=
  (List.finRange 512).find? fun k => (s.store.slots.get k).record.isNone

/-- What a handle resolves to (R19). -/
inductive Resolved where
  | live (slot : SlotId) (record : Record)
  | refused (status : Status)
  deriving DecidableEq, Repr

/-- A handle is resolved before anything else is done (R19). -/
def State.resolve (s : State) (h : Handle) : Resolved :=
  match asIndex 512 h.slot with
  | none => .refused .range
  | some k =>
    match (s.store.slots.get k).record with
    | none => .refused .notFound
    | some b => if (s.store.slots.get k).gen = h.gen then .live k b else .refused .stale

/-- The seat capacity of a target (R18). -/
def State.seatCapacity (s : State) (t : Target) : Nat := s.sumOver (s.claims t) (·.cfg.seats)

/-- The target check (R25, check 3). -/
def State.targetReady (s : State) : Target → Bool
  | .room r => (s.room r).cfg.enabled
  | .group g => (s.groups.get g).isSome

/-- Whether a record targets a room, or a group containing it, by way of membership as it stands. -/
def State.targetsRoom (s : State) (b : Record) (r : RoomId) : Bool := (s.claims b.target).contains r

/-- Whether any record, ACTIVE or SUSPENDED, targets a room or a group containing it (R2, R15). -/
def State.roomBooked (s : State) (r : RoomId) : Bool := s.records.any fun p => s.targetsRoom p.2 r

/-- Whether any record targets a group (R15). -/
def State.groupBooked (s : State) (g : GroupId) : Bool := s.records.any fun p => p.2.target == .group g

/-! ## Dates -/

/-- A record's dates in order of week (R20). -/
def Record.dates (b : Record) : List Date :=
  ((List.range 64).map fun w => (⟨w, b.weekday⟩ : Date)).filter b.hasDate

/-- Whether a date is today for an operation that judges by an instant. While the clock is INVALID there is no today
(R47). -/
def Instant.isToday (now : Instant) (d : Date) : Bool := now.valid && d == now.date

/-- The past test: no date later than today, and today's occurrence, if there is one, over by `stop` (R23). -/
def inPast (now : Instant) (b : Record) (stop : Nat) : Bool :=
  now.valid && !(b.dates.any fun d => now.date.day < d.day) && !(b.hasDate now.date && now.minute < stop)

/-! ## Collision -/

/-- Two intervals widened by a gap overlap when each begins before the other ends (R21). -/
def overlapping (gap : Nat) (a b : Nat × Nat) : Bool := a.1 < b.2 + gap && b.1 < a.2 + gap

/-- The minutes a record takes on a date in a room that its target claims: today its agenda entry stands in for it,
whatever the entry's state and whether or not the record still gives today (R21). In a room that its target no longer
claims it takes none, also where an entry was kept there (R21, R27). -/
def State.spanOn (s : State) (now : Instant) (h : Handle) (b : Record) (d : Date) (r : RoomId) : Option (Nat × Nat) :=
  let own := if b.hasDate d then some (b.start, b.stop) else none
  if !s.targetsRoom b r then none
  else if now.isToday d then
    match entryOf (s.room r).agenda h with
    | some e => some (e.start, e.curEnd)
    | none => own
  else own

/-- A candidate of the collision and day-cap tests: a record that is not in the store, or the changed or resumed form of
one that is, with the extension total of its entry today (R21, R22). -/
structure Proposal where
  self : Option Handle
  record : Record
  ext : Nat
  deriving DecidableEq, Repr

/-- The minutes a candidate takes on a date. -/
def Proposal.span (p : Proposal) (now : Instant) (d : Date) : Nat × Nat :=
  (p.record.start, p.record.stop + if now.isToday d then p.ext else 0)

/-- The ACTIVE records other than the candidate, in slot order (R21). -/
def State.others (s : State) (p : Proposal) : List (Handle × Record) :=
  s.activeRecords.filter fun q => p.self != some q.1

/-- Whether a candidate collides with a record on some date in some room under a gap (R21). -/
def State.collides (s : State) (now : Instant) (gap : Nat) (p : Proposal) (q : Handle × Record) : Bool :=
  p.record.dates.any fun d => (s.claims p.record.target).any fun r =>
    match s.spanOn now q.1 q.2 d r with
    | some i => overlapping gap (p.span now d) i
    | none => false

/-- The colliding record with the lowest slot (R21). -/
def State.collision (s : State) (now : Instant) (p : Proposal) : Option Handle :=
  ((s.others p).find? fun q => s.collides now s.cal.gap p q).map (·.1)

/-! ## The day cap -/

/-- The occurrences that count against a room on a date, the candidate's own apart (R22). -/
def State.dayCount (s : State) (now : Instant) (p : Proposal) (d : Date) (r : RoomId) : Nat :=
  let due := (s.others p).filter fun q => q.2.hasDate d && s.targetsRoom q.2 r
  if now.isToday d then
    let agenda := (s.room r).agenda
    (agenda.filter fun e => p.self != some e.handle).length + (due.filter fun q => (entryOf agenda q.1).isNone).length
  else due.length

/-- The first offending date, with the lowest-numbered room that fails on it (R22). -/
def State.dayFull (s : State) (now : Instant) (p : Proposal) : Option (Date × RoomId) :=
  p.record.dates.findSome? fun d =>
    (((s.claims p.record.target).find? fun r => 16 < s.dayCount now p d r + 1)).map fun r => (d, r)

/-- Collision and then the day cap: the refusal with its result, if there is one (R25, R26, R30). -/
def State.crowded (s : State) (now : Instant) (p : Proposal) : Option (Status × Result) :=
  match s.collision now p with
  | some h => some (.conflict, .handle h)
  | none => (s.dayFull now p).map fun f => (.dayFull, .dayFull f.1 f.2)

/-! ## Operations on records -/

/-- OK_OVERSIZE, OK_CLAMPED or OK for accepted booking fields (R25). -/
def State.bookedStatus (s : State) (b : Record) (clamped : Bool) : Status :=
  if s.seatCapacity b.target < b.attendance then .okOversize else okStatus clamped

/-- An outcome of a store operation: the state, and the response of a host command. -/
abbrev Answered := State × Status × Result

/-- A refusal leaves everything as it was. -/
def State.refuse (s : State) (status : Status) : Answered := (s, status, .none)

/-- CREATE_BOOKING (R25). -/
def State.createBooking (s : State) (now : Instant) (f : BookingFields) : Answered :=
  match recordOf f with
  | none => s.refuse .range
  | some (b, clamped) =>
    if inPast now b b.stop then s.refuse .past
    else if !s.targetReady b.target then s.refuse .notEnabled
    else match s.lowestFree with
      | none => s.refuse .full
      | some k =>
        match s.crowded now ⟨none, b, 0⟩ with
        | some e => (s, e)
        | none =>
          let h : Handle := { slot := k.val, gen := (s.store.slots.get k).gen }
          let t := s.setSlot k { gen := h.gen, record := some b }
          ((t.placeToday now h b).reportChanges s none, s.bookedStatus b clamped, .booking h b)

/-- Whether some agenda holds a live entry of a handle, with the clock VALID (R26). -/
def State.liveEntry (s : State) (now : Instant) (h : Handle) : Bool := now.valid && s.hasEntry h EntryState.live

/-- The lowest-numbered room's entry of a handle that passes a test. -/
def State.entryWith (s : State) (h : Handle) (p : Entry → Bool) : Option Entry :=
  allRooms.findSome? fun r => (entryOf (s.room r).agenda h).filter p

/-- The extension total of a handle's entry today: of a live entry where it has one, else of any; 0 when it has none
(R21, R26; assumption 15). -/
def State.extOf (s : State) (h : Handle) : Nat :=
  (((s.entryWith h fun e => e.state.live).or (s.entryWith h fun _ => true)).map (·.ext)).getD 0

/-- Whether an amendment changes nothing but end and attendance (R26). -/
def sameButEnd (a b : Record) : Bool :=
  a.target == b.target && a.pattern == b.pattern && a.weekday == b.weekday && a.firstWeek == b.firstWeek
    && a.lastWeek == b.lastWeek && a.skips == b.skips && a.start == b.start && a.cls == b.cls

/-- The live test of an amendment: the refusal it gives, if any (R26, check 5). -/
def liveTest (now : Instant) (live : Bool) (ext : Nat) (old new : Record) : Option Status :=
  if !live then none
  else if !sameButEnd old new then some .live
  else if new.stop + ext ≤ now.minute then some .past
  else if 1440 < new.stop + ext then some .range
  else none

/-- An entry's end and attendance change, where it is in a state to take it: not terminal (R27, R38, R56;
assumption 15). -/
def Entry.moveEnd (e : Entry) (curEnd ext attendance : Nat) : Entry :=
  if e.state.terminal then e else { e with curEnd := curEnd, ext := ext, attendance := attendance }

/-- Today's agendas after an accepted amendment of an ACTIVE record (R27). Where no entry is live, a WAITING entry
decides over terminal ones of the same handle in other members (assumption 51). Where the WAITING entry is placed again
identical, the room does not enter the room change set (R194, assumption 65). -/
def State.amendAgendas (s : State) (now : Instant) (h : Handle) (b : Record) : State :=
  if !now.valid then s
  else if s.hasEntry h EntryState.live then
    s.mapHandle h fun e => e.moveEnd (b.stop + e.ext) e.ext b.attendance
  else if s.hasEntry h (· == .waiting) then (s.removeHandle h).placeToday now h b
  else if s.hasEntry h fun _ => true then s
  else s.placeToday now h b

/-- AMEND_BOOKING (R26, R27). -/
def State.amendBooking (s : State) (now : Instant) (h : Handle) (f : BookingFields) : Answered :=
  match s.resolve h with
  | .refused e => s.refuse e
  | .live k old =>
    match recordOf f with
    | none => s.refuse .range
    | some (fields, clamped) =>
      let b := { fields with state := old.state, noShows := old.noShows, releases := old.releases }
      let live := s.liveEntry now h
      let ext := if now.valid then s.extOf h else 0
      if inPast now b (if live then b.stop + ext else b.stop) then s.refuse .past
      else if !s.targetReady b.target then s.refuse .notEnabled
      else match liveTest now live ext old b with
        | some e => s.refuse e
        | none =>
          match (if old.state = .active then s.crowded now ⟨some h, b, ext⟩ else none) with
          | some e => (s, e)
          | none =>
            let t := s.setSlot k { gen := h.gen, record := some b }
            let t := if old.state = .active then (t.amendAgendas now h b).reportChanges s none else t
            (t, s.bookedStatus b clamped, .booking h b)

/-- CANCEL_BOOKING (R28). -/
def State.cancelBooking (s : State) (h : Handle) : Answered :=
  match s.resolve h with
  | .refused e => s.refuse e
  | .live k _ => (((s.freeSlot k).removeHandle h).reportChanges s none, .ok, .handle h)

/-- SUSPEND_BOOKING (R29). -/
def State.suspendBooking (s : State) (h : Handle) : Answered :=
  match s.resolve h with
  | .refused e => s.refuse e
  | .live k _ =>
    let t := s.modifyRecord k fun b => { b with state := .suspended .host }
    ((t.removeHandle h).reportChanges s none, .ok, .none)

/-- RESUME_BOOKING (R30). -/
def State.resumeBooking (s : State) (now : Instant) (h : Handle) : Answered :=
  match s.resolve h with
  | .refused e => s.refuse e
  | .live k old =>
    if old.state = .active then (s, .ok, .none)
    else
      let b := { old with state := .active, noShows := 0 }
      if inPast now b b.stop then s.refuse .past
      else match s.crowded now ⟨some h, b, 0⟩ with
        | some e => (s, e)
        | none =>
          let t := s.setSlot k { gen := h.gen, record := some b }
          ((t.placeToday now h b).reportChanges s none, s.bookedStatus b false, .none)

/-- READ_BOOKING (R31). -/
def State.readBooking (s : State) (h : Handle) : Status × Result :=
  match s.resolve h with
  | .refused e => (e, .none)
  | .live _ b => (.ok, .record b)

/-- LIST_ROOM_BOOKINGS (R31). -/
def State.listRoomBookings (s : State) (room : Nat) (cursor : Option Nat) : Status × Result :=
  match asRoom room with
  | none => (.range, .none)
  | some r =>
    if cursor.any (512 ≤ ·) then (.range, .none)
    else
      let above := fun (p : Handle × Record) => s.targetsRoom p.2 r && !cursor.any (p.1.slot ≤ ·)
      let all := if (s.room r).cfg.enabled then s.records.filter above else []
      (.ok, .bookingList ((all.take 8).map (·.1)) (8 < all.length))

/-- READ_AGENDA (R32). -/
def State.readAgenda (s : State) (room first : Nat) : Status × Result :=
  match asRoom room with
  | none => (.range, .none)
  | some r =>
    if 15 < first then (.range, .none)
    else (.ok, .agenda (s.room r).agenda.length (((s.room r).agenda.drop first).take 4))

/-! ## The free-room search -/

/-- A candidate of the search at its place: smallest slack first, after those of equal slack that came before it
(R34). -/
def insertCandidate (c : Candidate) : List Candidate → List Candidate
  | [] => [c]
  | x :: rest => if c.slack < x.slack then c :: x :: rest else x :: insertCandidate c rest

/-- The targets the search considers, rooms before groups, lower numbers first (R33, R34). -/
def State.searchTargets (s : State) (groups : Bool) : List Target :=
  ((allRooms.filter fun r => (s.room r).cfg.enabled).map Target.room)
    ++ if groups then (((List.finRange 8).filter fun g => (s.groups.get g).isSome).map Target.group) else []

/-- FIND_FREE_ROOM (R33, R34). -/
def State.findFreeRoom (s : State) (now : Instant) (week weekday start stop attendance : Nat) (groups : Bool) :
    Status × Result :=
  let d : Date := ⟨week, weekday⟩
  match adjustTimes start stop attendance with
  | none => (.range, .none)
  | some t =>
    if !d.inTerm then (.range, .none)
    else if s.cal.closures.contains d then (.closedDay, .candidates [])
    else
      let asBooking (target : Target) : Proposal :=
        ⟨none, { target := target, pattern := .single, weekday := weekday, firstWeek := week, lastWeek := week,
                 skips := [], start := t.start, stop := t.stop, cls := 1, attendance := t.attendance,
                 state := .active, noShows := 0, releases := 0 }, 0⟩
      let free := (s.searchTargets groups).filter fun x =>
        t.attendance ≤ s.seatCapacity x && (s.crowded now (asBooking x)).isNone
      let ranked := free.foldl (fun l x => insertCandidate ⟨x, s.seatCapacity x - t.attendance⟩ l) []
      (okStatus t.clamped, .candidates (ranked.take 4))

/-! ## Retirement -/

/-- Whether a record's last date lies before a date (R41). -/
def Record.over (b : Record) (d : Date) : Bool := b.lastDate.day < d.day

/-- The live slots whose records a retirement pass at a date retires, each with its handle (R41). -/
def State.toRetire (s : State) (d : Date) : List (SlotId × Handle) :=
  (List.finRange 512).filterMap fun k =>
    match (s.store.slots.get k).record with
    | some b => if b.over d then some (k, { slot := k.val, gen := (s.store.slots.get k).gen }) else none
    | none => none

/-- One record retires: its slot enters the booking change set and becomes free, and its entries leave every agenda
(R41). -/
def State.retireOne (s : State) (p : SlotId × Handle) : State :=
  let t := { s with port := s.port.bookingChanged { slot := p.1, gen := p.2.gen, reason := .retired } }
  (t.freeSlot p.1).removeHandle p.2

/-- The retirement pass at a date, with the number of records retired (R41). -/
def State.retire (s : State) (d : Date) : State × Nat :=
  let due := s.toRetire d
  ((due.foldl State.retireOne s).reportChanges s none, due.length)

/-! ## Notes and extensions -/

/-- A record is reclaimed (R36). -/
def State.reclaim (s : State) (k : SlotId) (h : Handle) : State :=
  let t := s.modifyRecord k fun b => { b with state := .suspended .reclaimed }
  let t := { t with port := t.port.bookingChanged { slot := k, gen := h.gen, reason := .reclaimed } }
  (t.removeHandle h).reportChanges s none

/-- A note is served (R35, R37). -/
def State.serveNote (s : State) (kind : NoteKind) (h : Handle) : State :=
  match s.resolve h with
  | .refused _ => s
  | .live k b =>
    if b.state = .active then
      match kind with
      | .confirm => s.modifyRecord k fun b => { b with noShows := 0 }
      | .release =>
        let n := min 15 (b.noShows + 1)
        let t := s.modifyRecord k fun b => { b with noShows := n, releases := min 255 (b.releases + 1) }
        let limit := (s.profiles.get b.cls).reclaim
        if b.pattern = .weekly ∧ limit ≠ 0 ∧ limit ≤ n then t.reclaim k h else t
    else s

/-- The outcome of an extension request: granted, or refused as R39 answers the host. -/
inductive Extended where
  | granted (curEnd ext : Nat)
  | refused (status : Status) (result : Result)
  deriving DecidableEq, Repr

/-- The record that an extended entry collides with today (R38, check 4). -/
def State.extendCollision (s : State) (now : Instant) (h : Handle) (b : Record) (e : Entry) (stop : Nat) :
    Option Handle :=
  ((s.activeRecords.filter fun q => q.1 != h).find? fun q => (s.claims b.target).any fun r =>
    match s.spanOn now q.1 q.2 now.date r with
    | some i => overlapping s.cal.gap (e.start, stop) i
    | none => false).map (·.1)

/-- The checks of an extension request of room `r` (R38, R39). The step is the request's own, and the maximum is the
profile's as it stands at serving (R13; assumption 52). -/
def State.extendChecks (s : State) (now : Instant) (r : RoomId) (h : Handle) (step : Nat) : Extended :=
  match s.resolve h with
  | .refused e => .refused e .none
  | .live _ b =>
    if b.state ≠ .active then .refused .notFound .none
    else if !now.valid then .refused .past .none
    else match entryOf (s.room r).agenda h with
      | none => .refused .past .none
      | some e =>
        if ¬ (e.state = .started ∨ e.state = .confirmed) ∨ e.curEnd ≤ now.minute then .refused .past .none
        else if (s.profiles.get b.cls).maxExt < e.ext + step ∨ 1440 < e.curEnd + step then .refused .range .none
        else match s.extendCollision now h b e (e.curEnd + step) with
          | some g => .refused .conflict (.handle g)
          | none => .granted (e.curEnd + step) (e.ext + step)

/-- An extension request served: a grant moves the end of every entry of the handle that is not terminal (R38, R56). -/
def State.extend (s : State) (now : Instant) (r : RoomId) (h : Handle) (step : Nat) : State × Extended :=
  match s.extendChecks now r h step with
  | .granted curEnd ext =>
    let t := s.mapHandle h fun e => e.moveEnd (e.curEnd + step) (e.ext + step) e.attendance
    (t.reportChanges s none, .granted curEnd ext)
  | .refused e x => (s, .refused e x)

/-- The answer of a panel's extension request (R80): the pending request is over, and the result is taken only where the
handle governs the room that asked when the answer comes, also where it ceased to govern and governs again (R102,
assumption 72). -/
def State.extensionAnswered (s : State) (r : RoomId) (h : Handle) (x : Extended) : State :=
  s.modifyCtx r fun c =>
    { c with extPending := false
             extResult := if c.gov = some h then
                 (match x with
                  | .granted _ _ => .granted
                  | .refused _ _ => .refused)
               else c.extResult }

/-- EXTEND_OCCURRENCE as the store answers it (R39, R92). -/
def State.extendForHost (s : State) (now : Instant) (r : RoomId) (h : Handle) (step : Nat) : Answered :=
  match s.extend now r h step with
  | (t, .granted curEnd ext) => (t, .ok, .extended h curEnd ext)
  | (t, .refused e x) => (t, e, x)

/-! ## The changeover gap -/

/-- Whether two records whose targets claim a common room collide under a gap on some date in such a room (R21, R40). -/
def State.pairCollides (s : State) (now : Instant) (gap : Nat) (p q : Handle × Record) : Bool :=
  (p.2.dates ++ (if now.valid then [now.date] else [])).any fun d => (s.claims p.2.target).any fun r =>
    match s.spanOn now p.1 p.2 d r, s.spanOn now q.1 q.2 d r with
    | some i, some j => overlapping gap i j
    | _, _ => false

/-- The first colliding pair of a list in slot order (R40). -/
def State.firstPair (s : State) (now : Instant) (gap : Nat) : List (Handle × Record) → Option (Handle × Handle)
  | [] => none
  | p :: rest =>
    match rest.find? fun q => s.pairCollides now gap p q with
    | some q => some (p.1, q.1)
    | none => s.firstPair now gap rest

/-- The earliest pair of consecutive entries of an agenda that stand too close (R40). -/
def closePair (gap : Nat) : List Entry → Option (Handle × Handle)
  | a :: b :: rest => if b.start < a.curEnd + gap then some (a.handle, b.handle) else closePair gap (b :: rest)
  | _ => none

/-- The gap check of a WRITE_WING that raises the gap: the data of its CONFLICT, if it fails (R40). -/
def State.gapCheck (s : State) (now : Instant) (gap : Nat) : Option Result :=
  match s.firstPair now gap s.activeRecords with
  | some (a, b) => some (.handlePair a b)
  | none =>
    if now.valid then
      allRooms.findSome? fun r => (closePair gap (s.room r).agenda).map fun p => .roomPair r p.1 p.2
    else none

/-! ## Closures and the clock -/

/-- A date at its place in order (R48). -/
def insertDate (d : Date) : List Date → List Date
  | [] => [d]
  | x :: rest => if d.day < x.day then d :: x :: rest else x :: insertDate d rest

/-- ADD_CLOSURE (R48, R49). -/
def State.addClosure (s : State) (now : Instant) (d : Date) : Answered :=
  if !d.inTerm then s.refuse .range
  else if s.cal.closures.contains d then s.refuse .range
  else if 24 ≤ s.cal.closures.length then s.refuse .full
  else
    let t := { s with cal := { s.cal with closures := insertDate d s.cal.closures } }
    let u := if now.isToday d then
        t.mapAgendas fun _ a => a.map fun e =>
          if e.state = .waiting ∨ e.state = .preconditioning then e.toState .skipped else e
      else t
    (u.reportChanges s none, .ok, .closureCount t.cal.closures.length)

/-- The records that a removed closure brings back in a room, in slot order (R50). -/
def State.broughtBack (s : State) (now : Instant) (r : RoomId) : List (Handle × Record) :=
  s.activeRecords.filter fun p =>
    s.occurs p.2 now.date && s.targetsRoom p.2 r && (entryOf (s.room r).agenda p.1).isNone

/-- REMOVE_CLOSURE (R48, R50). -/
def State.removeClosure (s : State) (now : Instant) (d : Date) : Answered :=
  if !d.inTerm then s.refuse .range
  else if !s.cal.closures.contains d then s.refuse .notFound
  else
    let t := { s with cal := { s.cal with closures := s.cal.closures.erase d } }
    let u := if now.isToday d then
        allRooms.foldl (fun u r => (u.broughtBack now r).foldl (fun u p => u.placeIn now.minute r p.1 p.2) u) t
      else t
    (u.reportChanges s none, .ok, .closureCount t.cal.closures.length)

/-- The clock after a SET_CLOCK (R63). -/
def State.putClock (s : State) (d : Date) (m : Nat) : State :=
  { s with cal := { s.cal with valid := true, week := d.week, weekday := d.weekday, minute := m, second := 0,
                               minuteDue := false } }

/-- SET_CLOCK (R63, R64). At a new date the retirement pass takes its entries out of the old day's agendas first, as any
removal (R41), and what is left of the old day is discarded before the builds (R63). -/
def State.setClock (s : State) (d : Date) (m : Nat) : Answered :=
  if !d.inTerm || 1440 ≤ m then s.refuse .range
  else if s.cal.valid && s.today == d then
    ((s.putClock d m).jump s.cal.minute m, .ok, .clockSet d m 0)
  else
    let now : Instant := { valid := true, date := d, minute := m }
    let retired := (s.putClock d m).retire d
    let t := retired.1.mapAgendas fun _ _ => []
    (allRooms.foldl (fun t r => t.build now r) t, .ok, .clockSet d m retired.2)

end Sys2Proof.Machine
end

