-- ==== Sys2Proof/Machine/Occupancy.lean ====
section
/-! DEFINITION. The Occupancy Estimator: intake of a report, calibration, door counts, the tally, presence and its
timers, and the freeze of a SAFE room (R109 to R121). -/
namespace Sys2Proof.Machine

/-- The values a REPORT carries, as its bytes give them (R203, R208). -/
structure Report where
  entries : Nat
  exits : Nat
  motion : Nat
  co2 : Nat
  temp : Int
  lux : Nat
  theta : Nat
  contactOpen : Bool
  eventCode : Nat
  eventNumber : Token
  blinds : Table 2 (Token × Nat)
  flags : UnitFlags
  deriving DecidableEq, Repr

/-! ## Stages 1 and 2: clamping and calibration -/

/-- A stored value whose reading was invalid: it stands, with its flag clear (R111). -/
def Sensor.lost (x : Sensor) : Sensor := { x with valid := false }

/-- Calibration of CO2 and lux: floor((raw × gain + 512) / 1024) + offset, clamped (R112). -/
def calibrate (top raw gain : Nat) (offset : Int) : Int :=
  clampInt 0 top (((min raw top * gain + 512) / 1024 : Nat) + offset)

/-- The sensor values, motion count and flags of a report taken into a record (R111, R112); the report age returns
to 0 (R110). -/
def Estimator.sense (x : Estimator) (rep : Report) : Estimator :=
  { x with
    co2 := if rep.co2 = 65535 ∨ rep.flags.co2Fault then x.co2.lost
           else ⟨calibrate 5000 rep.co2 x.cal.co2Gain x.cal.co2Offset, true⟩
    lux := if rep.lux = 65535 ∨ rep.flags.luxFault then x.lux.lost
           else ⟨calibrate 20000 rep.lux x.cal.luxGain x.cal.luxOffset, true⟩
    temp := if rep.temp = -32768 then x.temp.lost
            else ⟨clampInt (-200) 600 (clampInt (-200) 600 rep.temp + x.cal.tempOffset), true⟩
    theta := if rep.theta = 255 then x.theta.lost else ⟨min rep.theta 100, true⟩
    motion := min rep.motion 15
    flags := rep.flags
    age := some 0 }

/-! ## Stage 3: door counts -/

/-- The entries and exits a report brings (R114). -/
def Estimator.doorCounts (x : Estimator) (counting : Bool) (rep : Report) : Nat × Nat :=
  if !counting || rep.flags.doorFault || rep.flags.restarted then (0, 0)
  else match x.entriesBase, x.exitsBase with
    | some a, some b => ((rep.entries + 256 - a) % 256, (rep.exits + 256 - b) % 256)
    | _, _ => (0, 0)

/-- The baselines after a report (R114). -/
def Estimator.rebase (x : Estimator) (counting : Bool) (rep : Report) : Estimator :=
  if !counting || rep.flags.doorFault then { x with entriesBase := none, exitsBase := none }
  else { x with entriesBase := some rep.entries, exitsBase := some rep.exits }

/-- Both baselines unset. -/
def Estimator.unbase (x : Estimator) : Estimator := { x with entriesBase := none, exitsBase := none }

/-- The tally moved by entries less exits, applied together and clamped (R115). -/
def moveTally (limit tally entries exits : Nat) : Nat := min limit (tally + entries - exits)

/-! ## Stage 4: presence -/

/-- The times that presence is judged by: confirm time and quiet time in seconds, still-occupancy time in minutes. -/
structure PresenceTimes where
  confirm : Nat
  quiet : Nat
  still : Nat
  deriving DecidableEq, Repr

/-- The estimate with a presence state and none of the timers of the others. -/
def Estimate.become (e : Estimate) (p : Presence) : Estimate :=
  { e with presence := p, sensedSince := none, lastEvidence := none, quiet := none }

/-- Stages 3 and 4 of a report on an estimate: the tally moves, and presence is evaluated at instant `t` (R115, R116,
R118, R119). -/
def Estimate.observe (e : Estimate) (limit : Nat) (times : PresenceTimes) (motion entries exits t : Nat) : Estimate :=
  let tally := moveTally limit e.tally entries exits
  let evidence := 0 < motion || 0 < entries || 0 < tally
  let moving := 0 < motion || 0 < entries
  let x := { e with tally := tally }
  match e.presence with
  | .empty =>
    if !evidence then x
    else if 3 ≤ tally then x.become .present
    else { x.become .sensed with sensedSince := some t, lastEvidence := some t }
  | .sensed =>
    if !evidence then x
    else if 3 ≤ tally || times.confirm ≤ t - e.sensedSince.getD t then x.become .present
    else { x with lastEvidence := some t }
  | .present =>
    if moving then x
    else { x.become .quiet with quiet := some (if tally = 0 then times.quiet else times.still * 60) }
  | .quiet =>
    if moving then x.become .present
    else if 0 < e.tally && tally = 0 then { x with quiet := e.quiet.map fun q => min q times.quiet }
    else x

/-- The times a room's estimate is judged by: its own, or the longest of its MERGED group's members, with the
still-occupancy time of the governing profile (R98, R116, R118). -/
def State.presenceTimes (s : State) (r : RoomId) : PresenceTimes :=
  { confirm := s.maxOver (s.trimRooms r) (·.cfg.confirmTime), quiet := s.maxOver (s.trimRooms r) (·.cfg.quietTime),
    still := (s.govProfile r).still }

/-- The tally limit of the estimate a room is read by (R98, R109). -/
def State.tallyLimit (s : State) (r : RoomId) : Nat :=
  match s.mergedOf r with
  | some (_, p) => s.groupLimit p
  | none => (s.room r).cfg.tallyLimit

/-- The estimate a room is read by, changed: its own, or its MERGED group's. -/
def State.modifyEstimate (s : State) (r : RoomId) (f : Estimate → Estimate) : State :=
  match s.mergedOf r with
  | some (g, _) => s.modifyGroup g fun p => { p with shared := f p.shared }
  | none => s.modifyOce r fun x => { x with est := f x.est }

/-- A change of presence handed to the service machine of the room, or of every member of its MERGED group (R98,
R121). -/
def State.tellPresence (s : State) (r : RoomId) (was : Presence) : State :=
  let now := s.presence r
  (s.trimRooms r).foldl (fun s m => s.presenceMoved m was now) s

/-- A good report taken in by the estimator for an enabled room that is not SAFE (R110, R120). -/
def State.intake (s : State) (r : RoomId) (rep : Report) : State :=
  let x := s.room r
  if !x.cfg.enabled || x.ctx.safe then s
  else
    let counts := x.oce.doorCounts x.cfg.doorCounting rep
    let was := s.presence r
    let t := s.modifyOce r fun o => (o.sense rep).rebase x.cfg.doorCounting rep
    let t := t.modifyEstimate r fun e =>
      e.observe (s.tallyLimit r) (s.presenceTimes r) (min rep.motion 15) counts.1 counts.2 s.oceNow
    t.tellPresence r was

/-! ## Expiries -/

/-- Whether the 120 s without evidence of a SENSED estimate are over (R117). -/
def Estimate.absenceDue (e : Estimate) (now : Nat) : Bool :=
  e.presence == .sensed && e.frozenAt.isNone && match e.lastEvidence with
    | some t => t + 120 ≤ now
    | none => false

/-- The end of the 120 s: EMPTY with a tally of 0, otherwise examined again 120 s later (R117). -/
def Estimate.absent (e : Estimate) (now : Nat) : Estimate :=
  if e.tally = 0 then e.become .empty else { e with lastEvidence := some now }

/-- SENSED_ABSENCE_EXPIRY, where it is due (R117). -/
def State.absenceExpiry (s : State) (r : RoomId) : State :=
  if (s.room r).cfg.enabled && (s.estimate r).absenceDue s.oceNow then
    (s.modifyEstimate r fun e => e.absent s.oceNow).tellPresence r .sensed
  else s

/-- Whether a quiet timer has reached 0 (R118). -/
def Estimate.quietDue (e : Estimate) : Bool := e.presence == .quiet && e.frozenAt.isNone && e.quiet == some 0

/-- QUIET_TIMER_EXPIRY, where it is due: EMPTY with tally 0 (R118). -/
def State.quietExpiry (s : State) (r : RoomId) : State :=
  if (s.room r).cfg.enabled && (s.estimate r).quietDue then
    (s.modifyEstimate r fun e => { e.become .empty with tally := 0 }).tellPresence r .quiet
  else s

/-- One second of an estimate: the quiet timer counts down while it is not frozen (R118, R120). -/
def Estimate.second (e : Estimate) : Estimate :=
  if e.frozenAt.isSome then e else { e with quiet := e.quiet.map fun q => q - 1 }

/-! ## The freeze -/

/-- An estimate frozen at an instant (R120). -/
def Estimate.freeze (e : Estimate) (now : Nat) : Estimate := { e with frozenAt := some now }

/-- An estimate resumed: its instants move later by the length of the freeze (R120). -/
def Estimate.resume (e : Estimate) (now : Nat) : Estimate :=
  match e.frozenAt with
  | some t0 =>
    { e with frozenAt := none, sensedSince := e.sensedSince.map fun t => t + (now - t0),
             lastEvidence := e.lastEvidence.map fun t => t + (now - t0) }
  | none => e

/-- Whether every member of a group is SAFE (R98). -/
def State.allSafe (s : State) (p : PartGroup) : Bool := p.members.all fun m => (s.room m).ctx.safe

/-- The estimator's part of a room's entering SAFE (R98, R120). The room's SAFE overlay is set already. -/
def State.freezeRoom (s : State) (r : RoomId) : State :=
  let s := s.modifyOce r fun o => { o.unbase with est := o.est.freeze s.oceNow }
  match s.mergedOf r with
  | some (g, p) => if s.allSafe p then s.modifyGroup g fun p => { p with shared := p.shared.freeze s.oceNow } else s
  | none => s

/-- The estimator's part of a room's leaving SAFE (R98, R120). -/
def State.thawRoom (s : State) (r : RoomId) : State :=
  let s := s.modifyOce r fun o => { o with est := o.est.resume s.oceNow }
  match s.mergedOf r with
  | some (g, _) => s.modifyGroup g fun p => { p with shared := p.shared.resume s.oceNow }
  | none => s

end Sys2Proof.Machine
end

