-- ==== Sys2Proof/Machine/Groups.lean ====
section
/-! DEFINITION. Divisible rooms: contacts and their settling, the group state, merge and split (R95 to R108). -/
namespace Sys2Proof.Machine

/-! ## Contacts -/

/-- A contact that has reported nothing (R95). -/
def Contact.fresh : Contact := { reading := .unknown, settled := false, timer := none }

/-- A report's contact value taken: a new value clears the settled flag and starts 10 s of settling (R95). -/
def Contact.read (c : Contact) (v : Reading) : Contact :=
  if c.reading = v then c else { reading := v, settled := false, timer := some 10 }

/-- The settle timer has reached 0 (R95). -/
def Contact.settleDue (c : Contact) : Bool := c.timer == some 0

/-- A settled contact (R95). -/
def Contact.settle (c : Contact) : Contact := { c with settled := true, timer := none }

/-- One second of settling (R95). -/
def Contact.second (c : Contact) : Contact := { c with timer := c.timer.map fun t => t - 1 }

/-- Settled in a reading (R95). -/
def Contact.settledAs (c : Contact) (v : Reading) : Bool := c.settled && c.reading == v

/-- One member's contact changed. -/
def PartGroup.modifyContact (p : PartGroup) (r : RoomId) (f : Contact → Contact) : PartGroup :=
  { p with others := p.others.map fun o => if o.1 = r then (o.1, f o.2) else o }

/-- The contact of a non-leader member. -/
def PartGroup.contactOf (p : PartGroup) (r : RoomId) : Option Contact :=
  (p.others.find? fun o => o.1 == r).map (·.2)

/-! ## Merging and splitting -/

/-- The order of presence states at a merge (R97). -/
def Presence.rank : Presence → Nat
  | .present => 3
  | .quiet => 2
  | .sensed => 1
  | .empty => 0

/-- The higher of two presence states (R97). -/
def Presence.higher (a b : Presence) : Presence := if a.rank < b.rank then b else a

/-- The smaller of two instants, where both are there. -/
def minInstant (a b : Option Nat) : Option Nat :=
  match a, b with
  | some x, some y => some (min x y)
  | some x, none => some x
  | none, y => y

/-- The larger of two instants, where both are there. -/
def maxInstant (a b : Option Nat) : Option Nat :=
  match a, b with
  | some x, some y => some (max x y)
  | some x, none => some x
  | none, y => y

/-- The members' estimates combined (R97). The instants of a frozen member are taken as they stand, and a group whose
members are all SAFE is frozen from the present second (assumption 14). -/
def State.combined (s : State) (p : PartGroup) : Estimate :=
  let es := p.members.map fun m => (s.room m).oce.est
  let presence := es.foldl (fun a e => a.higher e.presence) .empty
  let at_ := es.filter fun e => e.presence == presence
  { tally := min (s.groupLimit p) (es.map (·.tally)).sum
    presence := presence
    sensedSince := if presence = .sensed then at_.foldl (fun a e => minInstant a e.sensedSince) none else none
    lastEvidence := if presence = .sensed then at_.foldl (fun a e => maxInstant a e.lastEvidence) none else none
    quiet := if presence = .quiet then at_.foldl (fun a e => maxInstant a e.quiet) none else none
    frozenAt := if s.allSafe p then some s.oceNow else none }

/-- A group becomes MERGED (R97): each member takes the group presence as a presence change from its own, the combined
estimate is the group's, and every trim becomes the governing member's (R101). -/
def State.merge (s : State) (g : GroupId) (p : PartGroup) : State :=
  let was := p.members.map fun m => (m, (s.room m).oce.est.presence)
  let shared := s.combined p
  let t := was.foldl (fun t w => t.presenceMoved w.1 w.2 shared.presence) s
  let t := p.members.foldl (fun t m =>
    t.modifyOce m fun o => { o with est := { Estimate.reset with frozenAt := o.est.frozenAt } }) t
  let trim := (t.room (t.governor p)).ctx.trim
  let t := p.members.foldl (fun t m => t.modifyCtx m fun c => { c with trim := trim }) t
  t.modifyGroup g fun p => { p with state := .merged, shared := shared }

/-- A member's share of a split estimate (R103). -/
def State.splitEstimate (s : State) (p : PartGroup) (m : RoomId) : Estimate :=
  let x := s.room m
  { p.shared with
    tally := if x.cfg.doorCounting then min x.cfg.tallyLimit (s.areaShare p p.shared.tally m) else 0
    frozenAt := if x.ctx.safe then some (p.shared.frozenAt.getD s.oceNow) else none }

/-- What a member other than the former governing member keeps of its extension at a split, and what a member whose own
governing entry differs keeps of trim and overrides (R103). -/
def Context.afterSplit (c : Context) (m governor : RoomId) (gov : Option Handle) : Context :=
  let c := if m = governor then c
    else { c with extResult := .none, extPending := false, requests := c.requests.filter RoomReq.isNote }
  if c.gov = gov then c else { c with trim := 0, overrides := .fill 2 .none, extResult := .none }

/-- A group leaves MERGED for SPLIT or PARTIAL (R103). -/
def State.split (s : State) (g : GroupId) (p : PartGroup) (dest : GroupState) : State :=
  let governor := s.governor p
  let gov := (s.room governor).ctx.gov
  let t := p.members.foldl (fun t m =>
    (t.modifyOce m fun o => { o with est := s.splitEstimate p m }).modifyCtx m
      fun c => c.afterSplit m governor gov) s
  t.modifyGroup g fun p => { p with state := dest, shared := .reset }

/-- The state a group's contacts and members call for (R96). A member that has re-entered the open range counts as in it
while its indication is held (R106, assumption 48). -/
def State.groupStateOf (s : State) (p : PartGroup) : GroupState :=
  if p.others.all (fun o => o.2.settledAs .opened) && p.members.all s.inOpenRange then .merged
  else if p.others.all (fun o => o.2.settledAs .closed) then .split
  else .partly

/-- A group's state is evaluated (R96). -/
def State.evaluateGroup (s : State) (g : GroupId) : State :=
  match s.groups.get g with
  | none => s
  | some p =>
    let dest := s.groupStateOf p
    if dest = p.state then s
    else if dest = .merged then s.merge g p
    else if p.state = .merged then s.split g p dest
    else s.modifyGroup g fun p => { p with state := dest }

/-- A report's partition contact (R95): only a non-leader member's is used. -/
def State.contactReported (s : State) (r : RoomId) (isOpen : Bool) : State :=
  match s.groupOf r with
  | some (g, p) =>
    match p.contactOf r with
    | some c =>
      let c' := c.read (if isOpen then .opened else .closed)
      if c' = c then s else (s.modifyGroup g fun p => p.modifyContact r fun _ => c').evaluateGroup g
    | none => s
  | none => s

/-- SETTLE_TIMER_EXPIRY of a member's contact, where it is due (R95, R96). -/
def State.settleExpiry (s : State) (r : RoomId) : State :=
  match s.groupOf r with
  | some (g, p) =>
    match p.contactOf r with
    | some c =>
      if c.settleDue then (s.modifyGroup g fun p => p.modifyContact r Contact.settle).evaluateGroup g else s
    | none => s
  | none => s

/-- A group is split before its record changes, where it is MERGED (R16). -/
def State.splitIfMerged (s : State) (g : GroupId) : State :=
  match s.groups.get g with
  | some p => if p.state = .merged then s.split g p .partly else s
  | none => s

end Sys2Proof.Machine
end

