-- ==== Sys2Proof/Machine/Work.lean ====
section
/-! DEFINITION. The Calendar and Agenda Unit's own work: what each piece does, and how pieces are held behind a store
operation and applied after it (R52). -/
namespace Sys2Proof.Machine

/-- The partition group of a room is evaluated, where it is in one (R96, R106). -/
def State.evaluateRoom (s : State) (r : RoomId) : State :=
  match s.groupOf r with
  | some (g, _) => s.evaluateGroup g
  | none => s

/-! ## The unit's own work -/

/-- A minute event's evaluation may be held behind an operation; every piece of work is applied by this (R52). -/
def State.applyWork (s : State) : CalWork → State
  | .confirm r h => s.applyConfirm r h
  | .endNow r h host =>
    match s.applyEndNow r h with
    | (t, ended) =>
      if host then
        if ended then t.completeCommand .ok (.ended h s.cal.minute) else t.completeCommand .notFound .none
      else t
  | .minute m => s.evalAgendas m
  | .expiry h => s.expire h
  | .safeChanged => s.refreshPauses
  | .closed r => s.applyClosed r
  | .reopened r => (s.applyReopened r).evaluateRoom r
  | .rangeDone => s.completeCommand .ok .none

/-- A piece of the unit's own work that arrives now: applied at once between operations, held while one runs (R52). -/
def State.offerWork (s : State) (w : CalWork) : State :=
  if s.store.running.isSome then s.postWorkOnce w else s.applyWork w

/-- All the held work is applied in the order it arrived, when an operation has completed (R52). -/
def State.applyHeld (s : State) : State :=
  s.cal.work.foldl (fun s w => s.applyWork w) { s with cal := { s.cal with work := [] } }

/-- A request sent to the calendar is taken: the first piece of work that passes the test is applied, unless an
operation runs and holds it (R52, R57, R58). -/
def State.takeWork (s : State) (p : CalWork → Bool) : State :=
  if s.store.running.isSome then s
  else match s.cal.work.find? p with
    | some w => { s with cal := { s.cal with work := s.cal.work.erase w } }.applyWork w
    | none => s

end Sys2Proof.Machine
end

