-- ==== Sys2Proof/Machine/Rooms.lean ====
section
/-! DEFINITION. What accepted configuration writes do to running rooms, the entering and leaving of SAFE, the open
range, and host absence (R3 to R9, R14 to R17, R85 to R90, R198, R199). -/
namespace Sys2Proof.Machine

/-! ## SAFE -/

/-- A room enters SAFE: its estimate freezes, its no-show timers pause, and its blinds wait for the unit's token (R55,
R85, R120, R169). -/
def State.enterSafe (s : State) (r : RoomId) : State :=
  let t := s.modifyCtx r fun c => { c with safe := true }
  let t := (t.freezeRoom r).modifyRoom r fun x => { x with blinds := x.blinds.mapIdx fun _ b => b.lost }
  t.offerWork .safeChanged

/-- A room leaves SAFE: its estimate and its no-show timers resume (R55, R85, R120). -/
def State.leaveSafe (s : State) (r : RoomId) : State :=
  if (s.room r).ctx.safe then
    ((s.modifyCtx r fun c => { c with safe := false }).thawRoom r).offerWork .safeChanged
  else s

/-! ## Room records -/

/-- The structural checks of a WRITE_ROOM after clamping, in order, up to the store's (R3): the record to store, or the
status that refuses it. -/
def State.roomChecks (s : State) (r : RoomId) (w : RoomWrite) : Except Status RoomRec :=
  match roomRecOf (clampRoom w) with
  | none => .error .range
  | some c =>
    if ¬ (c.vminUn ≤ c.vminOcc ∧ c.vminOcc ≤ c.vmax) then .error .range
    else if c.enabled && allRooms.any fun q =>
        q != r && (s.room q).cfg.enabled && (s.room q).cfg.station == c.station then .error .duplicateAddress
    else if !c.enabled && (s.groupOf r).isSome then .error .range
    else .ok c

/-- Whether a WRITE_ROOM with this record disables a room that is enabled (R2). -/
def State.disables (s : State) (r : RoomId) (c : RoomRec) : Bool := (s.room r).cfg.enabled && !c.enabled

/-- The exchange in progress with a room's station loses its station record (R174). -/
def State.orphanExchange (s : State) (r : RoomId) : State :=
  { s with loop := { s.loop with exchange := s.loop.exchange.map fun x =>
      if x.room = r then { x with orphan := true } else x } }

/-- A blind group of a room that is enabled: UNKNOWN, with no target until the first choice (R4, R160). It
keeps its unit token, also where the room's station address is a new one (R169, assumption 38). -/
def Blind.enabled (b : Blind) : Blind := { b.forget b.unitToken with target := none }

/-- A room from disabled to enabled (R4). A station address written with it or while the room was disabled is a new
station, and its blinds are those of `Blind.enabled` (R169, assumption 38). -/
def State.enableRoom (s : State) (r : RoomId) (c : RoomRec) : State :=
  s.modifyRoom r fun x =>
    { x with
      cfg := c
      ctx := { x.ctx with service := .setback, safe := false, hold := none, gov := none, overrunStart := none, trim := 0,
                          overrides := .fill 2 .none, requests := [], extPending := false, extResult := .none }
      oce := .fresh x.oce.cal
      blinds := x.blinds.mapIdx fun _ b => b.enabled
      station := some (.joining c.station)
      air := { x.air with grant := 0 } }

/-- A room from enabled to disabled (R5). The last motion count and the last status flags go with the sensor values
(R109, assumption 68). -/
def State.disableRoom (s : State) (r : RoomId) (c : RoomRec) : State :=
  (s.modifyRoom r fun x =>
    { x with
      cfg := c
      ctx := { x.ctx with service := .unconfigured, safe := false, hold := none, gov := none, overrunStart := none,
                          trim := 0, overrides := .fill 2 .none, requests := [], extPending := false,
                          extResult := .none }
      agenda := []
      oce := .fresh x.oce.cal
      blinds := x.blinds.mapIdx fun _ b => b.forget b.unitToken
      station := none }).orphanExchange r

/-- The room unit is replaced: a changed station address of a room that stays enabled (R6, R95). -/
def State.readdress (s : State) (r : RoomId) (address : Nat) : State :=
  let t := s.leaveSafe r
  let t := (t.modifyRoom r fun x =>
    { x with oce := x.oce.unbase, blinds := x.blinds.mapIdx fun _ b => b.forget none,
             station := some (.joining address) }).orphanExchange r
  match t.groupOf r with
  | some (g, p) =>
    match p.contactOf r with
    | some k =>
      let t' := t.modifyGroup g fun p => p.modifyContact r fun _ => .fresh
      if k.reading = .unknown then t' else t'.evaluateGroup g
    | none => t
  | none => t

/-- The tally after new occupancy fields: brought within the new limits, and 0 where door counting is off (R7). For a
MERGED group whose members have all turned door counting off the group tally is 0 (assumption 21). -/
def State.refitTally (s : State) (r : RoomId) (turnedOff : Bool) : State :=
  let x := s.room r
  let t := if turnedOff then
      s.modifyOce r fun o => { o.unbase with est := { o.est with tally := 0 } }
    else s.modifyOce r fun o => { o with est := { o.est with tally := min x.cfg.tallyLimit o.est.tally } }
  match t.mergedOf r with
  | some (g, p) =>
    let counting := p.members.any fun m => (t.room m).cfg.doorCounting
    let limit := t.groupLimit p
    t.modifyGroup g fun p => { p with shared := { p.shared with
      tally := if turnedOff && !counting then 0 else min limit p.shared.tally } }
  | none => t

/-- A room moved between air groups: grant 0 in the group it joins, and CAPACITY_WRITE fires in both (R8, R133,
R137). -/
def State.moveAirGroup (s : State) (r : RoomId) (old new : Option AirId) : State :=
  if old = new then s
  else
    let t := s.modifyAir r fun a => { a with grant := 0 }
    let fire (t : State) (g : Option AirId) : State :=
      match g with
      | some g => t.modifyAirGroup g fun a => a.fire .capacityWrite
      | none => t
    fire (fire t old) new

/-- A blind group added or dropped by a changed count (R9, R169). -/
def State.resizeBlinds (s : State) (r : RoomId) (old new : Nat) : State :=
  s.modifyRoom r fun x => { x with blinds := x.blinds.mapIdx fun b y =>
    if (b.val < old) = (b.val < new) then y else y.forget y.unitToken }

/-- A write to a room that stays enabled (R6 to R9). The record is stored first, a changed address takes effect next, and
the tally is refitted last: a MERGED group that the address splits is divided unclamped, by the new fields
(assumption 49). -/
def State.rewriteRoom (s : State) (r : RoomId) (c : RoomRec) : State :=
  let old := (s.room r).cfg
  let t := s.modifyRoom r fun x => { x with cfg := c }
  let t := if old.station = c.station then t else t.readdress r c.station
  let t := t.refitTally r (old.doorCounting && !c.doorCounting)
  (t.moveAirGroup r old.airGroup c.airGroup).resizeBlinds r old.blindCount c.blindCount

/-- An accepted room record takes effect (R3 to R9). -/
def State.applyRoom (s : State) (r : RoomId) (c : RoomRec) : State :=
  match (s.room r).cfg.enabled, c.enabled with
  | false, true => s.enableRoom r c
  | true, false => s.disableRoom r c
  | true, true => s.rewriteRoom r c
  | false, false => s.modifyRoom r fun x => { x with cfg := c }

/-- A room's partition membership as a room record shows it: group, and whether it leads (R3). -/
def State.membership (s : State) (r : RoomId) : Option (GroupId × Bool) :=
  (s.groupOf r).map fun p => (p.1, p.2.leader == r)

/-- The answer that carries a room record (R1, R3). -/
def State.roomResult (s : State) (r : RoomId) : Result := .room r (s.room r).cfg (s.membership r)

/-- WRITE_ROOM where it is no store operation (R1 to R9). -/
def State.writeRoom (s : State) (r : RoomId) (w : RoomWrite) : Answered :=
  match s.roomChecks r w with
  | .error e => s.refuse e
  | .ok c =>
    let t := s.applyRoom r c
    (t, okStatus (clampRoom w ≠ w), t.roomResult r)

/-- WRITE_ROOM that disables a room, as a store operation (R2, R3, R5). -/
def State.writeRoomStored (s : State) (room : Nat) (w : RoomWrite) : Answered :=
  match asRoom room with
  | none => s.refuse .range
  | some r =>
    match s.roomChecks r w with
    | .error e => s.refuse e
    | .ok c => if s.disables r c && s.roomBooked r then s.refuse .roomBooked else s.writeRoom r w

/-! ## Wing parameters -/

/-- The gap after clamping and rounding (R14). -/
def fitGap (gap : Nat) : Nat := roundUp5 (min 30 gap)

/-- The three wing parameters take effect (R14). A silence time of 0 stops the silence timer at 0 (R198). -/
def State.applyWing (s : State) (gap : Nat) (band : Band) (silence : Nat) : State :=
  { s with cal := { s.cal with gap := gap }, setback := band
           port := { s.port with silenceTime := silence
                                 silenceTimer := if silence = 0 then 0 else s.port.silenceTimer } }

/-- WRITE_WING; `check` is the gap check that a raised gap takes within its store operation (R14, R40). -/
def State.writeWing (s : State) (gap : Nat) (band : Band) (silence : Nat) (check : State → Nat → Option Result) :
    Answered :=
  let b := clampBand band
  if !bandOrdered b then s.refuse .range
  else match check s (fitGap gap) with
    | some x => (s, .conflict, x)
    | none =>
      let clamped := fitGap gap != gap || b != band || min 60 silence != silence
      (s.applyWing (fitGap gap) b (min 60 silence), okStatus clamped, .wing (fitGap gap) b (min 60 silence))

/-! ## Partition groups -/

/-- The rooms whose partition relation a write changes (R15, check 5). -/
def relationChanged (old new : List RoomId) : List RoomId :=
  (new.filter fun r => !old.contains r) ++ (old.filter fun r => !new.contains r)

/-- The members of a group, none where it is not defined. -/
def State.membersOf (s : State) (g : GroupId) : List RoomId := s.claims (.group g)

/-- The checks of a WRITE_PARTITION: the members in ascending order, or the status that refuses it (R15). -/
def State.partitionChecks (s : State) (g : GroupId) (rooms : List Nat) : Except Status (List RoomId) :=
  match Sys2Proof.Machine.membersOf rooms with
  | none => .error .range
  | some rs =>
    if ¬ (2 ≤ rs.length ∧ rs.length ≤ 3) ∨ noRepeat rs = false then .error .range
    else if !rs.all fun r => (s.room r).cfg.enabled then .error .notEnabled
    else if rs.any fun r => (s.groupOf r).any fun q => q.1 != g then .error .range
    else if s.groupBooked g then .error .groupBooked
    else if (relationChanged (s.membersOf g) rs).any s.roomBooked then .error .roomBooked
    else .ok (sortRooms rs)

/-- A new partition group: SPLIT, with unknown contacts (R16). -/
def newGroup : List RoomId → Option PartGroup
  | [] => none
  | leader :: rest =>
    some { leader := leader, others := rest.map fun r => (r, .fresh), state := .split, shared := .reset }

/-- WRITE_PARTITION (R15, R16). -/
def State.writePartition (s : State) (group : Nat) (rooms : List Nat) : Answered :=
  match asIndex 8 group with
  | none => s.refuse .range
  | some g =>
    match s.partitionChecks g rooms with
    | .error e => s.refuse e
    | .ok rs =>
      let t := s.splitIfMerged g
      let t := { t with groups := t.groups.set g (newGroup rs) }
      (t, .ok, .partition g (t.groups.get g))

/-- DELETE_PARTITION (R15, R16). -/
def State.deletePartition (s : State) (group : Nat) : Answered :=
  match asIndex 8 group with
  | none => s.refuse .range
  | some g =>
    match s.groups.get g with
    | none => s.refuse .notFound
    | some p =>
      if s.groupBooked g then s.refuse .groupBooked
      else if p.members.any s.roomBooked then s.refuse .roomBooked
      else
        let t := s.splitIfMerged g
        ({ t with groups := t.groups.set g none }, .ok, .partition g none)

/-! ## The open range -/

/-- A room that has left the open range: a MERGED group of its own is split first, then it takes SETBACK with no
governing entry, its trim and overrides are cleared, and the calendar is told (R87, R106). -/
def State.closeRoom (s : State) (r : RoomId) : State :=
  (((s.evaluateRoom r).setService r .setback none).modifyCtx r Context.clearOutputs).offerWork (.closed r)

/-- SET_OPEN_RANGE takes effect: rooms that left or re-entered the range are handled in ascending order, and then its
response is due (R86). The new range is read from here on, also by work applied, and by a group whose contact settles,
before a CLOSED or re-entry indication that is held (assumption 48). Where two members of a group re-enter at once, the group is evaluated as the first is handled, before the
second derives its state (assumption 60). -/
def State.applyOpenRange (s : State) (first last : RoomId) : State :=
  let t := { s with openFirst := first, openLast := last }
  let moved := allRooms.filter fun r => (s.room r).cfg.enabled && (s.inOpenRange r != t.inOpenRange r)
  (moved.foldl (fun u r => if u.inOpenRange r then u.offerWork (.reopened r) else u.closeRoom r) t).offerWork .rangeDone

/-! ## Holds -/

/-- The hold record of a HOLD_ROOM after its checks (R89). -/
def holdOf (f : HoldFields) : Option Hold :=
  let c := clampHold f
  match asIndex 16 f.scene with
  | none => none
  | some sc =>
    if bandOrdered c.band then
      some { scene := sc, blinds := c.blinds, flow := c.flow, band := c.band, expiry := c.expiry,
             remaining := c.expiry * 60 }
    else none

/-- HOLD_ROOM (R89). -/
def State.holdRoom (s : State) (r : RoomId) (f : HoldFields) : Answered :=
  if !(s.room r).cfg.enabled then s.refuse .notEnabled
  else match holdOf f with
    | none => s.refuse .range
    | some h => (s.modifyCtx r fun c => { c with hold := some h }, okStatus (clampHold f ≠ f), .hold r h)

/-- A room's hold ends (R90). -/
def State.endHold (s : State) (r : RoomId) : State := s.modifyCtx r fun c => { c with hold := none }

/-- RELEASE_HOLD (R90). -/
def State.releaseHold (s : State) (r : RoomId) : Answered :=
  if !(s.room r).cfg.enabled then s.refuse .notEnabled else (s.endHold r, .ok, .none)

/-- Whether a hold's time is over (R90). -/
def Hold.over (h : Hold) : Bool := 0 < h.expiry && h.remaining == 0

/-- Whether a room's hold is due to expire. -/
def State.holdDue (s : State) (r : RoomId) : Bool := (s.room r).ctx.hold.any Hold.over

/-! ## Host absence -/

/-- Whether the silence timer has run out (R198). -/
def Port.silenceDue (p : Port) : Bool := p.present && 0 < p.silenceTime && p.silenceTime * 60 ≤ p.silenceTimer

/-- The rooms whose hold an absence ends: those with expiry 0 (R90, R199). -/
def State.holdsEndedByAbsence (s : State) (r : RoomId) : Bool := (s.room r).ctx.hold.any fun h => h.expiry == 0

/-- Readmit is set on a station that is OFF (R182). -/
def Station.setReadmit (x : Station) : Station := if x.state = .off then { x with readmit := true } else x

/-- The absence of the host and its effects in the four blocks concerned (R199). -/
def State.hostAbsent (s : State) : State :=
  { s.mapRooms (fun r x =>
      { x with ctx := if s.holdsEndedByAbsence r then { x.ctx with hold := none } else x.ctx
               station := x.station.map Station.setReadmit }) with
    port := { s.port with present := false }.raise .hostAbsent
    airs := s.airs.mapIdx fun _ a => a.fallBack
    economy := .off
    facades := s.facades.mapIdx fun _ f => { f with sun := .none } }

/-- HOST_SILENCE_EXPIRY, where it is due (R198, R199). -/
def State.silenceExpiry (s : State) : State :=
  if s.port.silenceDue then s.hostAbsent.finishWith s s.holdsEndedByAbsence else s

end Sys2Proof.Machine
end

