-- ==== Sys2Proof/Machine/Arbiter.lean ====
section
/-! DEFINITION. The completion of a store operation: its effect, its response, the calendar's held work, and the end of
a rebuild (R42, R43, R47, R52, R62, R65). -/
namespace Sys2Proof.Machine

/-- The gap check of a WRITE_WING in its store operation: made only where the gap is raised (R14, R40). -/
def State.raisedGapCheck (now : Instant) (s : State) (gap : Nat) : Option Result :=
  if s.cal.gap < gap then s.gapCheck now gap else none

/-- The effect of a host command at the arbiter, with its response (R2, R42). The commands listed are those that go to
the store; no other is ever handed to it. -/
def State.hostEffect (s : State) (now : Instant) : HostOp → Answered
  | .extend r h step => s.extendForHost now r h step
  | .command cmd =>
    match cmd with
    | .createBooking f => s.createBooking now f
    | .amendBooking h f => s.amendBooking now h f
    | .cancelBooking h => s.cancelBooking h
    | .suspendBooking h => s.suspendBooking h
    | .resumeBooking h => s.resumeBooking now h
    | .readBooking h => (s, s.readBooking h)
    | .listRoomBookings r c => (s, s.listRoomBookings r c)
    | .readAgenda r k => (s, s.readAgenda r k)
    | .findFreeRoom w d a b n g => (s, s.findFreeRoom now w d a b n g)
    | .setClock w d m => s.setClock ⟨w, d⟩ m
    | .addClosure w d => s.addClosure now ⟨w, d⟩
    | .removeClosure w d => s.removeClosure now ⟨w, d⟩
    | .writeRoom r w => s.writeRoomStored r w
    | .writeWing g b t => s.writeWing g b t (State.raisedGapCheck now)
    | .writePartition g rs => s.writePartition g rs
    | .deletePartition g => s.deletePartition g
    | _ => (s, .ok, .none)

/-- A room request served (R35 to R38, R80). -/
def State.serveRoom (s : State) (now : Instant) (r : RoomId) : RoomReq → State
  | .note kind h => s.serveNote kind h
  | .extend h step =>
    match s.extend now r h step with
    | (t, x) => t.extensionAnswered r h x

/-- Whether a calendar step is a build. -/
def CalStep.isBuild : CalStep → Bool
  | .build _ => true
  | _ => false

/-- The end of a run of builds: when none is left the rollover flag clears, and a rollover raises DAY_ROLLOVER (R62,
R65). -/
def State.endRebuild (s : State) : State :=
  if s.store.steps.any CalStep.isBuild then s
  else
    let t := { s with cal := { s.cal with rolloverFlag := false }, store := { s.store with rebuild := .none } }
    if s.store.rebuild = .rollover then t.raise .dayRollover else t

/-- The effect of a calendar step (R41, R47, R61). The term-end step empties every agenda, and every room derives its
state afresh (R69, R75). -/
def State.stepEffect (s : State) (now : Instant) : CalStep → State
  | .retire => (s.retire now.date).1
  | .build r => (s.build now r).endRebuild
  | .termEnd => allRooms.foldl State.derive (s.mapAgendas fun _ _ => [])

/-- The effect of an operation, with the response where it has one (R42). -/
def State.opEffect (s : State) (run : Running) : State :=
  match run.op with
  | .host op =>
    match s.hostEffect run.at_ op with
    | (t, e, x) => t.completeCommand e x
  | .room r q => s.serveRoom run.at_ r q
  | .step st => s.stepEffect run.at_ st

/-- The arbiter is idle again (R43). -/
def State.releaseStore (s : State) : State := { s with store := { s.store with running := none } }

/-- The running operation completes: everything it changes is changed together, the calendar's held work follows, and
the next operation is taken (R42, R43, R52). -/
def State.completeOp (s : State) : State :=
  match s.store.running with
  | none => s
  | some run => ((s.opEffect run).releaseStore.applyHeld).finish s

/-- The same, where the running operation passes a test. -/
def State.completeIf (s : State) (p : StoreOp → Bool) : State :=
  if s.store.running.any fun run => p run.op then s.completeOp else s

/-- The 49 calendar steps of a rebuild: a retirement pass, then the builds in ascending room order (R62, R65). -/
def rebuildSteps : List CalStep := .retire :: allRooms.map .build

end Sys2Proof.Machine
end

