-- ==== Sys2Proof/Config.lean ====
section
/-! DEFINITION. What the part fixes and the manual does not state. Each value here is opaque: nothing in Lean can
evaluate it, so no claim can rest on a number the model chose. -/
namespace Sys2Proof.Config

open Sys2Proof.Machine

/-- The bytes of a part of a result whose layout the manual does not give: chapter 11 lays out only the handle, the
attention mask, the booking record, the agenda entry, the room status image and what fills a field that does not apply
(R202, R204, R207). The arguments are the command's code byte, the result and the part's place in it (assumption 4). -/
opaque openResultBytes : Byte → Result → Nat → List Byte

/-- What data out carries where no rule says: in the bytes of a select period after the code and parameter bytes of
anything but an immediate command (R188, R189). The argument is the byte's place after them (assumption 54). -/
opaque openDataOut : Nat → Byte

/-- What a SETPOINT frame holds in the direction and run bytes of a blind group whose token byte is 0xFF: a room unit
disregards them and the manual does not state them (R203). The arguments are the round count, the room, the blind group
and which of the three bytes (assumption 26). -/
opaque idleMoveByte : Nat → Nat → Nat → Nat → Byte

end Sys2Proof.Config
end

