-- ==== Sys2Proof/Machine/Formats.lean ====
section
/-! DEFINITION. Bytes: codes, the response header and the immediate responses (R204, R206), the record images (R207),
the loop frames and their CRC (R171, R203, R208). -/
namespace Sys2Proof.Machine

/-! ## Fields -/

/-- A one-byte field. -/
def byte (n : Nat) : Byte := BitVec.ofNat 8 n

/-- A two-byte field, least significant byte first (chapter 11). -/
def bytes2 (n : Nat) : List Byte := [byte n, byte (n / 256)]

/-- A signed two-byte field in two's complement (chapter 11). -/
def signed2 (i : Int) : List Byte := bytes2 (BitVec.ofInt 16 i).toNat

/-- A one-byte field that shows 0xFF where it does not apply (R202). -/
def byteOr (x : Option Nat) : Byte :=
  match x with
  | some n => byte n
  | none => 0xFF

/-- A two-byte field that shows 0xFFFF where it does not apply (R202). -/
def bytes2Or (x : Option Nat) : List Byte := bytes2 (x.getD 0xFFFF)

/-- A flag as a bit of a byte. -/
def bit (k : Nat) (b : Bool) : Nat := if b then 2 ^ k else 0

/-- A handle's sixteen bits (R202). -/
def handleBits (h : Handle) : Nat := h.slot + 4096 * h.gen

/-! ## Codes -/

/-- The value of a status (R206). -/
def Status.code : Status → Byte
  | .ok => 0x00
  | .okClamped => 0x01
  | .okOversize => 0x02
  | .range => 0x10
  | .conflict => 0x11
  | .dayFull => 0x12
  | .full => 0x13
  | .stale => 0x14
  | .notFound => 0x15
  | .live => 0x16
  | .groupBooked => 0x17
  | .roomBooked => 0x18
  | .duplicateAddress => 0x19
  | .notEnabled => 0x1A
  | .past => 0x1B
  | .closedDay => 0x1C
  | .malformed => 0x20
  | .unknownCommand => 0x21

/-- The room-state code of a service state (R207). -/
def Service.code : Service → Nat
  | .unconfigured => 0
  | .setback => 1
  | .precondition => 2
  | .awaiting => 3
  | .inUse => 4
  | .vacated => 5
  | .overrun => 6
  | .adHoc => 7

/-- The room-state code of an effective state (R207). -/
def Effective.code : Effective → Nat
  | .service s => s.code
  | .safe => 8
  | .hold => 9
  | .closed => 10

/-- The code of an entry state (R207). -/
def EntryState.code : EntryState → Nat
  | .waiting => 0
  | .preconditioning => 1
  | .started => 2
  | .confirmed => 3
  | .ended => 4
  | .released => 5
  | .skipped => 6

/-- The code of a presence state (R207). -/
def Presence.code : Presence → Nat
  | .empty => 0
  | .sensed => 1
  | .present => 2
  | .quiet => 3

/-- The code of a group state (R207). -/
def GroupState.code : GroupState → Nat
  | .split => 0
  | .partly => 1
  | .merged => 2

/-- The code of a station state (R207). -/
def StationState.code : StationState → Nat
  | .active => 0
  | .warning => 1
  | .degraded => 2
  | .off => 3

/-- The code of an override (R207). -/
def Override.code : Override → Nat
  | .none => 0
  | .up => 1
  | .down => 2

/-- The code of an extend result (R207, R208). -/
def ExtendResult.code : ExtendResult → Nat
  | .none => 0
  | .granted => 1
  | .refused => 2

/-- The code of a blind direction (R208). -/
def Dir.code : Dir → Nat
  | .up => 0
  | .down => 1
  | .stop => 2

/-! ## Record images -/

/-- The first byte of a booking image (R207). -/
def Target.code : Target → Nat
  | .room r => r.val
  | .group g => 128 + g.val

/-- The suspend reason of a record, if it has one (R207). -/
def RecordState.reasonCode : RecordState → Option Nat
  | .active => none
  | .suspended .host => some 0
  | .suspended .reclaimed => some 1

/-- The booking record image, 21 bytes (R207). A SINGLE record has neither last week nor skip list (R18), so those
fields do not apply and show 0xFF (R202, assumption 45). -/
def recordImage (b : Record) : List Byte :=
  let weekly (n : Nat) := if b.pattern = .weekly then some n else none
  [byte b.target.code, byte (if b.pattern = .weekly then 1 else 0), byte b.weekday, byte b.firstWeek,
   byteOr (weekly b.lastWeek), byteOr (weekly b.skips.length)]
    ++ (List.range 4).map (fun i => byteOr b.skips[i]?)
    ++ bytes2 b.start ++ bytes2 b.stop ++ [byte b.cls.val] ++ bytes2 b.attendance
    ++ [byte (if b.state = .active then 0 else 1), byteOr b.state.reasonCode, byte b.noShows, byte b.releases]

/-- An agenda entry image, 14 bytes (R207). -/
def entryImage (e : Entry) : List Byte :=
  bytes2 (handleBits e.handle)
    ++ [byte (bit 0 e.group + bit 1 (e.timer.any (·.paused)) + bit 2 e.timer.isSome)]
    ++ bytes2 e.start ++ bytes2 e.curEnd ++ [byte e.ext, byte e.cls.val] ++ bytes2 e.attendance ++ [byte e.state.code]
    ++ bytes2Or (e.timer.map (·.left))

/-- A band's two setpoints, filled where there is none (R202, R207). -/
def bandBytes (b : Option Band) : List Byte :=
  match b with
  | some b => signed2 b.heat ++ signed2 b.cool
  | none => bytes2Or none ++ bytes2Or none

/-- The hold part of a room status image (R207); a hold with expiry 0 has no remaining time (R90). -/
def holdImage (h : Option Hold) : List Byte :=
  [byteOr (h.map fun h => h.scene.val), byteOr (h.map fun h => h.blinds.get 0), byteOr (h.map fun h => h.blinds.get 1)]
    ++ bytes2Or (h.map (·.flow)) ++ bandBytes (h.map (·.band))
    ++ bytes2Or (h.bind fun h => if h.expiry = 0 then none else some (ceilDiv h.remaining 60))

/-- The room status image, 41 bytes (R207). -/
def StatusImage.bytes (i : StatusImage) : List Byte :=
  [byte i.room.val,
   byte (bit 0 i.enabled + bit 1 i.safe + bit 2 i.hold + bit 3 i.closed + bit 4 i.noteLost + bit 5 i.extPending),
   byte i.effective.code, byte i.service.code, byteOr (i.groupService.map Service.code),
   byteOr (i.group.map fun g => g.val), byteOr (i.groupState.map GroupState.code)]
    ++ bytes2Or (i.gov.map handleBits) ++ [byteOr (i.govState.map EntryState.code)] ++ bytes2Or i.overrunStart
    ++ [byte i.presence.code] ++ bytes2 i.tally ++ bytes2 i.d ++ bytes2 i.f ++ bytes2 i.grant
    ++ [byteOr (i.station.map StationState.code)] ++ signed2 i.trim
    ++ [byte ((i.overrides.get 0).code + 4 * (i.overrides.get 1).code), byte i.extResult.code, byte i.notes]
    ++ holdImage i.holdRecord ++ [byte i.indicator] ++ bytes2 i.nextStart

/-- A room's status image as it stands (R93). For a MERGED member the governing entry, the extend result and the pending
flag are the member's own (assumption 55). -/
def State.statusImage (s : State) (r : RoomId) : StatusImage :=
  let x := s.room r
  { room := r, enabled := x.cfg.enabled, safe := x.ctx.safe, hold := x.ctx.hold.isSome, closed := s.closed r,
    noteLost := x.ctx.noteLost, extPending := x.ctx.extPending, effective := s.effective r, service := x.ctx.service,
    groupService := (s.mergedOf r).map fun _ => s.base r, group := (s.groupOf r).map (·.1),
    groupState := (s.groupOf r).map fun p => p.2.state, gov := x.ctx.gov, govState := (s.ownEntry r).map (·.state),
    overrunStart := x.ctx.overrunStart, presence := s.presence r, tally := (s.estimate r).tally, d := x.air.d,
    f := x.air.f, grant := x.air.grant, station := x.station.map (·.state), trim := x.ctx.trim,
    overrides := x.ctx.overrides, extResult := x.ctx.extResult, notes := x.ctx.noteCount, holdRecord := x.ctx.hold,
    indicator := s.indicator r, nextStart := s.nextStart r }

/-! ## Responses -/

/-- A handle's two bytes in a result (R202). -/
def handleBytes (h : Handle) : List Byte := bytes2 (handleBits h)

/-- An attention mask's two bytes, one bit for each cause (R204). -/
def maskBytes (m : BitVec 11) : List Byte := bytes2 m.toNat

/-- A piece of a result: bytes that the manual states, or a part whose encoding or layout it does not give. -/
inductive Piece where
  | stated (bytes : List Byte)
  | unstated
  deriving DecidableEq, Repr

/-- A field whose encoding the manual does not give, or its fill of 0xFF where it does not apply (R202). -/
def Piece.fieldOr {α : Type} (x : Option α) : Piece :=
  match x with
  | some _ => .unstated
  | none => .stated [0xFF]

/-- One blind group of READ_ROOM_LIGHTING (R170, R202); UNKNOWN is filled as none is (assumption 4). -/
def BlindImage.pieces (b : BlindImage) : List Piece :=
  [.stated [byteOr b.target, byteOr b.position], .unstated,
   .stated ([byteOr b.modelled, byteOr (b.command.map fun c => c.1.val), byteOr (b.command.map fun c => c.2.1.code)]
     ++ bytes2Or (b.command.map fun c => c.2.2.1)),
   .fieldOr b.command, .unstated, .stated [byteOr b.pending, byteOr (b.unitToken.map fun t => t.val)], .unstated]

/-- A partition group: three places for members, the leader, a contact for each of two other members, and the group
state. Places that stay empty, and all of a group that is not defined, are filled (R16, R202, R207). -/
def partitionPieces (p : Option PartGroup) : List Piece :=
  let members := (p.map PartGroup.members).getD []
  let others := (p.map (·.others)).getD []
  [.unstated, .stated ((List.range 3).map fun i => byteOr (members[i]?.map fun m => m.val)),
   .stated [byteOr (p.map fun p => p.leader.val)], .fieldOr others[0]?, .fieldOr others[1]?,
   .stated [byteOr (p.map fun p => p.state.code)]]

/-- The pieces of a result, in the order in which its owning rule names them (assumption 4). Stated are handles, masks
and record images, codes that chapter 11 gives, and the fill of every field that can fail to apply (R202, R204, R207). -/
def Result.pieces : Result → List Piece
  | .none => []
  | .attention enables lines => [.stated (maskBytes enables ++ maskBytes lines)]
  | .handle h => [.stated (handleBytes h)]
  | .handlePair a b => [.stated (handleBytes a ++ handleBytes b)]
  | .roomPair r a b => [.stated (byte r :: (handleBytes a ++ handleBytes b))]
  | .booking h b => [.stated (handleBytes h ++ recordImage b)]
  | .record b => [.stated (recordImage b)]
  | .agenda count entries => [.stated (byte count :: entries.flatMap entryImage)]
  | .status i => [.stated i.bytes]
  | .room _ c m => [.unstated, .stated [byteOr (c.airGroup.map fun g => g.val)], .unstated, .fieldOr m]
  | .partition _ p => partitionPieces p
  | .dayFull _ r => [.unstated, .stated [byte r]]
  | .bookingList hs _ => [.unstated, .stated (hs.flatMap handleBytes), .unstated]
  | .ended h _ => [.stated (handleBytes h), .unstated]
  | .extended h _ _ => [.stated (handleBytes h), .unstated]
  | .sensors i => [.unstated, .stated (byte i.presence.code :: bytes2Or i.quiet), .unstated, .stated (bytes2Or i.age)]
  | .roomAir i => [.stated [byteOr (i.group.map fun g => g.val)], .unstated,
                   .stated (byteOr i.demand.tier :: bandBytes i.band)]
  | .roomLighting _ l _ bs =>
    [.stated [byteOr (l.scene.map fun c => c.val)], .unstated] ++ bs.list.flatMap BlindImage.pieces
  | .readmitted r st => [.stated [byte r, byte st.code]]
  | .station r x _ => [.stated [byte r, byte x.state.code], .unstated,
                       .stated [byteOr (x.lastEvent.map fun t => t.val)], .unstated]
  | .resetCause _ _ _ | .profile _ _ | .wing _ _ _ | .airGroup _ _ _ _ _ | .calibration _ _ | .candidates _
  | .clock _ _ _ _ _ _ | .clockSet _ _ _ | .closureCount _ | .closures _ _ | .hold _ _ | .capacity _ _
  | .passStarted _ | .allocation _ | .window _ | .sceneWritten _ _ _ _ _ | .sceneLevels _ _ _ _ | .economy _ _
  | .facade _ _ | .wingLighting _ _ _ _ | .loopLog _ _ _ => [.unstated]

/-- How many bytes of a run of pieces are stated. -/
def statedLength (ps : List Piece) : Nat :=
  (ps.map fun p => match p with
    | .stated bs => bs.length
    | .unstated => 0).sum

/-- A run of pieces joined, from place `k` on: stated bytes as they are, and free bytes for each other piece, at most
`space` of them in all. -/
def joinPieces (free : Nat → List Byte) (space k : Nat) : List Piece → List Byte
  | [] => []
  | .stated bs :: rest => bs ++ joinPieces free space (k + 1) rest
  | .unstated :: rest =>
    let bs := (free k).take space
    bs ++ joinPieces free (space - bs.length) (k + 1) rest

/-- The bytes of a command's result: what the manual states, and elsewhere bytes the manual leaves open, at most the
80 of the header's length field in all (R202, R204, assumption 4). -/
def Result.bytes (code : Byte) (r : Result) : List Byte :=
  joinPieces (Config.openResultBytes code r) (80 - statedLength r.pieces) 0 r.pieces

/-- The number of a slot state (R204). -/
def CommandSlot.number : CommandSlot → Nat
  | .empty => 0
  | .executing _ _ => 1
  | .done _ => 2

/-- The header of READ_RESPONSE (R192, R204). In EMPTY the LATE bit is clear (assumption 74). -/
def CommandSlot.header : CommandSlot → Header
  | .empty => { slotState := 0, status := 0, code := 0, late := false, length := 0 }
  | .executing cmd late => { slotState := 1, status := 0, code := cmd.code, late := late, length := 0 }
  | .done r => { slotState := 2, status := r.status.code, code := r.code, late := r.late,
                 length := (r.result.bytes r.code).length }

/-- The header's six bytes (R204). -/
def Header.bytes (h : Header) : List Byte :=
  [byte h.slotState, h.status, h.code, byte (bit 0 h.late)] ++ bytes2 h.length

/-- The result that a slot gives READ_RESPONSE (R192). -/
def CommandSlot.result : CommandSlot → Result
  | .done r => r.result
  | _ => .none

/-- The response of READ_RESPONSE (R192): the header's six bytes and the result's. -/
def CommandSlot.response (c : CommandSlot) : PortOut :=
  .response c.header c.result (c.header.bytes ++ c.result.bytes c.header.code)

/-- The response of POLL (R189, R204). -/
def Port.pollBytes (p : Port) : List Byte :=
  [byte p.slot.number] ++ maskBytes p.flags ++ [byte (bit 0 p.lineA + bit 1 p.lineB), byte (bit 0 (!p.present))]

/-- The response of READ_ATTENTION (R204). -/
def Port.attentionBytes (p : Port) : List Byte := maskBytes p.flags ++ maskBytes p.enables ++ maskBytes p.lines

/-- Eight flags as a byte, the first in bit 0. -/
def packByte (bs : List Bool) : Byte := byte ((bs.zipIdx.map fun p => bit p.2 p.1).sum)

/-- The response of READ_ROOM_CHANGES: six bytes, room 0 in bit 0 of the first (R204). -/
def Port.roomChangeBytes (p : Port) : List Byte :=
  (List.range 6).map fun i => packByte ((p.roomChanges.list.drop (8 * i)).take 8)

/-- The response of READ_BOOKING_CHANGES: up to 16 entries with the number left after them (R195, R204). -/
def Port.bookingChangeBytes (p : Port) : List Byte :=
  let out := p.bookingChanges.take 16
  [byte out.length] ++ bytes2 (p.bookingChanges.length - out.length)
    ++ out.flatMap fun c => handleBytes ⟨c.slot.val, c.gen⟩ ++ [byte (if c.reason = .retired then 0 else 1)]

/-! ## Loop frames -/

/-- One bit of the CRC register: shifted left, with the polynomial where a one falls out (R171). -/
def crcBit (c : Word16) : Word16 := if c.msb then (c <<< 1) ^^^ 0x1021#16 else c <<< 1

/-- One byte taken into the CRC register, most significant bit first (R171). -/
def crcByte (c : Word16) (b : Byte) : Word16 :=
  crcBit (crcBit (crcBit (crcBit (crcBit (crcBit (crcBit (crcBit (c ^^^ (b.setWidth 16 <<< 8)))))))))

/-- The CRC-16 of a run of bytes (R171, R208). -/
def crc (bs : List Byte) : Word16 := bs.foldl crcByte 0xFFFF#16

/-- A frame closed by its CRC, low byte first (R171, R208). -/
def frameOf (bs : List Byte) : List Byte := bs ++ bytes2 (crc bs).toNat

/-- The move a frame carries for a blind group: token 0xFF where there is none (R162, R203). What then stands in the
direction and run bytes is not stated: the three bytes are free values (assumption 26). -/
def moveBytes (free : Nat → Byte) (c : Option BlindCmd) : List Byte :=
  match c with
  | some c => [byte c.token.val, byte c.dir.code] ++ bytes2 c.run
  | none => [0xFF, free 0, free 1, free 2]

/-- The command carried for a blind group: none at or above the count (R162). -/
def Room.moveOf (x : Room) (b : BlindId) : Option BlindCmd :=
  if b.val < x.cfg.blindCount then (x.blinds.get b).cmd else none

/-- The payload of a SETPOINT frame, 30 bytes, from the state as it stands at assembly (R178, R208). -/
def State.setpointPayload (s : State) (r : RoomId) (ack : Option Token) : List Byte :=
  let x := s.room r
  let band := (s.band r).getD s.setback
  [byte (s.indicator r)] ++ bytes2 (s.nextStart r) ++ [byte (s.extendResult r).code, byteOr (ack.map fun t => t.val)]
    ++ signed2 band.heat ++ signed2 band.cool ++ bytes2 x.air.f ++ bytes2 x.air.grant
    ++ x.light.levels.list.flatMap bytes2 ++ [byte x.light.fade]
    ++ moveBytes (Config.idleMoveByte s.loop.roundCount r.val 0) (x.moveOf 0)
    ++ moveBytes (Config.idleMoveByte s.loop.roundCount r.val 1) (x.moveOf 1)

/-- A SETPOINT frame, 35 bytes (R171, R208). -/
def State.setpointFrame (s : State) (r : RoomId) (x : Station) : List Byte :=
  frameOf ([byte x.address, 0x21, 30] ++ s.setpointPayload r x.lastEvent)

/-- A PROBE frame, 5 bytes (R171, R208). -/
def probeFrame (address : Nat) : List Byte := frameOf [byte address, 0x22, 0]

/-- A byte of a received frame; 0 beyond its end, which no field of a checked REPORT reaches. -/
def at' (bs : List Byte) (k : Nat) : Byte := bs.getD k 0

/-- A two-byte field of a received frame. -/
def word' (bs : List Byte) (k : Nat) : Nat := word (at' bs k) (at' bs (k + 1))

/-- The two low bits of a byte (R203). -/
def tokenOf (b : Byte) : Token := ⟨b.toNat % 4, Nat.mod_lt _ (by decide)⟩

/-- A REPORT read by position (R203, R208). -/
def reportOf (bs : List Byte) : Report :=
  { entries := (at' bs 3).toNat, exits := (at' bs 4).toNat, motion := (at' bs 5).toNat, co2 := word' bs 6,
    temp := (BitVec.ofNat 16 (word' bs 8)).toInt, lux := word' bs 10, theta := (at' bs 12).toNat,
    contactOpen := (at' bs 13).getLsbD 0, eventCode := (at' bs 14).toNat, eventNumber := tokenOf (at' bs 15),
    blinds := .two (tokenOf (at' bs 16), word' bs 17) (tokenOf (at' bs 19), word' bs 20),
    flags := { restarted := (at' bs 22).getLsbD 0, co2Fault := (at' bs 22).getLsbD 1,
               luxFault := (at' bs 22).getLsbD 2, doorFault := (at' bs 22).getLsbD 3 } }

/-- The last-error codes of a failed exchange (R172). -/
inductive LoopError where
  | noReply | badCrc | framing | wrongAddress | wrongKind | length
  deriving DecidableEq, Repr

/-- The code of a failure (R172). -/
def LoopError.code : LoopError → Nat
  | .noReply => 1
  | .badCrc => 2
  | .framing => 3
  | .wrongAddress => 4
  | .wrongKind => 5
  | .length => 6

/-- Whether a frame holds at least 3 bytes and ends with the CRC of the bytes before its last two (R172, check 2). -/
def crcGood (bs : List Byte) : Bool :=
  3 ≤ bs.length && bs.drop (bs.length - 2) == bytes2 (crc (bs.take (bs.length - 2))).toNat

/-- A reply judged, the first check that fails giving the failure; a reply of 64 bytes fails with LENGTH whatever else
is wrong (R172). -/
def judge (address : Nat) (reply : Reply) : Except LoopError Report :=
  let bs := reply.bytes
  if 64 ≤ bs.length then .error .length
  else if !reply.stopBits then .error .framing
  else if !crcGood bs then .error .badCrc
  else if (at' bs 0).toNat ≠ address then .error .wrongAddress
  else if at' bs 1 ≠ 0x41#8 then .error .wrongKind
  else if at' bs 2 ≠ 20#8 ∨ bs.length ≠ 25 then .error .length
  else .ok (reportOf bs)

end Sys2Proof.Machine
end

