-- ==== Sys2Proof/Machine/LoopCtl.lean ====
section
/-! DEFINITION. The Room Loop Controller: rounds and visits, the outcome of an exchange, station health, probing and
readmission, and the delivery of a good report (R172 to R187). -/
namespace Sys2Proof.Machine

/-! ## Stations -/

/-- One station record changed. -/
def State.modifyStation (s : State) (r : RoomId) (f : Station → Station) : State :=
  s.modifyRoom r fun x => { x with station := x.station.map f }

/-- The station record of an address on the scan list, with its room (R175). -/
def State.stationAt (s : State) (address : Nat) : Option (RoomId × Station) :=
  allRooms.findSome? fun r =>
    match (s.room r).station with
    | some x => if x.address = address then some (r, x) else none
    | none => none

/-- The station state of a health count that is not OFF (R181). -/
def gradeOf (health : Nat) : StationState := if health < 96 then .active else if health < 128 then .warning else .degraded

/-- Whether a room is visited in every round (R177). -/
def State.fast (s : State) (r : RoomId) : Bool :=
  (s.mergedOf r).isSome || match s.effective r with
    | .service svc => svc.occupiedClass || svc == .precondition
    | _ => false

/-- Whether a station is due in the round in progress (R177). A readmit set during a round divisible by 16, before the
round reaches the address, is served in that round (R176, R183; assumption 64). -/
def State.due (s : State) (r : RoomId) (x : Station) : Bool :=
  match x.state with
  | .off => x.readmit && s.loop.roundCount % 16 == 0
  | .degraded => s.loop.roundCount % 8 == 0
  | _ => s.fast r || s.loop.roundCount % 4 == 0

/-- The lower address of two stations. -/
def lowerStation (a : Option (RoomId × Station)) (b : RoomId × Station) : Option (RoomId × Station) :=
  match a with
  | none => some b
  | some p => if b.2.address < p.2.address then some b else some p

/-- The next due station of the round: the lowest address above the last considered (R176). -/
def State.nextDue (s : State) : Option (RoomId × Station) :=
  (allRooms.filterMap fun r =>
    match (s.room r).station with
    | some x => if s.loop.lastAddress < x.address && s.due r x then some (r, x) else none
    | none => none).foldl lowerStation none

/-! ## Rounds -/

/-- 500 ms in wing-clock cycles (R176). -/
def roundCycles : Nat := 16384

/-- Whether a round may begin: none runs, and it is the first after a reset or 500 ms have passed since the last began
(R176). -/
def Loop.roundDue (l : Loop) : Bool := !l.active && (l.firstRound || roundCycles ≤ l.roundTimer)

/-- ROUND_START (R176). -/
def State.startRound (s : State) : State :=
  if s.loop.roundDue then
    { s with loop := { s.loop with active := true, firstRound := false, roundTimer := 0, lastAddress := 0 } }
  else s

/-- The exchange of a visit, with its frame assembled from the state as it stands (R178). -/
def State.exchangeFor (s : State) (r : RoomId) (x : Station) : Exchange :=
  if x.state = .off then
    { room := r, address := x.address, kind := .probe, frame := probeFrame x.address, orphan := false }
  else { room := r, address := x.address, kind := .setpoint, frame := s.setpointFrame r x, orphan := false }

/-- STATION_VISIT: the next due station of the round is sent its frame; where none is left the round ends and the round
count advances (R176, R178). -/
def State.visit (s : State) : State :=
  if s.loop.active && s.loop.exchange.isNone then
    match s.nextDue with
    | some (r, x) =>
      { s with loop := { s.loop with lastAddress := x.address, exchange := some (s.exchangeFor r x) } }
    | none => { s with loop := { s.loop with active := false, roundCount := (s.loop.roundCount + 1) % 65536 } }
  else s

/-! ## Failure -/

/-- A failure counts in the loop error log (R186). -/
def State.logFailure (s : State) : State :=
  if s.loop.logCount < 255 then { s with loop := { s.loop with logCount := s.loop.logCount + 1 } }
  else { s with loop := { s.loop with logOverflow := true } }.raise .loopLogOverflow

/-- The station takes a health count that does not make it OFF; an entry into WARNING raises its cause (R181). -/
def State.gradeStation (s : State) (r : RoomId) (was : StationState) (health : Nat) : State :=
  let t := s.modifyStation r fun x => { x with health := health, state := gradeOf health }
  if gradeOf health = .warning ∧ was ≠ .warning then t.raise .stationWarning else t

/-- The station becomes OFF and its room SAFE (R182). -/
def State.stationOff (s : State) (r : RoomId) : State :=
  ((s.modifyStation r fun x =>
    { x with state := .off, health := 255, goodProbes := 0, readmit := !s.port.present }).raise .stationOff).enterSafe r

/-- The failure of a SETPOINT exchange with a station that is not OFF (R181, R182). -/
def State.setpointFailed (s : State) (r : RoomId) (x : Station) : State :=
  if 256 ≤ x.health + 8 then s.stationOff r else s.gradeStation r x.state (x.health + 8)

/-- The outcome of a failed exchange at its station (R172, R181, R183). -/
def State.failedAt (s : State) (x : Exchange) (code : Nat) : State :=
  match (s.room x.room).station with
  | none => s
  | some st =>
    let t := s.modifyStation x.room fun y => { y with lastError := code }
    match x.kind with
    | .setpoint => t.setpointFailed x.room st
    | .probe => t.modifyStation x.room fun y => { y with goodProbes := 0 }

/-- An exchange fails: it counts in the log, and at its station unless the room has lost that record (R174). -/
def State.fail (s : State) (x : Exchange) (code : Nat) : State :=
  let t := { s with loop := { s.loop with exchange := none } }.logFailure
  if x.orphan then t else t.failedAt x code

/-! ## A good report -/

/-- The panel event of a good report, taken unless its number is the last one taken (R179). -/
def State.takeEvent (s : State) (r : RoomId) (rep : Report) : State :=
  match (s.room r).station with
  | none => s
  | some x =>
    if rep.eventCode = 0 ∨ x.lastEvent = some rep.eventNumber then s
    else
      let t := s.modifyStation r fun x => { x with lastEvent := some rep.eventNumber }
      match panelEventOf rep.eventCode with
      | some e => t.panelEvent r e
      | none => t

/-- The blind status of a good report for one group below the count: after a restart the model forgets and knows the
echoed token, otherwise the echo is taken (R163, R165, R169). -/
def reportBlind (c : RoomRec) (rep : Report) (b : BlindId) (x : Blind) : Blind :=
  if b.val < c.blindCount then
    if rep.flags.restarted then x.forget (some (rep.blinds.get b).1)
    else x.reported (c.travels.get b) (rep.blinds.get b).1 (rep.blinds.get b).2
  else x

/-- A good report from a SETPOINT exchange handed to the three units (R173): the estimator first, then the partition
contact (R103), the panel event and the blind status. The contact, with any split it makes, comes before the panel event
(assumption 67). -/
def State.deliverReport (s : State) (r : RoomId) (rep : Report) : State :=
  let t := if rep.flags.restarted then s.modifyStation r fun x => { x with lastEvent := none } else s
  let t := ((t.intake r rep).contactReported r rep.contactOpen).takeEvent r rep
  t.modifyRoom r fun x => { x with blinds := x.blinds.mapIdx fun b y => reportBlind x.cfg rep b y }

/-- The eighth consecutive good probe: the station returns, and its room leaves SAFE (R183). -/
def State.stationReturns (s : State) (r : RoomId) : State :=
  (s.modifyStation r fun x => { x with state := .active, health := 0, goodProbes := 0, readmit := false }).leaveSafe r

/-- A good exchange at its station (R173, R181, R183). -/
def State.goodAt (s : State) (x : Exchange) (rep : Report) : State :=
  match (s.room x.room).station with
  | none => s
  | some st =>
    let t := s.modifyStation x.room fun y => { y with lastError := 0 }
    match x.kind with
    | .setpoint => (t.gradeStation x.room st.state (st.health - 1)).deliverReport x.room rep
    | .probe =>
      if 8 ≤ st.goodProbes + 1 then t.stationReturns x.room
      else t.modifyStation x.room fun y => { y with goodProbes := st.goodProbes + 1 }

/-- An exchange succeeds: nothing is delivered where the room has lost the station record (R174). -/
def State.succeed (s : State) (x : Exchange) (rep : Report) : State :=
  let t := { s with loop := { s.loop with exchange := none } }
  if x.orphan then t else t.goodAt x rep

/-- NO_REPLY: the window of the exchange in progress closes with no byte (R172). -/
def State.noReply (s : State) : State :=
  match s.loop.exchange with
  | none => s
  | some x => (s.fail x LoopError.noReply.code).finish s

/-- REPORT_RECEIVED: the reply of the exchange in progress ends and is judged (R172). Bytes that arrive while the part is
not waiting for a reply have no effect (R171). -/
def State.replyReceived (s : State) (reply : Reply) : State :=
  match s.loop.exchange with
  | none => s
  | some x =>
    match judge x.address reply with
    | .error e => (s.fail x e.code).finish s
    | .ok rep => (s.succeed x rep).finish s

/-! ## Host commands -/

/-- READMIT_STATION (R184). -/
def State.readmitStation (s : State) (address : Nat) : Answered :=
  if address < 1 ∨ 62 < address then s.refuse .range
  else match s.stationAt address with
    | none => s.refuse .notFound
    | some (r, x) => (s.modifyStation r Station.setReadmit, .ok, .readmitted r x.state)

/-- READ_STATION: once the record is copied, its last-error code is NO_CHANGE (R185). -/
def State.readStation (s : State) (address : Nat) : Answered :=
  if address < 1 ∨ 62 < address then s.refuse .range
  else match s.stationAt address with
    | none => s.refuse .notFound
    | some (r, x) => (s.modifyStation r fun x => { x with lastError := 7 }, .ok, .station r x s.loop.roundCount)

/-- READ_LOOP_LOG: the count and the flag are returned and cleared (R186). -/
def State.readLoopLog (s : State) : Answered :=
  ({ s with loop := { s.loop with logCount := 0, logOverflow := false } }, .ok,
   .loopLog s.loop.logCount s.loop.logOverflow s.loop.roundCount)

end Sys2Proof.Machine
end

