-- ==== Sys2Proof/Machine/Time.lean ====
section
/-! DEFINITION. The wing-clock input: cycles, second events and the timers they move, the minute event, the rollover and
the term end, and the taking of the events that are due (R46, R47, R53, R62, R63). -/
namespace Sys2Proof.Machine

/-! ## Minute events -/

/-- Whether a SET_CLOCK within its ranges is the running operation: the clock then discards its old minute and second
events (R63). -/
def State.settingClock (s : State) : Bool :=
  s.store.running.any fun run =>
    match run.op with
    | .host (.command (.setClock w d m)) => w < 64 && d < 7 && m < 1440
    | _ => false

/-- Whether the clock's second has passed 59 and the minute event that makes is to be taken (R46). -/
def State.minuteReady (s : State) : Bool := s.cal.valid && s.cal.minuteDue && !s.settingClock

/-- Whether today is the last day of the term (R47). -/
def Calendar.lastDay (c : Calendar) : Bool := c.week == 63 && c.weekday == 6

/-- Whether the minute event that is due is an ordinary one, the rollover, or the term's end (R46, R47, R62). -/
def State.minuteEventDue (s : State) : Bool := s.minuteReady && s.cal.minute < 1439

/-- See `minuteEventDue`. -/
def State.rolloverDue (s : State) : Bool := s.minuteReady && 1439 ≤ s.cal.minute && !s.cal.lastDay

/-- See `minuteEventDue`. -/
def State.termEndDue (s : State) : Bool := s.minuteReady && 1439 ≤ s.cal.minute && s.cal.lastDay

/-- The overrun limit checks of a minute event (R74). -/
def State.overrunChecks (s : State) : State := allRooms.foldl State.overrunCheck s

/-- MINUTE_EVENT, where it is due: the minute advances, the agendas are evaluated at it, and overruns meet their limit
(R46, R53, R74). -/
def State.minuteEvent (s : State) : State :=
  if s.minuteEventDue then
    let m := s.cal.minute + 1
    let t := { s with cal := { s.cal with minute := m, second := 0, minuteDue := false } }
    ((t.offerWork (.minute m)).overrunChecks).finish s
  else s

/-- The date after a rollover (R46). -/
def Calendar.nextDay (c : Calendar) : Calendar :=
  if c.weekday < 6 then { c with weekday := c.weekday + 1 } else { c with week := c.week + 1, weekday := 0 }

/-- ROLLOVER_EVENT, where it is due: the old day ends at minute 1440, the date advances, and the rebuild is posted
(R62). -/
def State.rolloverEvent (s : State) : State :=
  if s.rolloverDue then
    let t := s.offerWork (.minute 1440)
    let t := { t with cal := { t.cal.nextDay with minute := 0, second := 0, minuteDue := false, rolloverFlag := true }
                      store := { t.store with steps := t.store.steps ++ rebuildSteps, rebuild := .rollover } }
    t.overrunChecks.finish s
  else s

/-- TERM_END, where it is due: the last day ends, the clock is INVALID at 0/0/0, and the term-end step is posted
(R47). -/
def State.termEnd (s : State) : State :=
  if s.termEndDue then
    let t := s.offerWork (.minute 1440)
    let t := { t with cal := { t.cal with valid := false, week := 0, weekday := 0, minute := 0, second := 0,
                                          minuteDue := false }
                      store := { t.store with steps := t.store.steps ++ [CalStep.termEnd] } }
    (t.raise .clockInvalid).overrunChecks.finish s
  else s

/-! ## Events of rooms, groups and blinds -/

/-- NO_SHOW_EXPIRY of the entry whose timer a room holds, where it is due (R54). -/
def State.noShowExpiry (s : State) (r : RoomId) : State :=
  match s.dueHandle r with
  | some h => if s.expiryDue h then (s.offerWork (.expiry h)).finish s else s
  | none => s

/-- Whether a piece of work is a confirm request of a room. -/
def CalWork.isConfirmOf (r : RoomId) : CalWork → Bool
  | .confirm q _ => q == r
  | _ => false

/-- Whether a piece of work is an end-now request that names a room. -/
def CalWork.isEndNowOf (r : RoomId) : CalWork → Bool
  | .endNow q _ _ => q == r
  | _ => false

/-- A request sent to the calendar is taken, where one stands and no operation holds it (R52, R57, R58). -/
def State.requestTaken (s : State) (p : CalWork → Bool) : State :=
  if s.store.running.isNone && s.cal.work.any p then (s.takeWork p).finish s else s

/-- SENSED_ABSENCE_EXPIRY, where it is due (R117). -/
def State.absenceEvent (s : State) (r : RoomId) : State :=
  if (s.room r).cfg.enabled && (s.estimate r).absenceDue s.oceNow then (s.absenceExpiry r).finish s else s

/-- QUIET_TIMER_EXPIRY, where it is due (R118). -/
def State.quietEvent (s : State) (r : RoomId) : State :=
  if (s.room r).cfg.enabled && (s.estimate r).quietDue then (s.quietExpiry r).finish s else s

/-- Whether the settle timer of a member's contact has run out (R95). -/
def State.settleDue (s : State) (r : RoomId) : Bool :=
  match s.groupOf r with
  | some (_, p) => (p.contactOf r).any Contact.settleDue
  | none => false

/-- SETTLE_TIMER_EXPIRY, where it is due (R95, R96). -/
def State.settleEvent (s : State) (r : RoomId) : State := if s.settleDue r then (s.settleExpiry r).finish s else s

/-- HOLD_EXPIRY, where it is due (R90). -/
def State.holdEvent (s : State) (r : RoomId) : State :=
  if s.holdDue r then (s.endHold r).finishWith s (· == r) else s

/-- Whether an air group's period timer is at its period (R136). -/
def AirGroup.periodDue (a : AirGroup) : Bool := 0 < a.period && a.timer == a.period

/-- PERIOD_TIMER_MATCH, where it is due (R136, R137). -/
def State.periodEvent (s : State) (g : AirId) : State :=
  if (s.airs.get g).periodDue then (s.modifyAirGroup g AirGroup.matchPeriod).startPasses else s

/-- ALLOCATION_PASS_COMPLETE, where a pass runs; one further pass follows where a trigger has fired since (R137,
R142). -/
def State.passEvent (s : State) (g : AirId) : State :=
  if (s.airs.get g).running.isSome then (s.completePass g).startPasses else s

/-- BLIND_TRAVEL_COMPLETE, where it is due (R165). -/
def State.travelEvent (s : State) (r : RoomId) (b : BlindId) : State :=
  if ((s.room r).blinds.get b).travelDue then
    (s.modifyBlind r b fun x => x.travelComplete ((s.room r).cfg.travels.get b)).finish s
  else s

/-- BLIND_PAUSE_END, where it is due (R167). -/
def State.pauseEvent (s : State) (r : RoomId) (b : BlindId) : State :=
  if ((s.room r).blinds.get b).pauseDue then
    (s.modifyBlind r b fun x => x.pauseEnd ((s.room r).cfg.travels.get b)).finish s
  else s

/-! ## The events that are due -/

/-- The events of one room that are due are taken. -/
def State.drainRoom (s : State) (r : RoomId) : State :=
  let s := ((((s.noShowExpiry r).absenceEvent r).quietEvent r).settleEvent r).holdEvent r
  (((s.travelEvent r 0).pauseEvent r 0).travelEvent r 1).pauseEvent r 1

/-- Every event that is due and has not been taken is taken before the next second is counted (assumption 10): a clock
event, the requests sent to the calendar, the events of the rooms, the host's silence and the air groups' periods. A
round start that is due, and the visits of a round, wait until the queue names them (R176, assumption 32). -/
def State.drain (s : State) : State :=
  let s := ((s.minuteEvent).rolloverEvent).termEnd
  let s := if s.store.running.isNone && !s.cal.work.isEmpty then s.applyHeld.finish s else s
  let s := allRooms.foldl State.drainRoom s
  (List.finRange 4).foldl State.periodEvent s.silenceExpiry

/-! ## Seconds and cycles -/

/-- One second of the clock: a second that passes 59 makes a minute event due (R46). -/
def State.countClock (s : State) : Calendar :=
  if !s.cal.valid || s.settingClock then s.cal
  else if s.cal.second < 59 then { s.cal with second := s.cal.second + 1 }
  else { s.cal with minuteDue := true }

/-- One second of a no-show timer, which counts unless it is paused (R54, R55). -/
def NoShow.second (t : NoShow) : NoShow := if t.paused then t else { t with left := t.left - 1 }

/-- One second of a hold's remaining time; a hold with expiry 0 has none (R90). -/
def Hold.second (h : Hold) : Hold := if h.expiry = 0 then h else { h with remaining := h.remaining - 1 }

/-- One second of a room: no-show timers, hold, quiet timer and report age (R54, R90, R109, R118). -/
def Room.second (x : Room) : Room :=
  { x with agenda := x.agenda.map fun e => { e with timer := e.timer.map NoShow.second }
           ctx := { x.ctx with hold := x.ctx.hold.map Hold.second }
           oce := { x.oce with est := x.oce.est.second, age := x.oce.age.map fun a => min 65535 (a + 1) } }

/-- One second of a partition group: the shared quiet timer and the settle timers (R95, R118). -/
def PartGroup.second (p : PartGroup) : PartGroup :=
  { p with shared := p.shared.second, others := p.others.map fun o => (o.1, o.2.second) }

/-- One second of the silence timer: it counts while the host is present and the silence time is not 0 (R198). -/
def Port.second (p : Port) : Port :=
  if p.present && 0 < p.silenceTime then { p with silenceTimer := min 3600 (p.silenceTimer + 1) } else p

/-- A second counted by every timer that counts seconds (R46). -/
def State.countSecond (s : State) : State :=
  { s.mapRooms fun _ x => x.second with
    cal := s.countClock
    oceNow := s.oceNow + 1
    groups := s.groups.mapIdx fun _ p => p.map PartGroup.second
    airs := s.airs.mapIdx fun _ a => a.second
    port := s.port.second }

/-- A second event of the wing-clock input (R46). -/
def State.second (s : State) : State := s.drain.countSecond

/-- Cycles of the wing-clock input counted by the divider, the round timer and the blinds' timers (R46, R162, R176). -/
def State.cycles (s : State) (n : Nat) : State :=
  { s.mapRooms fun _ x => { x with blinds := x.blinds.mapIdx fun _ b => b.cycles n } with
    divider := s.divider + n, loop := { s.loop with roundTimer := s.loop.roundTimer + n } }

/-- The second in progress is over (R46). -/
def State.wrapDivider (s : State) : State := { s with divider := 0 }

/-- Cycles in a second (R46). -/
def secondCycles : Nat := 32768

/-- One cycle of the wing-clock input, with the second event it may complete (R46). This is what the part does when no
step waits (assumption 9). -/
def State.tick (s : State) : State :=
  let t := s.cycles 1
  if secondCycles ≤ t.divider then t.wrapDivider.second else t

/-- SECOND_EVENT: the cycles left of the second in progress pass, and the second event takes place (R46). -/
def State.secondEvent (s : State) : State := (s.cycles (secondCycles - s.divider)).wrapDivider.second

end Sys2Proof.Machine
end

