-- ==== Sys2Proof/Machine/Reset.lean ====
section
/-! DEFINITION. Power-on and the warm reset: what each block keeps and what it takes afresh (R45, R46, R65, R66, R108,
R109, R125, R132, R148, R162, R175, R187, R200, R201). -/
namespace Sys2Proof.Machine

/-- A context after a warm reset: the hold is kept, and the service state is that of an empty agenda with presence EMPTY
until the room's build (R66, R69). -/
def Context.restart (c : Context) (enabled : Bool) : Context :=
  { Context.reset with service := if enabled then .setback else .unconfigured, hold := c.hold }

/-- A room after a warm reset (R66, R109, R125, R162, R175). -/
def Room.restart (x : Room) : Room :=
  { cfg := x.cfg, ctx := x.ctx.restart x.cfg.enabled, agenda := [], oce := .fresh x.oce.cal, air := .reset,
    light := .dark, blinds := .fill 2 .reset,
    station := if x.cfg.enabled then some (.joining x.cfg.station) else none }

/-- A partition group after a warm reset: SPLIT, with unknown contacts (R16, R108). -/
def PartGroup.restart (p : PartGroup) : PartGroup :=
  { p with state := .split, shared := .reset, others := p.others.map fun o => (o.1, .fresh) }

/-- An air group after a warm reset: its record and capacity are kept, and a pass is pending with trigger RESET
(R132). -/
def AirGroup.restart (a : AirGroup) : AirGroup :=
  { a with timer := 0, pending := true, triggers := TriggerSet.none.add .reset, passCount := 0, flags := .clear,
           unallocated := 0, last := .empty, running := none }

/-- The port after a warm reset: enables, line selects and silence time are kept (R201). -/
def Port.restart (p : Port) (cause : ResetCause) : Port :=
  { p with slot := .empty, flags := Cause.reset.mask, roomChanges := .fill 48 false, bookingChanges := [],
           present := true, silenceTimer := 0, cause := cause, clockKept := true, storeKept := true, out := .nothing }

/-- The calendar after a warm reset: clock and closures are kept, and with the clock VALID a rebuild is under way
(R46, R65). -/
def Calendar.restart (c : Calendar) : Calendar := { c with rolloverFlag := c.valid, work := [] }

/-- The store after a warm reset: every record and generation is kept, every request is dropped, and with the clock
VALID the calendar's 49 steps are posted (R45, R65). -/
def Store.restart (x : Store) (valid : Bool) : Store :=
  { slots := x.slots, running := none, hostWait := none, steps := if valid then rebuildSteps else [],
    rebuild := if valid then .warmReset else .none }

/-- The state every block takes at a warm reset, before anything follows from it. -/
def State.restarted (s : State) (cause : ResetCause) : State :=
  { s.mapRooms (fun _ x => x.restart) with
    port := s.port.restart cause
    store := s.store.restart s.cal.valid
    cal := s.cal.restart
    groups := s.groups.mapIdx fun _ p => p.map PartGroup.restart
    airs := s.airs.mapIdx fun _ a => a.restart
    window := s.window.rewind
    loop := .reset }

/-- A warm reset (R200): every block takes its state, demand, lighting and blind targets are formed again, every air
group takes its pass, and the arbiter takes the first step of the rebuild. -/
def State.warmReset (s : State) (cause : ResetCause) : State := (s.restarted cause).follow.startPasses.takeNext

/-- A power-on (R200, R201). The queue of waiting steps is the model's own and stays. -/
def State.powerOn (s : State) : State := { State.reset with pending := s.pending }

end Sys2Proof.Machine
end

