-- ==== Sys2Proof/Machine/PortCmds.lean ====
section
/-! DEFINITION. The meanings of the resets and of the Supervisor Port's own commands (R188 to R201). -/
namespace Sys2Proof.Machine

/-- The outcome of a step: this part never stops. -/
abbrev Out := Host.Outcome State Fault Refusal

/-- POWER_ON: every block takes its power-on state (R200, R201). -/
def execPowerOn (s : State) : Out := .next s.powerOn

/-- RESET_LINE: a warm reset caused by the reset line (R200, R201). -/
def execResetLine (s : State) : Out := .next (s.warmReset .resetLine)

/-- RESTART: framed as a command, with no response; a warm reset begins (R189, R200). -/
def execRestart (s : State) : Out := .next (s.warmReset .restart)

/-- MALFORMED: a select period cut short is not executed and not a complete command; its response goes through the slot
(R188, R190). -/
def execMalformed (code : Byte) (s : State) : Out :=
  .next (s.arrive fun t => t.respond (.malformed code) false .malformed .none)

/-- UNKNOWN_COMMAND: a complete command whose code names none; its response goes through the slot (R188, R190). -/
def execUnknownCommand (code : Byte) (s : State) : Out :=
  .next (s.queued (.unknownCommand code) fun t => (t, .unknownCommand, .none))

/-- An immediate command: its response is formed, its effect takes place, and the end of its select period is that of a
complete command (R188, R189). -/
def State.immediate (s : State) (out : PortOut) (effect : Port → Port) : State :=
  ({ s with port := { effect s.port with out := out } } : State).hostHeard

/-- POLL (R189). -/
def execPoll (s : State) : Out := .next (s.immediate (.bytes s.port.pollBytes) id)

/-- The slot after READ_RESPONSE: a DONE slot becomes EMPTY (R192). -/
def Port.takeResponse (p : Port) : Port :=
  match p.slot with
  | .done _ => { p with slot := .empty }
  | _ => p

/-- READ_RESPONSE (R192). -/
def execReadResponse (s : State) : Out := .next (s.immediate s.port.slot.response Port.takeResponse)

/-- READ_ATTENTION (R189). -/
def execReadAttention (s : State) : Out := .next (s.immediate (.bytes s.port.attentionBytes) id)

/-- ACK_ATTENTION (R189, R196). It has no response bytes. -/
def execAckAttention (mask : Word16) (s : State) : Out :=
  .next (s.immediate (.bytes []) fun p => p.acknowledge mask)

/-- READ_ROOM_CHANGES: the set is returned and emptied (R194). -/
def execReadRoomChanges (s : State) : Out :=
  .next (s.immediate (.bytes s.port.roomChangeBytes) fun p => { p with roomChanges := .fill 48 false })

/-- READ_BOOKING_CHANGES: up to 16 entries are returned and removed (R195). -/
def execReadBookingChanges (s : State) : Out :=
  .next (s.immediate (.bytes s.port.bookingChangeBytes) fun p =>
    { p with bookingChanges := p.bookingChanges.drop 16 })

/-! ## Data out -/

/-- The response that an immediate command forms (R189). -/
def State.immediateOut (s : State) : Instr → Option PortOut
  | .poll => some (.bytes s.port.pollBytes)
  | .readResponse => some s.port.slot.response
  | .readAttention => some (.bytes s.port.attentionBytes)
  | .ackAttention _ => some (.bytes [])
  | .readRoomChanges => some (.bytes s.port.roomChangeBytes)
  | .readBookingChanges => some (.bytes s.port.bookingChangeBytes)
  | _ => none

/-- The bytes of a response. -/
def PortOut.bytesOf : PortOut → List Byte
  | .nothing => []
  | .bytes bs => bs
  | .response _ _ bs => bs

/-- A response clocked out by `n` extra bytes, with zeros beyond its end (R189). -/
def PortOut.clocked (out : PortOut) (n : Nat) : List Byte := (out.bytesOf ++ List.replicate n 0).take n

/-- How many bytes of a select period are its code byte and its parameters. A malformed period's parameters are the
bytes shifted with SEL high before the one, if any, that cuts it (R188, assumption 54). -/
def headCount (period : List Shifted) : Nat :=
  match framePeriod period with
  | .noCommand => 0
  | .unknown _ => 1
  | .malformed _ => 1 + ((period.drop 1).takeWhile (·.sel)).length
  | .command code _ => 1 + (paramCount code).getD 0

/-- Data out in the bytes after the code and parameters: an immediate command's response, and otherwise, for the rest of
a malformed period too, what no rule states (R188, R189; assumption 54). -/
def State.extraOut (s : State) (period : List Shifted) (n : Nat) : List Byte :=
  match (decodePeriod period).bind s.immediateOut with
  | some out => out.clocked n
  | none => (List.range n).map Config.openDataOut

/-- Data out through a whole select period, a byte for each byte shifted, from the state as the command finds it: zeros
while the code and parameter bytes are shifted in (R188), and then the bytes after them (R189). -/
def State.dataOut (s : State) (period : List Shifted) : List Byte :=
  let n := min (headCount period) period.length
  List.replicate n 0 ++ s.extraOut period (period.length - n)

/-! ## Queued commands of the port -/

/-- SET_ATTENTION: all eleven enables and line selects are replaced (R197). -/
def execSetAttention (enables lines : Word16) (s : State) : Out :=
  .next (s.queued (.setAttention enables lines) fun t =>
    let e := enables.setWidth 11
    let l := lines.setWidth 11
    ({ t with port := { t.port with enables := e, lines := l } }, .ok, .attention e l))

/-- READ_RESET_CAUSE (R200). -/
def execReadResetCause (s : State) : Out :=
  .next (s.queuedRead .readResetCause fun t =>
    (.ok, .resetCause t.port.cause t.port.clockKept t.port.storeKept))

end Sys2Proof.Machine
end

