-- ==== Sys2Proof/Machine/AirCmds.lean ====
section
/-! DEFINITION. The meanings of the commands answered by the Air Share Unit (R134, R135, R146, R147). -/
namespace Sys2Proof.Machine

/-- SET_CAPACITY: the capacity takes effect, and CAPACITY_WRITE fires (R134, R137). -/
def State.setCapacity (s : State) (group capacity : Nat) : Answered :=
  match asIndex 4 group with
  | none => s.refuse .range
  | some g =>
    let c := min 20000 capacity
    ((s.modifyAirGroup g fun a => { a with capacity := c }.fire .capacityWrite).startPasses,
     okStatus (20000 < capacity), .capacity g c)

/-- SET_CAPACITY (R134). -/
def execSetCapacity (group capacity : Nat) (s : State) : Out :=
  .next (s.queued (.setCapacity group capacity) fun t => t.setCapacity group capacity)

/-- REQUEST_ALLOCATION: the indication tells whether HOST_REQUEST is enabled (R135). -/
def State.requestAllocation (s : State) (group : Nat) : Answered :=
  match asIndex 4 group with
  | none => s.refuse .range
  | some g =>
    ((s.modifyAirGroup g fun a => a.fire .hostRequest).startPasses, .ok,
     .passStarted (s.airs.get g).mask.hostRequest)

/-- REQUEST_ALLOCATION (R135). -/
def execRequestAllocation (group : Nat) (s : State) : Out :=
  .next (s.queued (.requestAllocation group) fun t => t.requestAllocation group)

/-- A group's allocation image from a first member index (R146). -/
def State.allocationImage (s : State) (g : AirId) (first : Nat) : AllocationImage :=
  let a := s.airs.get g
  { group := g, capacity := a.capacity, fallback := a.fallback, period := a.period, timer := a.timer, mask := a.mask,
    pending := a.pending, passCount := a.passCount, usedCapacity := a.last.capacity, triggers := a.last.triggers,
    sumF := a.last.sumF, flags := a.last.flags, unallocated := a.last.unallocated,
    memberCount := a.last.members.length, members := (a.last.members.drop first).take 8 }

/-- READ_ALLOCATION (R146). -/
def execReadAllocation (group first : Nat) (s : State) : Out :=
  .next (s.queuedRead (.readAllocation group first) fun t =>
    match asIndex 4 group with
    | none => (.range, .none)
    | some g => if 47 < first then (.range, .none) else (.ok, .allocation (t.allocationImage g first)))

/-- READ_ROOM_AIR (R147). -/
def execReadRoomAir (room : Nat) (s : State) : Out :=
  .next (s.queuedRead (.readRoomAir room) fun t =>
    match asRoom room with
    | none => (.range, .none)
    | some r =>
      (.ok, .roomAir { room := r, group := (t.room r).cfg.airGroup, demand := (t.room r).air, band := t.band r }))

end Sys2Proof.Machine
end

