-- ==== Sys2Proof/Machine/BookingCmds.lean ====
section
/-! DEFINITION. The meanings of the booking commands and reads. Each is a store operation: it waits at the arbiter, and
its checks, effect and response come when the operation completes (R25 to R34, R42). -/
namespace Sys2Proof.Machine

/-- CREATE_BOOKING (R25, R42). -/
def execCreateBooking (f : BookingFields) (s : State) : Out :=
  .next (s.queuedOperation (.createBooking f) (.command (.createBooking f)))

/-- AMEND_BOOKING (R26, R42). -/
def execAmendBooking (h : Handle) (f : BookingFields) (s : State) : Out :=
  .next (s.queuedOperation (.amendBooking h f) (.command (.amendBooking h f)))

/-- CANCEL_BOOKING (R28, R42). -/
def execCancelBooking (h : Handle) (s : State) : Out :=
  .next (s.queuedOperation (.cancelBooking h) (.command (.cancelBooking h)))

/-- SUSPEND_BOOKING (R29, R42). -/
def execSuspendBooking (h : Handle) (s : State) : Out :=
  .next (s.queuedOperation (.suspendBooking h) (.command (.suspendBooking h)))

/-- RESUME_BOOKING (R30, R42). -/
def execResumeBooking (h : Handle) (s : State) : Out :=
  .next (s.queuedOperation (.resumeBooking h) (.command (.resumeBooking h)))

/-- READ_BOOKING (R31, R42). -/
def execReadBooking (h : Handle) (s : State) : Out :=
  .next (s.queuedOperation (.readBooking h) (.command (.readBooking h)))

/-- LIST_ROOM_BOOKINGS (R31, R42). -/
def execListRoomBookings (room : Nat) (cursor : Option Nat) (s : State) : Out :=
  .next (s.queuedOperation (.listRoomBookings room cursor) (.command (.listRoomBookings room cursor)))

/-- READ_AGENDA (R32, R42). -/
def execReadAgenda (room first : Nat) (s : State) : Out :=
  .next (s.queuedOperation (.readAgenda room first) (.command (.readAgenda room first)))

/-- FIND_FREE_ROOM (R33, R42). -/
def execFindFreeRoom (week weekday start stop attendance : Nat) (groups : Bool) (s : State) : Out :=
  .next (s.queuedOperation (.findFreeRoom week weekday start stop attendance groups)
    (.command (.findFreeRoom week weekday start stop attendance groups)))

end Sys2Proof.Machine
end

