-- ==== Sys2Proof/Machine/ClockCmds.lean ====
section
/-! DEFINITION. The meanings of the wing clock and closure commands (R46 to R50, R63, R64). -/
namespace Sys2Proof.Machine

/-- SET_CLOCK: a store operation (R42, R63). -/
def execSetClock (week weekday minute : Nat) (s : State) : Out :=
  .next (s.queuedOperation (.setClock week weekday minute) (.command (.setClock week weekday minute)))

/-- READ_CLOCK: while the clock is INVALID the closure and rollover flags are clear (R46). -/
def execReadClock (s : State) : Out :=
  .next (s.queuedRead .readClock fun t =>
    (.ok, .clock t.cal.valid t.today t.cal.minute t.cal.second (t.cal.valid && t.cal.closures.contains t.today)
      (t.cal.valid && t.cal.rolloverFlag)))

/-- ADD_CLOSURE: a store operation (R42, R48). -/
def execAddClosure (week weekday : Nat) (s : State) : Out :=
  .next (s.queuedOperation (.addClosure week weekday) (.command (.addClosure week weekday)))

/-- REMOVE_CLOSURE: a store operation (R42, R48). -/
def execRemoveClosure (week weekday : Nat) (s : State) : Out :=
  .next (s.queuedOperation (.removeClosure week weekday) (.command (.removeClosure week weekday)))

/-- LIST_CLOSURES (R48). -/
def execListClosures (s : State) : Out :=
  .next (s.queuedRead .listClosures fun t => (.ok, .closures t.cal.closures.length t.cal.closures))

end Sys2Proof.Machine
end

