-- ==== Sys2Proof/Machine/ConfigCmds.lean ====
section
/-! DEFINITION. The meanings of the configuration reads and writes (R1 to R17, R113). -/
namespace Sys2Proof.Machine

/-- What WRITE_ROOM does when it arrives: refused, applied at once, or handed to the store where it disables a room that
is enabled (R1, R2, R3). -/
def State.writeRoomNow (s : State) (room : Nat) (w : RoomWrite) : Answered ⊕ HostOp :=
  match asRoom room with
  | none => .inl (s.refuse .range)
  | some r =>
    match s.roomChecks r w with
    | .error e => .inl (s.refuse e)
    | .ok c => if s.disables r c then .inr (.command (.writeRoom room w)) else .inl (s.writeRoom r w)

/-- WRITE_ROOM (R1 to R9). -/
def execWriteRoom (room : Nat) (w : RoomWrite) (s : State) : Out :=
  .next (s.queuedEither (.writeRoom room w) fun t => t.writeRoomNow room w)

/-- READ_ROOM (R1, R3). -/
def execReadRoom (room : Nat) (s : State) : Out :=
  .next (s.queuedRead (.readRoom room) fun t =>
    match asRoom room with
    | none => (.range, .none)
    | some r => (.ok, t.roomResult r))

/-- A profile as it is returned: blind positions in per cent (R11). -/
def Profile.shown (p : Profile) : Profile := { p with blindPos := p.blindPos / 10, glarePos := p.glarePos / 10 }

/-- WRITE_PROFILE before what follows it (R11, R13). -/
def State.writeProfile (s : State) (profile : Nat) (w : ProfileWrite) : Answered :=
  match asIndex 8 profile with
  | none => s.refuse .range
  | some k =>
    match profileOf (clampProfile w) with
    | none => s.refuse .range
    | some p =>
      ({ s with profiles := s.profiles.set k p }, okStatus (clampProfile w ≠ w), .profile k p.shown)

/-- WRITE_PROFILE (R11, R13). -/
def execWriteProfile (profile : Nat) (w : ProfileWrite) (s : State) : Out :=
  .next (s.queuedEffect (.writeProfile profile w) fun t => t.writeProfile profile w)

/-- READ_PROFILE (R1, R11). -/
def execReadProfile (profile : Nat) (s : State) : Out :=
  .next (s.queuedRead (.readProfile profile) fun t =>
    match asIndex 8 profile with
    | none => (.range, .none)
    | some k => (.ok, .profile k (t.profiles.get k).shown))

/-- What WRITE_WING does when it arrives: refused, applied at once, or handed to the store where it raises the gap (R2,
R14). -/
def State.writeWingNow (s : State) (gap : Nat) (band : Band) (silence : Nat) : Answered ⊕ HostOp :=
  if bandOrdered (clampBand band) && s.cal.gap < fitGap gap then .inr (.command (.writeWing gap band silence))
  else .inl (s.writeWing gap band silence fun _ _ => none)

/-- WRITE_WING (R14, R40). -/
def execWriteWing (gap : Nat) (band : Band) (silence : Nat) (s : State) : Out :=
  .next (s.queuedEither (.writeWing gap band silence) fun t => t.writeWingNow gap band silence)

/-- READ_WING (R14). -/
def execReadWing (s : State) : Out :=
  .next (s.queuedRead .readWing fun t => (.ok, .wing t.cal.gap t.setback t.port.silenceTime))

/-- WRITE_PARTITION: a store operation (R2, R15, R16). -/
def execWritePartition (group : Nat) (members : List Nat) (s : State) : Out :=
  .next (s.queuedOperation (.writePartition group members) (.command (.writePartition group members)))

/-- DELETE_PARTITION: a store operation (R2, R15, R16). -/
def execDeletePartition (group : Nat) (s : State) : Out :=
  .next (s.queuedOperation (.deletePartition group) (.command (.deletePartition group)))

/-- READ_PARTITION: a group that is not defined is returned as such, with status OK (R16). -/
def execReadPartition (group : Nat) (s : State) : Out :=
  .next (s.queuedRead (.readPartition group) fun t =>
    match asIndex 8 group with
    | none => (.range, .none)
    | some g => (.ok, .partition g (t.groups.get g)))

/-- The answer that carries an air group's record (R17). -/
def State.airGroupResult (s : State) (g : AirId) : Result :=
  .airGroup g (s.airs.get g).fallback (s.airs.get g).period (s.airs.get g).mask (s.airMembers g)

/-- WRITE_AIR_GROUP: the record is clamped and stored, and the period timer cleared (R17). Its result is what
READ_AIR_GROUP returns, the member list with it (assumption 57). -/
def State.writeAirGroup (s : State) (group fallback period : Nat) (mask : TriggerMask) : Answered :=
  match asIndex 4 group with
  | none => s.refuse .range
  | some g =>
    let t := s.modifyAirGroup g fun a =>
      { a with fallback := min 20000 fallback, period := min 600 period, mask := mask, timer := 0 }
    (t, okStatus (20000 < fallback || 600 < period), t.airGroupResult g)

/-- WRITE_AIR_GROUP (R17). -/
def execWriteAirGroup (group fallback period : Nat) (mask : TriggerMask) (s : State) : Out :=
  .next (s.queued (.writeAirGroup group fallback period mask) fun t => t.writeAirGroup group fallback period mask)

/-- READ_AIR_GROUP (R17). -/
def execReadAirGroup (group : Nat) (s : State) : Out :=
  .next (s.queuedRead (.readAirGroup group) fun t =>
    match asIndex 4 group with
    | none => (.range, .none)
    | some g => (.ok, t.airGroupResult g))

/-- WRITE_CALIBRATION: the calibration is clamped and stored; stored values are not recalculated (R113). The
calibration as stored is the result, with either status (assumption 66). -/
def State.writeCalibration (s : State) (room : Nat) (c : Calibration) : Answered :=
  match asRoom room with
  | none => s.refuse .range
  | some r =>
    (s.modifyOce r fun o => { o with cal := clampCalibration c }, okStatus (clampCalibration c ≠ c),
     .calibration r (clampCalibration c))

/-- WRITE_CALIBRATION (R113). -/
def execWriteCalibration (room : Nat) (c : Calibration) (s : State) : Out :=
  .next (s.queued (.writeCalibration room c) fun t => t.writeCalibration room c)

/-- READ_CALIBRATION (R113). -/
def execReadCalibration (room : Nat) (s : State) : Out :=
  .next (s.queuedRead (.readCalibration room) fun t =>
    match asRoom room with
    | none => (.range, .none)
    | some r => (.ok, .calibration r (t.room r).oce.cal))

end Sys2Proof.Machine
end

