-- ==== Sys2Proof/Machine/Events.lean ====
section
/-! DEFINITION. The meanings of the part's own events: store operations, clock events, requests to the calendar, and the
ends of timers and passes. An event that is not due changes nothing (assumption 11). -/
namespace Sys2Proof.Machine

/-! ## Store operations -/

/-- STORE_OPERATION_COMPLETE: whatever operation runs completes (R42, R43). -/
def execStoreOperationComplete (s : State) : Out := .next s.completeOp

/-- Whether an operation is a retirement pass. -/
def StoreOp.isRetire : StoreOp → Bool
  | .step .retire => true
  | _ => false

/-- Whether an operation is the build of a room. -/
def StoreOp.isBuild (r : RoomId) : StoreOp → Bool
  | .step (.build q) => q == r
  | _ => false

/-- Whether an operation is the term-end step. -/
def StoreOp.isTermEnd : StoreOp → Bool
  | .step .termEnd => true
  | _ => false

/-- Whether an operation is a note of a room. -/
def StoreOp.isNote (r : RoomId) : StoreOp → Bool
  | .room q (.note _ _) => q == r
  | _ => false

/-- Whether an operation is the extension request of a room. -/
def StoreOp.isExtend (r : RoomId) : StoreOp → Bool
  | .room q (.extend _ _) => q == r
  | _ => false

/-- RETIREMENT_PASS: the retirement pass that is running completes (R41). -/
def execRetirementPass (s : State) : Out := .next (s.completeIf StoreOp.isRetire)

/-- AGENDA_BUILD: the build of the room that is running completes (R61). -/
def execAgendaBuild (r : RoomId) (s : State) : Out := .next (s.completeIf (StoreOp.isBuild r))

/-- TERM_END_STEP: the term-end step that is running completes (R47). -/
def execTermEndStep (s : State) : Out := .next (s.completeIf StoreOp.isTermEnd)

/-- NOTE_SERVED: the note of the room that is running completes (R35). -/
def execNoteServed (r : RoomId) (s : State) : Out := .next (s.completeIf (StoreOp.isNote r))

/-- EXTENSION_REQUEST_SERVED: the extension request of the room that is running completes (R38). -/
def execExtensionRequestServed (r : RoomId) (s : State) : Out := .next (s.completeIf (StoreOp.isExtend r))

/-! ## The clock -/

/-- SECOND_EVENT (R46). -/
def execSecondEvent (s : State) : Out := .next s.secondEvent

/-- MINUTE_EVENT (R53). -/
def execMinuteEvent (s : State) : Out := .next s.minuteEvent

/-- ROLLOVER_EVENT (R62). -/
def execRolloverEvent (s : State) : Out := .next s.rolloverEvent

/-- TERM_END (R47). -/
def execTermEnd (s : State) : Out := .next s.termEnd

/-! ## Requests and timers -/

/-- NO_SHOW_EXPIRY (R54). -/
def execNoShowExpiry (r : RoomId) (s : State) : Out := .next (s.noShowExpiry r)

/-- CONFIRM_REQUEST: the confirm request the room has sent is taken by the calendar (R57). -/
def execConfirmRequest (r : RoomId) (s : State) : Out := .next (s.requestTaken (CalWork.isConfirmOf r))

/-- END_NOW_REQUEST: the oldest end-now request that names the room is taken by the calendar (R58). -/
def execEndNowRequest (r : RoomId) (s : State) : Out := .next (s.requestTaken (CalWork.isEndNowOf r))

/-- SENSED_ABSENCE_EXPIRY (R117). -/
def execSensedAbsenceExpiry (r : RoomId) (s : State) : Out := .next (s.absenceEvent r)

/-- QUIET_TIMER_EXPIRY (R118). -/
def execQuietTimerExpiry (r : RoomId) (s : State) : Out := .next (s.quietEvent r)

/-- SETTLE_TIMER_EXPIRY (R95). -/
def execSettleTimerExpiry (r : RoomId) (s : State) : Out := .next (s.settleEvent r)

/-- HOLD_EXPIRY (R90). -/
def execHoldExpiry (r : RoomId) (s : State) : Out := .next (s.holdEvent r)

/-- HOST_SILENCE_EXPIRY (R198, R199). -/
def execHostSilenceExpiry (s : State) : Out := .next s.silenceExpiry

/-- PERIOD_TIMER_MATCH (R136). -/
def execPeriodTimerMatch (g : AirId) (s : State) : Out := .next (s.periodEvent g)

/-- ALLOCATION_PASS_COMPLETE (R142). -/
def execAllocationPassComplete (g : AirId) (s : State) : Out := .next (s.passEvent g)

/-- BLIND_TRAVEL_COMPLETE (R165). -/
def execBlindTravelComplete (r : RoomId) (b : BlindId) (s : State) : Out := .next (s.travelEvent r b)

/-- BLIND_PAUSE_END (R167). -/
def execBlindPauseEnd (r : RoomId) (b : BlindId) (s : State) : Out := .next (s.pauseEvent r b)

end Sys2Proof.Machine
end

