-- ==== Sys2Proof/Machine/LightCmds.lean ====
section
/-! DEFINITION. The meanings of the commands answered by the Light and Shade Unit (R149 to R152, R157, R159, R170). -/
namespace Sys2Proof.Machine

/-- SCENE_WINDOW: an accepted window replaces the stored one whole (R149). -/
def State.sceneWindow (s : State) (f : WindowFields) : Answered :=
  match windowOf f with
  | none => s.refuse .range
  | some w => ({ s with window := w }, .ok, .window w)

/-- SCENE_WINDOW (R149). -/
def execSceneWindow (f : WindowFields) (s : State) : Out :=
  .next (s.queued (.sceneWindow f) fun t => t.sceneWindow f)

/-- Whether a run of levels has a count in range (R151, R152). -/
def countOk (count : Nat) : Bool := 1 ≤ count && count ≤ 16

/-- The levels of a scene write taken from the pointer as it stands (R151, R202). -/
def State.sceneWrite (s : State) (count : Nat) (levels : List Nat) : Answered :=
  match s.takeLevels (levels.take count) with
  | (t, n) =>
    (t, okStatus n.clamped, .sceneWritten n.stored n.dropped t.window.scene t.window.channel t.window.pastEnd)

/-- The pointer at the window's first cell (R151, R152). -/
def State.rewindWindow (s : State) : State := { s with window := s.window.rewind }

/-- SCENE_WRITE_START (R151). -/
def execSceneWriteStart (count : Nat) (levels : List Nat) (s : State) : Out :=
  .next (s.queuedEffect (.sceneWriteStart count levels) fun t =>
    if countOk count then t.rewindWindow.sceneWrite count levels else t.refuse .range)

/-- SCENE_WRITE_CONTINUE (R151). -/
def execSceneWriteContinue (count : Nat) (levels : List Nat) (s : State) : Out :=
  .next (s.queuedEffect (.sceneWriteContinue count levels) fun t =>
    if countOk count then t.sceneWrite count levels else t.refuse .range)

/-- A number of levels read from the pointer as it stands (R152). -/
def State.sceneRead (s : State) (count : Nat) : Answered :=
  match s.readLevels count s.window with
  | (w, levels) => ({ s with window := w }, .ok, .sceneLevels levels w.scene w.channel w.pastEnd)

/-- SCENE_READ_START (R152). -/
def execSceneReadStart (count : Nat) (s : State) : Out :=
  .next (s.queued (.sceneReadStart count) fun t =>
    if countOk count then t.rewindWindow.sceneRead count else t.refuse .range)

/-- SCENE_READ_CONTINUE (R152). -/
def execSceneReadContinue (count : Nat) (s : State) : Out :=
  .next (s.queued (.sceneReadContinue count) fun t => if countOk count then t.sceneRead count else t.refuse .range)

/-- SET_ECONOMY before what follows it (R157). Its result is the state and the cap as stored (10.4; assumption 66). -/
def State.setEconomy (s : State) (state : Option Switch) (cap : Nat) : Answered :=
  match state with
  | none => s.refuse .range
  | some e =>
    let c := clampNat 100 1000 cap
    ({ s with economy := e, cap := c }, okStatus (c ≠ cap), .economy e c)

/-- SET_ECONOMY (R157). -/
def execSetEconomy (state : Option Switch) (cap : Nat) (s : State) : Out :=
  .next (s.queuedEffect (.setEconomy state cap) fun t => t.setEconomy state cap)

/-- SET_FACADE before what follows it (R159). -/
def State.setFacade (s : State) (facade : Nat) (sun : Option Sun) (season : Option Season) (retract : Option Switch) :
    Answered :=
  match asIndex 6 facade, sun, season, retract with
  | some k, some a, some b, some c =>
    let f : Facade := { sun := a, season := b, retract := c }
    ({ s with facades := s.facades.set k f }, .ok, .facade k f)
  | _, _, _, _ => s.refuse .range

/-- SET_FACADE (R159). -/
def execSetFacade (facade : Nat) (sun : Option Sun) (season : Option Season) (retract : Option Switch) (s : State) :
    Out :=
  .next (s.queuedEffect (.setFacade facade sun season retract) fun t => t.setFacade facade sun season retract)

/-- A blind group as READ_ROOM_LIGHTING shows it: positions and targets in per cent, rounded down (R170). -/
def Blind.image (b : Blind) : BlindImage :=
  { target := b.target.map (· / 10), position := b.position.map (· / 10), motion := b.motion,
    modelled := b.modelled.map (· / 10), command := b.cmd.map fun c => (c.token, c.dir, c.run, c.echoed),
    elapsed := b.elapsedNow, pending := b.pending.map (· / 10), unitToken := b.unitToken, moves := b.moves }

/-- READ_ROOM_LIGHTING (R170). The trim returned is the trim held, also under HOLD, where no level takes it
(assumption 63). -/
def execReadRoomLighting (room : Nat) (s : State) : Out :=
  .next (s.queuedRead (.readRoomLighting room) fun t =>
    match asRoom room with
    | none => (.range, .none)
    | some r =>
      (.ok, .roomLighting r (t.room r).light (t.room r).ctx.trim ((t.room r).blinds.mapIdx fun _ b => b.image)))

/-- READ_WING_LIGHTING (R170). -/
def execReadWingLighting (s : State) : Out :=
  .next (s.queuedRead .readWingLighting fun t => (.ok, .wingLighting t.facades t.economy t.cap t.window))

end Sys2Proof.Machine
end

