-- ==== Sys2Proof/Machine/LoopCmds.lean ====
section
/-! DEFINITION. The meanings of the Room Loop Controller's commands and of the loop's own events (R172 to R186). -/
namespace Sys2Proof.Machine

/-- READMIT_STATION (R184). -/
def execReadmitStation (address : Nat) (s : State) : Out :=
  .next (s.queued (.readmitStation address) fun t => t.readmitStation address)

/-- READ_STATION (R185). -/
def execReadStation (address : Nat) (s : State) : Out :=
  .next (s.queued (.readStation address) fun t => t.readStation address)

/-- READ_LOOP_LOG (R186). -/
def execReadLoopLog (s : State) : Out := .next (s.queued .readLoopLog State.readLoopLog)

/-- ROUND_START: where a round may begin, it begins (R176). -/
def execRoundStart (s : State) : Out := .next s.startRound

/-- STATION_VISIT: the next due station is sent its frame, or the round ends (R176, R177, R178). -/
def execStationVisit (s : State) : Out := .next s.visit

/-- NO_REPLY: the exchange in progress fails (R172). -/
def execNoReply (s : State) : Out := .next s.noReply

/-- REPORT_RECEIVED: the reply of the exchange in progress is judged, and a good report is handed on (R172, R173). -/
def execReportReceived (reply : Reply) (s : State) : Out := .next (s.replyReceived reply)

end Sys2Proof.Machine
end

