-- ==== Sys2Proof/Machine/ServiceCmds.lean ====
section
/-! DEFINITION. The meanings of the commands answered by the Room Service Unit and the Occupancy Estimator's read (R86 to
R93, R124). -/
namespace Sys2Proof.Machine

/-- HOLD_ROOM before what follows it (R89). -/
def State.holdRoomNow (s : State) (room : Nat) (f : HoldFields) : Answered :=
  match asRoom room with
  | none => s.refuse .range
  | some r => s.holdRoom r f

/-- HOLD_ROOM (R89). -/
def execHoldRoom (room : Nat) (f : HoldFields) (s : State) : Out :=
  .next (s.queuedTouching (.holdRoom room f) (fun r => r.val == room) fun t => t.holdRoomNow room f)

/-- RELEASE_HOLD before what follows it (R90). -/
def State.releaseHoldNow (s : State) (room : Nat) : Answered :=
  match asRoom room with
  | none => s.refuse .range
  | some r => s.releaseHold r

/-- RELEASE_HOLD: it touches the room only where it has a hold to end (R90). -/
def execReleaseHold (room : Nat) (s : State) : Out :=
  .next (s.queuedTouching (.releaseHold room) (fun r => r.val == room && (s.room r).ctx.hold.isSome)
    fun t => t.releaseHoldNow room)

/-- END_OCCURRENCE: an end-now request goes to the calendar, and its answer is the command's (R58, R91). A handle whose
slot lies above 511 is refused RANGE (R202), after the room's checks (assumption 53). -/
def execEndOccurrence (room : Nat) (h : Handle) (s : State) : Out :=
  .next (s.hostHeard.arrive fun t =>
    match asRoom room with
    | none => t.respond (.endOccurrence room h) false .range .none
    | some r =>
      if !(t.room r).cfg.enabled then t.respond (.endOccurrence room h) false .notEnabled .none
      else if 512 ≤ h.slot then t.respond (.endOccurrence room h) false .range .none
      else (t.takeCommand (.endOccurrence room h)).postWork (.endNow r h true))

/-- The checks of EXTEND_OCCURRENCE, and the host command it becomes at the store arbiter (R92). A handle whose slot lies
above 511 is refused RANGE (R202), after the room's checks (assumption 53). -/
def State.extendNow (s : State) (room : Nat) (h : Handle) : Answered ⊕ HostOp :=
  match asRoom room with
  | none => .inl (s.refuse .range)
  | some r =>
    if !(s.room r).cfg.enabled then .inl (s.refuse .notEnabled)
    else if 512 ≤ h.slot then .inl (s.refuse .range)
    else if (s.base r = .inUse ∨ s.base r = .vacated) ∧ s.govHandle r = some h then
      .inr (.extend (s.govRoom r) h (s.govProfile r).extStep)
    else .inl (s.refuse .notFound)

/-- EXTEND_OCCURRENCE (R39, R92). -/
def execExtendOccurrence (room : Nat) (h : Handle) (s : State) : Out :=
  .next (s.queuedEither (.extendOccurrence room h) fun t => t.extendNow room h)

/-- SET_OPEN_RANGE: its response is ready once every room whose membership changes has been handled (R86). -/
def execSetOpenRange (first last : Nat) (s : State) : Out :=
  .next (s.hostHeard.arrive fun t =>
    match asRoom first, asRoom last with
    | some a, some b => ((t.takeCommand (.setOpenRange first last)).applyOpenRange a b).finish t
    | _, _ => t.respond (.setOpenRange first last) false .range .none)

/-- READ_ROOM_STATUS before its response: the image, and NOTE_LOST cleared (R77, R93). -/
def State.readStatus (s : State) (room : Nat) : Answered :=
  match asRoom room with
  | none => s.refuse .range
  | some r => (s.modifyCtx r fun c => { c with noteLost := false }, .ok, .status (s.statusImage r))

/-- READ_ROOM_STATUS (R93). -/
def execReadRoomStatus (room : Nat) (s : State) : Out :=
  .next (s.queued (.readRoomStatus room) fun t => t.readStatus room)

/-- A room's sensor image as it stands (R124). -/
def State.sensorImage (s : State) (r : RoomId) : SensorImage :=
  let o := (s.room r).oce
  { room := r, co2 := o.co2, temp := o.temp, lux := o.lux, theta := o.theta, motion := o.motion, flags := o.flags,
    tally := (s.estimate r).tally, tallyLimit := s.tallyLimit r, presence := s.presence r,
    quiet := (s.estimate r).quiet, entriesSet := o.entriesBase.isSome, exitsSet := o.exitsBase.isSome,
    frozen := o.est.frozenAt.isSome, age := o.age }

/-- READ_ROOM_SENSORS (R124). -/
def execReadRoomSensors (room : Nat) (s : State) : Out :=
  .next (s.queuedRead (.readRoomSensors room) fun t =>
    match asRoom room with
    | none => (.range, .none)
    | some r => (.ok, .sensors (t.sensorImage r)))

end Sys2Proof.Machine
end

