-- ==== Sys2Proof/Machine/Dispatch.lean ====
section
/-! DEFINITION. One arm for each row of the table: what each command and event of the part does. -/
namespace Sys2Proof.Machine

def exec (i : Instr) (s : State) : Host.Outcome State Fault Refusal :=
  match i with
  | .powerOn => Sys2Proof.Machine.execPowerOn s
  | .resetLine => Sys2Proof.Machine.execResetLine s
  | .restart => Sys2Proof.Machine.execRestart s
  | .malformed code => Sys2Proof.Machine.execMalformed code s
  | .unknownCommand code => Sys2Proof.Machine.execUnknownCommand code s
  | .poll => Sys2Proof.Machine.execPoll s
  | .readResponse => Sys2Proof.Machine.execReadResponse s
  | .readAttention => Sys2Proof.Machine.execReadAttention s
  | .ackAttention mask => Sys2Proof.Machine.execAckAttention mask s
  | .readRoomChanges => Sys2Proof.Machine.execReadRoomChanges s
  | .readBookingChanges => Sys2Proof.Machine.execReadBookingChanges s
  | .setAttention enables lines => Sys2Proof.Machine.execSetAttention enables lines s
  | .readResetCause => Sys2Proof.Machine.execReadResetCause s
  | .writeRoom room fields => Sys2Proof.Machine.execWriteRoom room fields s
  | .readRoom room => Sys2Proof.Machine.execReadRoom room s
  | .writeProfile profile fields => Sys2Proof.Machine.execWriteProfile profile fields s
  | .readProfile profile => Sys2Proof.Machine.execReadProfile profile s
  | .writeWing gap setback silence => Sys2Proof.Machine.execWriteWing gap setback silence s
  | .readWing => Sys2Proof.Machine.execReadWing s
  | .writePartition group members => Sys2Proof.Machine.execWritePartition group members s
  | .deletePartition group => Sys2Proof.Machine.execDeletePartition group s
  | .readPartition group => Sys2Proof.Machine.execReadPartition group s
  | .writeAirGroup group fallback period mask => Sys2Proof.Machine.execWriteAirGroup group fallback period mask s
  | .readAirGroup group => Sys2Proof.Machine.execReadAirGroup group s
  | .writeCalibration room fields => Sys2Proof.Machine.execWriteCalibration room fields s
  | .readCalibration room => Sys2Proof.Machine.execReadCalibration room s
  | .createBooking fields => Sys2Proof.Machine.execCreateBooking fields s
  | .amendBooking handle fields => Sys2Proof.Machine.execAmendBooking handle fields s
  | .cancelBooking handle => Sys2Proof.Machine.execCancelBooking handle s
  | .suspendBooking handle => Sys2Proof.Machine.execSuspendBooking handle s
  | .resumeBooking handle => Sys2Proof.Machine.execResumeBooking handle s
  | .readBooking handle => Sys2Proof.Machine.execReadBooking handle s
  | .listRoomBookings room cursor => Sys2Proof.Machine.execListRoomBookings room cursor s
  | .readAgenda room first => Sys2Proof.Machine.execReadAgenda room first s
  | .findFreeRoom week weekday start stop attendance groups => Sys2Proof.Machine.execFindFreeRoom week weekday start stop attendance groups s
  | .setClock week weekday minute => Sys2Proof.Machine.execSetClock week weekday minute s
  | .readClock => Sys2Proof.Machine.execReadClock s
  | .addClosure week weekday => Sys2Proof.Machine.execAddClosure week weekday s
  | .removeClosure week weekday => Sys2Proof.Machine.execRemoveClosure week weekday s
  | .listClosures => Sys2Proof.Machine.execListClosures s
  | .holdRoom room fields => Sys2Proof.Machine.execHoldRoom room fields s
  | .releaseHold room => Sys2Proof.Machine.execReleaseHold room s
  | .endOccurrence room handle => Sys2Proof.Machine.execEndOccurrence room handle s
  | .extendOccurrence room handle => Sys2Proof.Machine.execExtendOccurrence room handle s
  | .setOpenRange first last => Sys2Proof.Machine.execSetOpenRange first last s
  | .readRoomStatus room => Sys2Proof.Machine.execReadRoomStatus room s
  | .readRoomSensors room => Sys2Proof.Machine.execReadRoomSensors room s
  | .setCapacity group capacity => Sys2Proof.Machine.execSetCapacity group capacity s
  | .requestAllocation group => Sys2Proof.Machine.execRequestAllocation group s
  | .readAllocation group first => Sys2Proof.Machine.execReadAllocation group first s
  | .readRoomAir room => Sys2Proof.Machine.execReadRoomAir room s
  | .sceneWindow fields => Sys2Proof.Machine.execSceneWindow fields s
  | .sceneWriteStart count levels => Sys2Proof.Machine.execSceneWriteStart count levels s
  | .sceneWriteContinue count levels => Sys2Proof.Machine.execSceneWriteContinue count levels s
  | .sceneReadStart count => Sys2Proof.Machine.execSceneReadStart count s
  | .sceneReadContinue count => Sys2Proof.Machine.execSceneReadContinue count s
  | .setEconomy state cap => Sys2Proof.Machine.execSetEconomy state cap s
  | .setFacade facade sun season retract => Sys2Proof.Machine.execSetFacade facade sun season retract s
  | .readRoomLighting room => Sys2Proof.Machine.execReadRoomLighting room s
  | .readWingLighting => Sys2Proof.Machine.execReadWingLighting s
  | .readmitStation address => Sys2Proof.Machine.execReadmitStation address s
  | .readStation address => Sys2Proof.Machine.execReadStation address s
  | .readLoopLog => Sys2Proof.Machine.execReadLoopLog s
  | .storeOperationComplete => Sys2Proof.Machine.execStoreOperationComplete s
  | .retirementPass => Sys2Proof.Machine.execRetirementPass s
  | .agendaBuild room => Sys2Proof.Machine.execAgendaBuild room s
  | .termEndStep => Sys2Proof.Machine.execTermEndStep s
  | .noteServed room => Sys2Proof.Machine.execNoteServed room s
  | .extensionRequestServed room => Sys2Proof.Machine.execExtensionRequestServed room s
  | .secondEvent => Sys2Proof.Machine.execSecondEvent s
  | .minuteEvent => Sys2Proof.Machine.execMinuteEvent s
  | .rolloverEvent => Sys2Proof.Machine.execRolloverEvent s
  | .termEnd => Sys2Proof.Machine.execTermEnd s
  | .noShowExpiry room => Sys2Proof.Machine.execNoShowExpiry room s
  | .confirmRequest room => Sys2Proof.Machine.execConfirmRequest room s
  | .endNowRequest room => Sys2Proof.Machine.execEndNowRequest room s
  | .sensedAbsenceExpiry room => Sys2Proof.Machine.execSensedAbsenceExpiry room s
  | .quietTimerExpiry room => Sys2Proof.Machine.execQuietTimerExpiry room s
  | .settleTimerExpiry room => Sys2Proof.Machine.execSettleTimerExpiry room s
  | .holdExpiry room => Sys2Proof.Machine.execHoldExpiry room s
  | .hostSilenceExpiry => Sys2Proof.Machine.execHostSilenceExpiry s
  | .periodTimerMatch group => Sys2Proof.Machine.execPeriodTimerMatch group s
  | .allocationPassComplete group => Sys2Proof.Machine.execAllocationPassComplete group s
  | .roundStart => Sys2Proof.Machine.execRoundStart s
  | .stationVisit => Sys2Proof.Machine.execStationVisit s
  | .noReply => Sys2Proof.Machine.execNoReply s
  | .reportReceived reply => Sys2Proof.Machine.execReportReceived reply s
  | .blindTravelComplete room blind => Sys2Proof.Machine.execBlindTravelComplete room blind s
  | .blindPauseEnd room blind => Sys2Proof.Machine.execBlindPauseEnd room blind s

end Sys2Proof.Machine
end

