-- ==== Sys2Proof/Safety.lean ====
section
/-! DEFINITION. The terms in which claims about the part are made: frames that say what a step leaves alone, when the slot
and the store arbiter are free, and the invariants that every step keeps. -/
namespace Sys2Proof.Machine

/-! ## Frames -/

/-- What a port keeps through the part's own work: everything but slot, flags and change sets. -/
structure PortKept (p q : Port) : Prop where
  enables : q.enables = p.enables
  lines : q.lines = p.lines
  present : q.present = p.present
  silenceTimer : q.silenceTimer = p.silenceTimer
  silenceTime : q.silenceTime = p.silenceTime
  cause : q.cause = p.cause
  clockKept : q.clockKept = p.clockKept
  storeKept : q.storeKept = p.storeKept
  out : q.out = p.out

/-- The work of the Room Service Unit, the calendar and the estimator leaves all of this as it was. -/
structure RoomWork (s t : State) : Prop where
  store : t.store = s.store
  clock : t.cal = { s.cal with work := t.cal.work }
  profiles : t.profiles = s.profiles
  setback : t.setback = s.setback
  openFirst : t.openFirst = s.openFirst
  openLast : t.openLast = s.openLast
  oceNow : t.oceNow = s.oceNow
  airs : t.airs = s.airs
  scenes : t.scenes = s.scenes
  window : t.window = s.window
  economy : t.economy = s.economy
  cap : t.cap = s.cap
  facades : t.facades = s.facades
  loop : t.loop = s.loop
  divider : t.divider = s.divider
  pending : t.pending = s.pending
  port : PortKept s.port t.port
  cfg : ∀ r, (t.room r).cfg = (s.room r).cfg
  cal : ∀ r, (t.room r).oce.cal = (s.room r).oce.cal
  air : ∀ r, (t.room r).air = (s.room r).air
  light : ∀ r, (t.room r).light = (s.room r).light
  blinds : ∀ r, (t.room r).blinds = (s.room r).blinds
  station : ∀ r, (t.room r).station = (s.room r).station
  safe : ∀ r, (t.room r).ctx.safe = (s.room r).ctx.safe
  hold : ∀ r, (t.room r).ctx.hold = (s.room r).ctx.hold

/-- What a room keeps through everything that follows an effect: all but demand, lighting and blind records. -/
structure RoomKept (x y : Room) : Prop where
  cfg : y.cfg = x.cfg
  agenda : y.agenda = x.agenda
  oce : y.oce = x.oce
  station : y.station = x.station
  service : y.ctx.service = x.ctx.service
  safe : y.ctx.safe = x.ctx.safe
  hold : y.ctx.hold = x.ctx.hold
  gov : y.ctx.gov = x.ctx.gov
  overrunStart : y.ctx.overrunStart = x.ctx.overrunStart
  noteLost : y.ctx.noteLost = x.ctx.noteLost
  extPending : y.ctx.extPending = x.ctx.extPending
  outConfirm : y.ctx.outConfirm = x.ctx.outConfirm
  trim : y.ctx.trim = x.ctx.trim
  overrides : y.ctx.overrides = x.ctx.overrides
  extResult : y.ctx.extResult = x.ctx.extResult
  /-- the arbiter may take the oldest request -/
  requests : y.ctx.requests <:+ x.ctx.requests

/-- What an air group keeps when triggers fire and passes start. -/
structure AirKept (a b : AirGroup) : Prop where
  fallback : b.fallback = a.fallback
  period : b.period = a.period
  mask : b.mask = a.mask
  capacity : b.capacity = a.capacity
  timer : b.timer = a.timer
  passCount : b.passCount = a.passCount
  flags : b.flags = a.flags
  unallocated : b.unallocated = a.unallocated
  last : b.last = a.last
  running : a.running.isSome → b.running = a.running

/-- Everything that follows an effect leaves all of this as the effect left it. -/
structure Follows (s t : State) : Prop where
  slots : t.store.slots = s.store.slots
  rebuild : t.store.rebuild = s.store.rebuild
  cal : t.cal = s.cal
  groups : t.groups = s.groups
  profiles : t.profiles = s.profiles
  setback : t.setback = s.setback
  openFirst : t.openFirst = s.openFirst
  openLast : t.openLast = s.openLast
  oceNow : t.oceNow = s.oceNow
  scenes : t.scenes = s.scenes
  window : t.window = s.window
  economy : t.economy = s.economy
  cap : t.cap = s.cap
  facades : t.facades = s.facades
  loop : t.loop = s.loop
  divider : t.divider = s.divider
  pending : t.pending = s.pending
  port : PortKept s.port t.port
  slot : t.port.slot = s.port.slot
  bookingChanges : t.port.bookingChanges = s.port.bookingChanges
  rooms : ∀ r, RoomKept (s.room r) (t.room r)
  airs : ∀ g, AirKept (s.airs.get g) (t.airs.get g)

/-- A step answers a next state that differs from `u` in nothing but what follows an effect (see `Follows`). -/
def Becomes (c : Instr) (s u : State) : Prop := ∃ t, exec c s = .next t ∧ Follows u t

/-- A state that differs from `u` in nothing but the rooms' reactions (see `RoomWork`) and what follows them. -/
def Settles (u t : State) : Prop := ∃ v, RoomWork u v ∧ Follows v t

/-! ## The slot and the arbiter -/

/-- The command slot takes a command that arrives: it is not EXECUTING (R190). -/
def State.slotOpen (s : State) : Bool :=
  match s.port.slot with
  | .executing _ _ => false
  | _ => true

/-- The state in which an owner meets a complete command that the slot takes and that is answered at once: the response
stands in the slot, and the host has been heard (R188, R191). -/
def State.answered (s : State) (c : Instr) (e : Status) (x : Result) : State := s.hostHeard.respond c false e x

/-- The arbiter performs nothing, and nothing waits there but, perhaps, a host command (R43). -/
def State.arbiterFree (s : State) : Bool := s.store.running.isNone && s.store.steps.isEmpty && s.requestRoom.isNone

/-- A command that arrives at the command slot (R190): every command but the six immediate ones and RESTART, and a
malformed or unknown one as well. -/
def isQueued : Instr → Bool
  | .malformed _ => true
  | .unknownCommand _ => true
  | .setAttention _ _ => true
  | .readResetCause => true
  | .writeRoom _ _ => true
  | .readRoom _ => true
  | .writeProfile _ _ => true
  | .readProfile _ => true
  | .writeWing _ _ _ => true
  | .readWing => true
  | .writePartition _ _ => true
  | .deletePartition _ => true
  | .readPartition _ => true
  | .writeAirGroup _ _ _ _ => true
  | .readAirGroup _ => true
  | .writeCalibration _ _ => true
  | .readCalibration _ => true
  | .createBooking _ => true
  | .amendBooking _ _ => true
  | .cancelBooking _ => true
  | .suspendBooking _ => true
  | .resumeBooking _ => true
  | .readBooking _ => true
  | .listRoomBookings _ _ => true
  | .readAgenda _ _ => true
  | .findFreeRoom _ _ _ _ _ _ => true
  | .setClock _ _ _ => true
  | .readClock => true
  | .addClosure _ _ => true
  | .removeClosure _ _ => true
  | .listClosures => true
  | .holdRoom _ _ => true
  | .releaseHold _ => true
  | .endOccurrence _ _ => true
  | .extendOccurrence _ _ => true
  | .setOpenRange _ _ => true
  | .readRoomStatus _ => true
  | .readRoomSensors _ => true
  | .setCapacity _ _ => true
  | .requestAllocation _ => true
  | .readAllocation _ _ => true
  | .readRoomAir _ => true
  | .sceneWindow _ => true
  | .sceneWriteStart _ _ => true
  | .sceneWriteContinue _ _ => true
  | .sceneReadStart _ => true
  | .sceneReadContinue _ => true
  | .setEconomy _ _ => true
  | .setFacade _ _ _ _ => true
  | .readRoomLighting _ => true
  | .readWingLighting => true
  | .readmitStation _ => true
  | .readStation _ => true
  | .readLoopLog => true
  | _ => false

/-- A command that is always a store operation (R2, R42). -/
def isStoreCommand : Instr → Bool
  | .writePartition _ _ => true
  | .deletePartition _ => true
  | .createBooking _ => true
  | .amendBooking _ _ => true
  | .cancelBooking _ => true
  | .suspendBooking _ => true
  | .resumeBooking _ => true
  | .readBooking _ => true
  | .listRoomBookings _ _ => true
  | .readAgenda _ _ => true
  | .findFreeRoom _ _ _ _ _ _ => true
  | .setClock _ _ _ => true
  | .addClosure _ _ => true
  | .removeClosure _ _ => true
  | _ => false

/-- The slot takes a command, the arbiter is free, and nothing waits in the slot's, the arbiter's or the calendar's
hands: a store command sent now runs alone. -/
abbrev State.ready (s : State) : Prop :=
  s.slotOpen = true ∧ s.arbiterFree = true ∧ s.store.hostWait = none ∧ s.cal.work = []

/-- A store command is sent and its operation completes: two steps, with the state after them as `q` says. -/
def Performed (c : Instr) (s : State) (q : State → Prop) : Prop :=
  ∃ m t, exec c s = .next m ∧ exec .storeOperationComplete m = .next t ∧ q t

/-- The slot holds a command's response, made in time. -/
def State.answeredWith (t : State) (c : Instr) (e : Status) (x : Result) : Prop :=
  t.port.slot = .done { status := e, code := c.code, late := false, result := x }

/-- The store after a retirement pass at a date: every slot whose record's last date lies before it is free, with its
generation advanced; every other slot is as it was (R19, R41). -/
def State.slotsAfter (s : State) (d : Date) : Table 512 Slot :=
  .ofFn fun k =>
    match (s.store.slots.get k).record with
    | some b => if b.over d then { gen := ((s.store.slots.get k).gen + 1) % 16, record := none } else s.store.slots.get k
    | none => s.store.slots.get k

/-- The entries of a room's agenda by what time does not move: handle, start, current end and extension total. -/
def State.keys (s : State) (r : RoomId) : List (Handle × Nat × Nat × Nat) :=
  (s.room r).agenda.map fun e => (e.handle, e.start, e.curEnd, e.ext)

/-- A room's agenda without its timers. -/
def State.untimed (s : State) (r : RoomId) : List Entry := (s.room r).agenda.map Entry.untimed

/-- Whether an attention flag is set. -/
def State.flagged (s : State) (c : Cause) : Bool := s.port.flags.getLsbD c.index

/-- The state with no operation running at the arbiter. -/
def State.idle (s : State) : State := { s with store := { s.store with running := none } }

/-- The running operation is this one, judged by this instant, and no calendar work is held behind it. -/
abbrev State.performing (s : State) (op : StoreOp) (now : Instant) : Prop :=
  s.store.running = some { op := op, at_ := now } ∧ s.cal.work = []

/-! ## Invariants -/

/-- The scene table and its window: scene 0 is dark, every level lies within 0..1000, and the pointer is a cell of an
ordered window (R148). -/
def ScenesOk (s : State) : Prop :=
  (∀ ch, s.cell 0 ch = 0) ∧ (∀ sc ch, s.cell sc ch ≤ 1000) ∧
    s.window.firstScene ≤ s.window.scene ∧ s.window.scene ≤ s.window.lastScene ∧
    s.window.firstChannel ≤ s.window.channel ∧ s.window.channel ≤ s.window.lastChannel

/-- A pass record within its capacity: the grants sum to no more than the capacity used, no grant exceeds its demand, and
no floor does (R130, R131, R142). -/
def PassOk (p : PassRecord) : Prop :=
  (p.members.map (·.grant)).sum ≤ p.capacity ∧ ∀ m ∈ p.members, m.grant ≤ m.d ∧ m.f ≤ m.d

/-- Every room's floor is within its demand, and every pass record, of a pass done or running, is within its capacity
(R142). -/
def AirOk (s : State) : Prop :=
  (∀ r, (s.room r).air.f ≤ (s.room r).air.d) ∧
    ∀ g, PassOk (s.airs.get g).last ∧ ∀ p, (s.airs.get g).running = some p → PassOk p

/-- An exchange in progress belongs to a station whose state agrees with its kind, unless the room has lost it (R171,
R174). -/
def ExchangeOk (s : State) : Prop :=
  ∀ x, s.loop.exchange = some x → x.orphan = false →
    ∃ st, (s.room x.room).station = some st ∧ st.address = x.address ∧ (st.state = .off ↔ x.kind = .probe)

/-- Stations: exactly the enabled rooms have one; health lies within 0..255; a room is SAFE exactly when its station is
OFF (R175, R181, R182). -/
def StationsOk (s : State) : Prop :=
  (∀ r, (s.room r).station.isSome = (s.room r).cfg.enabled) ∧
    (∀ r st, (s.room r).station = some st → st.health ≤ 255 ∧ ((s.room r).ctx.safe = true ↔ st.state = .off)) ∧
    (∀ r, (s.room r).station = none → (s.room r).ctx.safe = false) ∧ ExchangeOk s

/-- The clock and the closures: every field within its range, a clock that is INVALID at 0/0/0, second 0, and at most 24
dates of the term in strictly ascending order (R46, R47, R48). -/
def ClockOk (s : State) : Prop :=
  s.cal.week < 64 ∧ s.cal.weekday < 7 ∧ s.cal.minute < 1440 ∧ s.cal.second < 60 ∧
    (s.cal.valid = false → s.cal.week = 0 ∧ s.cal.weekday = 0 ∧ s.cal.minute = 0 ∧ s.cal.second = 0) ∧
    s.cal.closures.length ≤ 24 ∧ (∀ d ∈ s.cal.closures, d.week < 64 ∧ d.weekday < 7) ∧
    s.cal.closures.Pairwise (fun a b => a.day < b.day)

/-- A record within the ranges of R18. -/
def RecordOk (b : Record) : Prop :=
  b.weekday < 7 ∧ b.firstWeek ≤ b.lastWeek ∧ b.lastWeek < 64 ∧ b.skips.length ≤ 4 ∧ b.start % 5 = 0 ∧ b.stop % 5 = 0 ∧
    b.start + 15 ≤ b.stop ∧ b.stop ≤ 1440 ∧ 1 ≤ b.cls.val ∧ b.attendance ≤ 500 ∧ b.noShows ≤ 15 ∧ b.releases ≤ 255

/-- Every slot: a generation of four bits, and a record, where it holds one, within its ranges (R18, R19). -/
def RecordsOk (s : State) : Prop :=
  ∀ k, (s.store.slots.get k).gen < 16 ∧ ∀ b, (s.store.slots.get k).record = some b → RecordOk b

/-- A change set that is not empty has its flag set (R194, R195, R196), and the booking change set holds each slot at most
once, in ascending order (R195). -/
def ChangesOk (s : State) : Prop :=
  ((∃ r, s.port.roomChanges.get r = true) → s.port.flags &&& Cause.roomsChanged.mask ≠ 0#11) ∧
    (s.port.bookingChanges ≠ [] → s.port.flags &&& Cause.bookingsChanged.mask ≠ 0#11) ∧
    s.port.bookingChanges.Pairwise (fun a b => a.slot < b.slot)

/-- Every room's demand record is what a recomputation now would make it (R126), and its lighting record what a forming
now would make it (R153). -/
def OutputsFollow (s : State) : Prop :=
  ∀ r, (s.room r).air = (s.room r).air.take (s.room r).cfg (s.figures r) ∧ (s.room r).light = s.formLight r

end Sys2Proof.Machine
end

