-- ==== Sys2Proof/Certificates/Slice0/Obligations.lean ====
section
/-! DEFINITION. The statements about the model, for the provers. Each docstring names the rules a statement rests on. -/

section
open Sys2Proof Sys2Proof.Machine

/-! ## Steps and resets -/

/-- The command at the front of the queue is what a step runs, on the state with the rest of the queue (the model's
own queue, assumption 1). -/
def Obligations.StepRunsFront : Prop :=
  ∀ (s : State) (c : Instr) (rest : List Instr), s.pending = c :: rest → step s = exec c { s with pending := rest }

/-- On an empty queue a step lets one cycle of the wing-clock input pass (R46, R162, R176; assumption 9): the divider,
the round timer and the blinds' two timers count it, and nothing else changes until the second is over. A blind's travel
timer counts while its echoed move runs or is being stopped, and stands still otherwise. -/
def Obligations.IdleStepCountsOneCycle : Prop :=
  (∀ s : State, s.pending = [] → s.divider + 1 < 32768 →
    ∃ t, step s = .next t ∧
      t = { s with rooms := t.rooms, divider := s.divider + 1,
                   loop := { s.loop with roundTimer := s.loop.roundTimer + 1 } } ∧
      ∀ r, t.room r = { s.room r with blinds := (t.room r).blinds } ∧
        ∀ b,
          let x := (s.room r).blinds.get b
          (t.room r).blinds.get b =
            { x with timer := if x.travelling then { x.timer with cycles := x.timer.cycles + 1 } else x.timer,
                     pause := x.pause.map (· + 1) }) ∧
  ∀ x : Blind, x.travelling = true ↔
    (∃ m, x.stopped = some m ∧ m.echoed = true) ∨
      (x.stopped = none ∧ ∃ c, x.cmd = some c ∧ c.echoed = true ∧ c.dir ≠ .stop)

/-- What power-on leaves in the records that the manual gives power-on values (R10, R11, R14, R16, R17, R45, R46, R48,
R66, R148, R159, R201). The queue of waiting commands is the model's own and stays. -/
def Obligations.PowerOnValues : Prop :=
  ∀ s : State, ∃ t, exec .powerOn s = .next t ∧ t.pending = s.pending ∧
    (∀ r, (t.room r).cfg =
      { enabled := false, station := r.val + 1, seats := 30, area := 60, areaRate := 30, vminUn := 20, vminOcc := 60,
        vmax := 300, airGroup := none, channels := 0, daylight := .fill 4 false, blindCount := 0,
        facades := .fill 2 0, travels := .fill 2 300, doorCounting := false, walkIn := 10, confirmTime := 120,
        quietTime := 600 }) ∧
    (∀ r, (t.room r).ctx =
      { service := .unconfigured, safe := false, hold := none, gov := none, overrunStart := none, trim := 0,
        overrides := .fill 2 .none, requests := [], noteLost := false, extPending := false, extResult := .none,
        outConfirm := none } ∧ (t.room r).agenda = [] ∧ (t.room r).station = none) ∧
    (∀ k, t.profiles.get k =
      { lead := 15, noShow := 15, reclaim := 0, overrunLimit := 30, extStep := 15, maxExt := 30, still := 20,
        perPerson := 80, co2Target := 1000, co2Gain := 40, band := ⟨200, 240⟩, scenePre := 0, sceneAwait := 0,
        sceneUse := 0, sceneOver := 0, policy := .fixed, blindPos := 0, glarePos := 0, luxTarget := 500,
        minDim := 100, fade := 3 }) ∧
    t.setback = ⟨160, 280⟩ ∧ t.cal.gap = 10 ∧ t.port.silenceTime = 15 ∧ (∀ g, t.groups.get g = none) ∧
    (∀ g, (t.airs.get g).fallback = 0 ∧ (t.airs.get g).period = 0 ∧ (t.airs.get g).capacity = 0 ∧
      (t.airs.get g).mask = ⟨true, true, true, true⟩) ∧
    (∀ k, t.store.slots.get k = { gen := 0, record := none }) ∧ t.store.running = none ∧
    t.cal.valid = false ∧ t.today = ⟨0, 0⟩ ∧ t.cal.minute = 0 ∧ t.cal.second = 0 ∧ t.cal.closures = [] ∧
    t.openFirst = 0 ∧ t.openLast = 47 ∧ (∀ sc ch, t.cell sc ch = 0) ∧ t.economy = .off ∧ t.cap = 1000 ∧
    (∀ f, t.facades.get f = ⟨.none, .heating, .off⟩) ∧ t.port.slot = .empty ∧ t.port.flags = 0x400#11 ∧
    t.port.enables = 0x401#11 ∧ t.port.lines = 0#11 ∧ t.port.present = true ∧ t.port.cause = .powerOn ∧
    t.port.clockKept = false ∧ t.port.storeKept = false

/-- What a warm reset keeps and what it takes afresh, by the reset line or by RESTART (R16, R17, R45, R48, R65, R66,
R108, R132, R148, R175, R187, R201). That the divider goes on and the estimator's second count is kept, and the values
of the fields that no rule names, are the model's (assumptions 34 and 35). -/
def Obligations.WarmResetKeeps : Prop :=
  ∀ (s : State) (c : Instr) (cause : ResetCause),
    (c = .resetLine ∧ cause = .resetLine) ∨ (c = .restart ∧ cause = .restart) →
    ∃ t, exec c s = .next t ∧ Follows (s.restarted cause) t ∧
      t.store.slots = s.store.slots ∧ t.profiles = s.profiles ∧ t.setback = s.setback ∧ t.scenes = s.scenes ∧
      t.economy = s.economy ∧ t.cap = s.cap ∧ t.facades = s.facades ∧ t.openFirst = s.openFirst ∧
      t.openLast = s.openLast ∧ t.cal = { s.cal with rolloverFlag := s.cal.valid, work := [] } ∧
      (∀ r, (t.room r).cfg = (s.room r).cfg ∧ (t.room r).ctx.hold = (s.room r).ctx.hold ∧
        (t.room r).oce.cal = (s.room r).oce.cal ∧ (t.room r).agenda = [] ∧ (t.room r).ctx.safe = false ∧
        (t.room r).oce.est = .reset ∧
        (t.room r).station = (if (s.room r).cfg.enabled then some (.joining (s.room r).cfg.station) else none)) ∧
      (∀ g, (t.groups.get g).map (fun p => (p.members, p.state)) =
        (s.groups.get g).map fun p => (p.members, GroupState.split)) ∧
      (∀ g, (t.airs.get g).fallback = (s.airs.get g).fallback ∧ (t.airs.get g).period = (s.airs.get g).period ∧
        (t.airs.get g).mask = (s.airs.get g).mask ∧ (t.airs.get g).capacity = (s.airs.get g).capacity ∧
        (t.airs.get g).timer = 0) ∧
      t.window = s.window.rewind ∧ t.loop = .reset ∧ t.port.slot = .empty ∧ t.port.flags = 0x400#11 ∧
      t.port.enables = s.port.enables ∧ t.port.lines = s.port.lines ∧ t.port.silenceTime = s.port.silenceTime ∧
      t.port.bookingChanges = [] ∧ t.port.cause = cause ∧ t.port.clockKept = true ∧ t.port.storeKept = true

/-! ## The Supervisor Port -/

/-- A queued command that arrives while the slot is EXECUTING is discarded with LATE set (R190). A complete one
restarts the silence timer and ends an absence all the same (R188, R198); a malformed one is not complete. -/
def Obligations.ExecutingSlotDiscards : Prop :=
  ∀ (s : State) (c d : Instr) (late : Bool), s.port.slot = .executing d late → isQueued c = true →
    let heard := match c with
      | .malformed _ => s
      | _ => s.hostHeard
    exec c s = .next { heard with port := { heard.port with slot := .executing d true } }

/-- The port's own queued commands, taken and answered at once (R188, R190, R191, R197, R200). -/
def Obligations.PortCommandsAnswered : Prop :=
  ∀ s : State, s.slotOpen = true →
    (∀ b, exec (.malformed b) s = .next (s.respond (.malformed b) false .malformed .none)) ∧
    (∀ b, exec (.unknownCommand b) s = .next (s.answered (.unknownCommand b) .unknownCommand .none)) ∧
    (∀ e l, exec (.setAttention e l) s =
      .next (({ s with port := { s.port with enables := e.setWidth 11, lines := l.setWidth 11 } } : State).answered
        (.setAttention e l) .ok (.attention (e.setWidth 11) (l.setWidth 11)))) ∧
    exec .readResetCause s =
      .next (s.answered .readResetCause .ok (.resetCause s.port.cause s.port.clockKept s.port.storeKept))

/-- The immediate reads: each gives its bytes, counts as a complete command, and changes only what it takes out: a DONE
slot becomes EMPTY, a change set gives up what was returned. ACK_ATTENTION clears the flags its mask names, and a
change-set flag so cleared is set again at once while its set is not empty. Data out carries zeros while the code and
parameters are shifted in, then the response, then zeros (R188, R189, R192, R194, R195, R196). That LATE is clear in the
header of an EMPTY slot is the model's choice (assumption 74). -/
def Obligations.ImmediateCommands : Prop :=
  (∀ s : State,
    let heard (p : Port) : State := { s with port := { p with present := true, silenceTimer := 0 } }
    exec .poll s = .next (heard { s.port with out := .bytes s.port.pollBytes }) ∧
    exec .readAttention s = .next (heard { s.port with out := .bytes s.port.attentionBytes }) ∧
    (s.slotOpen = true →
      exec .readResponse s = .next (heard { s.port with slot := .empty, out := s.port.slot.response })) ∧
    (s.slotOpen = false → exec .readResponse s = .next (heard { s.port with out := s.port.slot.response })) ∧
    exec .readRoomChanges s =
      .next (heard { s.port with roomChanges := .fill 48 false, out := .bytes s.port.roomChangeBytes }) ∧
    exec .readBookingChanges s =
      .next (heard { s.port with bookingChanges := s.port.bookingChanges.drop 16,
                                 out := .bytes s.port.bookingChangeBytes })) ∧
  (∀ (s : State) (mask : Word16), ∃ t, exec (.ackAttention mask) s = .next t ∧
    t = { s with port := { s.port with flags := t.port.flags, out := .bytes [], present := true,
                                       silenceTimer := 0 } } ∧
    ∀ c : Cause, t.flagged c =
      if mask.getLsbD c.index then
        match c with
        | .roomsChanged => s.port.roomChanges.any id
        | .bookingsChanged => !s.port.bookingChanges.isEmpty
        | _ => false
      else s.flagged c) ∧
  ∀ (s : State) (period : List Shifted) (c : Instr) (out : PortOut),
    decodePeriod period = some c → s.immediateOut c = some out →
    let head := match c with
      | .ackAttention _ => 3
      | _ => 1
    (∃ t, exec c s = .next t ∧ t.port.out = out) ∧ head ≤ period.length ∧
      s.dataOut period = List.replicate head 0
        ++ (out.bytesOf ++ List.replicate period.length 0).take (period.length - head)

/-! ## Reads of the other blocks -/

/-- The configuration reads return the record as stored, with status OK, and refuse a number outside its range (R1,
R3, R11, R14, R16, R17, R113). -/
def Obligations.ConfigurationReads : Prop :=
  ∀ (s : State) (n : Nat), s.slotOpen = true →
    (exec (.readRoom n) s = .next (match asRoom n with
      | none => s.answered (.readRoom n) .range .none
      | some r => s.answered (.readRoom n) .ok (.room r (s.room r).cfg (s.membership r)))) ∧
    (exec (.readProfile n) s = .next (match asIndex 8 n with
      | none => s.answered (.readProfile n) .range .none
      | some k => s.answered (.readProfile n) .ok (.profile k
          { s.profiles.get k with blindPos := (s.profiles.get k).blindPos / 10,
                                  glarePos := (s.profiles.get k).glarePos / 10 }))) ∧
    (exec .readWing s = .next (s.answered .readWing .ok (.wing s.cal.gap s.setback s.port.silenceTime))) ∧
    (exec (.readPartition n) s = .next (match asIndex 8 n with
      | none => s.answered (.readPartition n) .range .none
      | some g => s.answered (.readPartition n) .ok (.partition g (s.groups.get g)))) ∧
    (exec (.readAirGroup n) s = .next (match asIndex 4 n with
      | none => s.answered (.readAirGroup n) .range .none
      | some g => s.answered (.readAirGroup n) .ok (.airGroup g (s.airs.get g).fallback (s.airs.get g).period
          (s.airs.get g).mask (s.airMembers g)))) ∧
    (exec (.readCalibration n) s = .next (match asRoom n with
      | none => s.answered (.readCalibration n) .range .none
      | some r => s.answered (.readCalibration n) .ok (.calibration r (s.room r).oce.cal)))

/-- The reads of the units' own state answer at once with status OK and refuse numbers outside their ranges; only
READ_ROOM_STATUS changes anything beside the slot: it clears NOTE_LOST. In READ_CLOCK the closure and rollover flags
are clear while the clock is INVALID (R46, R48, R77, R93, R124, R146, R147, R170). That READ_ROOM_LIGHTING gives the
trim as held, in every state, is the model's choice: R170 says the trim applied (assumption 63). -/
def Obligations.UnitReads : Prop :=
  ∀ (s : State) (n k : Nat), s.slotOpen = true →
    (exec (.readRoomStatus n) s = .next (match asRoom n with
      | none => s.answered (.readRoomStatus n) .range .none
      | some r => (s.modifyCtx r fun c => { c with noteLost := false }).answered (.readRoomStatus n) .ok
          (.status (s.statusImage r)))) ∧
    (exec (.readRoomSensors n) s = .next (match asRoom n with
      | none => s.answered (.readRoomSensors n) .range .none
      | some r => s.answered (.readRoomSensors n) .ok (.sensors (s.sensorImage r)))) ∧
    (exec (.readAllocation n k) s = .next (match asIndex 4 n with
      | none => s.answered (.readAllocation n k) .range .none
      | some g => if k ≤ 47 then s.answered (.readAllocation n k) .ok (.allocation (s.allocationImage g k))
          else s.answered (.readAllocation n k) .range .none)) ∧
    (exec (.readRoomAir n) s = .next (match asRoom n with
      | none => s.answered (.readRoomAir n) .range .none
      | some r => s.answered (.readRoomAir n) .ok (.roomAir
          { room := r, group := (s.room r).cfg.airGroup, demand := (s.room r).air, band := s.band r }))) ∧
    (exec (.readRoomLighting n) s = .next (match asRoom n with
      | none => s.answered (.readRoomLighting n) .range .none
      | some r => s.answered (.readRoomLighting n) .ok (.roomLighting r (s.room r).light (s.room r).ctx.trim
          ((s.room r).blinds.mapIdx fun _ b => b.image)))) ∧
    exec .readWingLighting s =
      .next (s.answered .readWingLighting .ok (.wingLighting s.facades s.economy s.cap s.window)) ∧
    exec .readClock s = .next (s.answered .readClock .ok (.clock s.cal.valid ⟨s.cal.week, s.cal.weekday⟩ s.cal.minute
      s.cal.second (s.cal.valid && s.cal.closures.contains ⟨s.cal.week, s.cal.weekday⟩)
      (s.cal.valid && s.cal.rolloverFlag))) ∧
    exec .listClosures s =
      .next (s.answered .listClosures .ok (.closures s.cal.closures.length s.cal.closures))

/-! ## Configuration writes -/

/-- WRITE_ROOM that takes a room from disabled to enabled: a clean start (R3, R4). What the clean start leaves of the
outstanding confirm, NOTE_LOST and the blinds' unit tokens and targets is the model's reading (assumptions 33 and 38). -/
def Obligations.RoomEnabled : Prop :=
  ∀ (s : State) (n : Nat) (w : RoomWrite) (r : RoomId) (c : RoomRec),
    s.slotOpen = true → asRoom n = some r → s.roomChecks r w = .ok c → (s.room r).cfg.enabled = false →
    c.enabled = true →
    let status := okStatus (clampRoom w ≠ w)
    let result := Result.room r c (s.membership r)
    Becomes (.writeRoom n w) s ((s.enableRoom r c).answered (.writeRoom n w) status result) ∧
    ∀ t, exec (.writeRoom n w) s = .next t →
      t.answeredWith (.writeRoom n w) status result ∧ (t.room r).cfg = c ∧ (t.room r).ctx.service = .setback ∧
      (t.room r).ctx.safe = false ∧ (t.room r).ctx.hold = none ∧ (t.room r).ctx.gov = none ∧
      (t.room r).oce = .fresh (s.room r).oce.cal ∧
      (t.room r).station = some { address := c.station, state := .active, health := 0, lastError := 0,
                                  goodProbes := 0, readmit := false, lastEvent := none } ∧
      (∀ b, ((t.room r).blinds.get b).position = none) ∧
      (StationsOk s → t.port.roomChanges.get r = true ∧ t.flagged .roomsChanged = true)

/-- WRITE_ROOM that disables an enabled room is a store operation: refused ROOM_BOOKED while a record targets the
room, and otherwise the room stops acting on the wing (R2, R3, R5). What a disabled room keeps of the outstanding
confirm, NOTE_LOST and the unit tokens, and that its last motion count and status flags are cleared too, is the model's
(assumptions 33, 38 and 68). -/
def Obligations.RoomDisabled : Prop :=
  ∀ (s : State) (n : Nat) (w : RoomWrite) (r : RoomId) (c : RoomRec),
    s.ready → asRoom n = some r → s.roomChecks r w = .ok c → (s.room r).cfg.enabled = true → c.enabled = false →
    (s.roomBooked r = true →
      Performed (.writeRoom n w) s (Follows (s.answered (.writeRoom n w) .roomBooked .none))) ∧
    (s.roomBooked r = false →
      let status := okStatus (clampRoom w ≠ w)
      let result := Result.room r c none
      Performed (.writeRoom n w) s fun t =>
        Follows ((s.disableRoom r c).answered (.writeRoom n w) status result) t ∧
        t.answeredWith (.writeRoom n w) status result ∧ (t.room r).cfg = c ∧
        (t.room r).ctx.service = .unconfigured ∧ (t.room r).ctx.safe = false ∧ (t.room r).ctx.hold = none ∧
        (t.room r).ctx.gov = none ∧ (t.room r).agenda = [] ∧ (t.room r).oce = .fresh (s.room r).oce.cal ∧
        (t.room r).station = none ∧ (t.room r).air.d = 0 ∧ (t.room r).air.f = 0 ∧ (t.room r).air.grant = 0 ∧
        (∀ b, ((t.room r).blinds.get b).position = none ∧ ((t.room r).blinds.get b).pending = none) ∧
        (StationsOk s → t.port.roomChanges.get r = true))

/-- WRITE_ROOM of a room that stays enabled: the record is replaced; a changed station address makes a fresh station;
a changed air group leaves grant 0, or the demand in no group; an unchanged one keeps the grant. A room that stays
disabled stores its record; a WRITE_ROOM that fails a check changes nothing and takes the status of the first check
that fails (R1, R3, R6, R7, R8). What one write makes of a MERGED group's tally, by a changed address, seats, area or
door counting, is the model's (assumptions 21 and 49). -/
def Obligations.RoomStored : Prop :=
  (∀ (s : State) (n : Nat) (w : RoomWrite) (r : RoomId) (c : RoomRec),
    s.slotOpen = true → asRoom n = some r → s.roomChecks r w = .ok c → (s.room r).cfg.enabled = true →
    c.enabled = true →
    let status := okStatus (clampRoom w ≠ w)
    let result := Result.room r c (s.membership r)
    Becomes (.writeRoom n w) s ((s.hostHeard.rewriteRoom r c).respond (.writeRoom n w) false status result) ∧
    ∀ t, exec (.writeRoom n w) s = .next t →
      t.answeredWith (.writeRoom n w) status result ∧ (t.room r).cfg = c ∧
      ((s.room r).cfg.station = c.station →
        (t.room r).station = (s.room r).station ∧ (t.room r).agenda = (s.room r).agenda ∧
        (t.room r).ctx.service = (s.room r).ctx.service ∧ (t.room r).ctx.safe = (s.room r).ctx.safe) ∧
      ((s.room r).cfg.station ≠ c.station →
        (t.room r).station = some (.joining c.station) ∧ (t.room r).ctx.safe = false ∧
        (t.room r).oce.entriesBase = none ∧ (t.room r).oce.exitsBase = none ∧
        ∀ b, ((t.room r).blinds.get b).position = none) ∧
      (c.airGroup = none → (t.room r).air.grant = (t.room r).air.d) ∧
      (c.airGroup ≠ none → (t.room r).air.grant =
        if (s.room r).cfg.airGroup = c.airGroup then (s.room r).air.grant else 0)) ∧
  ∀ (s : State) (n : Nat) (w : RoomWrite), s.slotOpen = true →
    (asRoom n = none → exec (.writeRoom n w) s = .next (s.answered (.writeRoom n w) .range .none)) ∧
    (∀ r, asRoom n = some r →
      (∀ e, s.roomChecks r w = .error e →
        exec (.writeRoom n w) s = .next (s.answered (.writeRoom n w) e .none)) ∧
      (∀ c, s.roomChecks r w = .ok c → (s.room r).cfg.enabled = false → c.enabled = false →
        Becomes (.writeRoom n w) s ((s.modifyRoom r fun x => { x with cfg := c }).answered (.writeRoom n w)
          (okStatus (clampRoom w ≠ w)) (.room r c (s.membership r)))) ∧
      (roomRecOf (clampRoom w) = none → s.roomChecks r w = .error .range) ∧
      ∀ c, roomRecOf (clampRoom w) = some c →
        (¬ (c.vminUn ≤ c.vminOcc ∧ c.vminOcc ≤ c.vmax) → s.roomChecks r w = .error .range) ∧
        (c.vminUn ≤ c.vminOcc ∧ c.vminOcc ≤ c.vmax → c.enabled = true →
          (∃ q, q ≠ r ∧ (s.room q).cfg.enabled = true ∧ (s.room q).cfg.station = c.station) →
          s.roomChecks r w = .error .duplicateAddress) ∧
        (c.vminUn ≤ c.vminOcc ∧ c.vminOcc ≤ c.vmax → c.enabled = false → (s.groupOf r).isSome = true →
          s.roomChecks r w = .error .range))

/-- WRITE_PROFILE, WRITE_WING, WRITE_AIR_GROUP and WRITE_CALIBRATION store their clamped records, or are refused
RANGE; a raised changeover gap is checked and applied within one store operation (R1, R2, R11, R14, R17, R40, R113).
That WRITE_AIR_GROUP answers with the member list, that an accepted WRITE_CALIBRATION answers with the calibration, and
that a refusal for the gap carries the first offending pair, are the model's (assumptions 57, 66 and 17). -/
def Obligations.RecordsWritten : Prop :=
  ∀ s : State, s.slotOpen = true →
    (∀ (n : Nat) (w : ProfileWrite),
      (asIndex 8 n = none ∨ profileOf (clampProfile w) = none →
        exec (.writeProfile n w) s = .next (s.answered (.writeProfile n w) .range .none)) ∧
      ∀ k p, asIndex 8 n = some k → profileOf (clampProfile w) = some p →
        Becomes (.writeProfile n w) s (({ s with profiles := s.profiles.set k p } : State).answered (.writeProfile n w)
          (okStatus (clampProfile w ≠ w)) (.profile k p.shown))) ∧
    (∀ (gap : Nat) (b : Band) (silence : Nat),
      let cmd := Instr.writeWing gap b silence
      let fitted := roundUp5 (min 30 gap)
      let stored := ({ s with cal := { s.cal with gap := fitted }, setback := clampBand b,
                              port := { s.port with silenceTime := min 60 silence } } : State).answered cmd
        (okStatus (fitted ≠ gap || clampBand b ≠ b || min 60 silence ≠ silence))
        (.wing fitted (clampBand b) (min 60 silence))
      (bandOrdered (clampBand b) = false → exec cmd s = .next (s.answered cmd .range .none)) ∧
      (bandOrdered (clampBand b) = true → fitted ≤ s.cal.gap → Becomes cmd s stored) ∧
      (bandOrdered (clampBand b) = true → s.cal.gap < fitted → s.ready →
        (s.gapCheck s.instant fitted = none → Performed cmd s (Follows stored)) ∧
        ∀ x, s.gapCheck s.instant fitted = some x → Performed cmd s (Follows (s.answered cmd .conflict x)))) ∧
    (∀ (n fallback period : Nat) (mask : TriggerMask),
      let cmd := Instr.writeAirGroup n fallback period mask
      (asIndex 4 n = none → exec cmd s = .next (s.answered cmd .range .none)) ∧
      ∀ g, asIndex 4 n = some g → exec cmd s =
        .next ((s.modifyAirGroup g fun a => { a with fallback := min 20000 fallback, period := min 600 period,
                                                     mask := mask, timer := 0 }).answered cmd
          (okStatus (20000 < fallback || 600 < period))
          (.airGroup g (min 20000 fallback) (min 600 period) mask (s.airMembers g)))) ∧
    ∀ (n : Nat) (c : Calibration),
      let cmd := Instr.writeCalibration n c
      (asRoom n = none → exec cmd s = .next (s.answered cmd .range .none)) ∧
      ∀ r, asRoom n = some r → exec cmd s =
        .next ((s.modifyOce r fun o => { o with cal := clampCalibration c }).answered cmd
          (okStatus (clampCalibration c ≠ c)) (.calibration r (clampCalibration c)))

/-- WRITE_PARTITION and DELETE_PARTITION, as store operations: a MERGED group is split first, then its record is
replaced or removed; a refused one changes nothing. A split divides the group tally by floor area, the leader taking the
rest, brings each share within its member's limit, or to 0 where door counting is off, and hands on presence and timers.
A member keeps service state and governing entry; one whose governing entry differs from the group's loses trim and
overrides; all but the governing member lose extend result and pending request. The second from which a SAFE member is
frozen, and what a split leaves of extension requests and answers, are the model's, assumptions 14 and 39 (R2, R15, R16,
R103, R104). -/
def Obligations.PartitionWritten : Prop :=
  (∀ (s : State) (n : Nat), s.ready → asIndex 8 n = none →
    (∀ rooms, Performed (.writePartition n rooms) s (Follows (s.answered (.writePartition n rooms) .range .none))) ∧
    Performed (.deletePartition n) s (Follows (s.answered (.deletePartition n) .range .none))) ∧
  (∀ (s : State) (n : Nat) (g : GroupId), s.ready → asIndex 8 n = some g →
    let written (c : Instr) (x : Option PartGroup) (t : State) : Prop :=
      t.answeredWith c .ok (.partition g x) ∧ t.groups.get g = x ∧ (∀ k, k ≠ g → t.groups.get k = s.groups.get k) ∧
      Settles (s.answered c .ok (.partition g x)) t ∧
      Follows (({ s.splitIfMerged g with groups := s.groups.set g x } : State).answered c .ok (.partition g x)) t ∧
      ((∀ p, s.groups.get g = some p → p.state ≠ .merged) →
        Follows (({ s with groups := s.groups.set g x } : State).answered c .ok (.partition g x)) t) ∧
      ∀ p, s.groups.get g = some p → p.state = .merged → ∀ m ∈ p.members,
        (t.room m).oce.est = s.splitEstimate p m ∧
          (t.room m).ctx = (s.room m).ctx.afterSplit m (s.governor p) (s.room (s.governor p)).ctx.gov
    (∀ (rooms : List Nat) (rs : List RoomId), s.partitionChecks g rooms = .ok rs →
      Performed (.writePartition n rooms) s (written (.writePartition n rooms) (newGroup rs))) ∧
    (∀ (rooms : List Nat) (e : Status), s.partitionChecks g rooms = .error e →
      Performed (.writePartition n rooms) s (Follows (s.answered (.writePartition n rooms) e .none))) ∧
    (s.groups.get g = none →
      Performed (.deletePartition n) s (Follows (s.answered (.deletePartition n) .notFound .none))) ∧
    ∀ p, s.groups.get g = some p →
      (s.groupBooked g = true →
        Performed (.deletePartition n) s (Follows (s.answered (.deletePartition n) .groupBooked .none))) ∧
      (s.groupBooked g = false → p.members.any s.roomBooked = true →
        Performed (.deletePartition n) s (Follows (s.answered (.deletePartition n) .roomBooked .none))) ∧
      (s.groupBooked g = false → p.members.any s.roomBooked = false →
        Performed (.deletePartition n) s (written (.deletePartition n) none))) ∧
  ∀ (s : State) (g : GroupId) (p : PartGroup) (dest : GroupState), s.groups.get g = some p →
    let t := s.split g p dest
    let total := p.shared.tally
    let areas := (p.members.map fun m => (s.room m).cfg.area).sum
    let part (m : RoomId) : Nat := total * (s.room m).cfg.area / areas
    t.groups.get g = some { p with state := dest, shared := .reset } ∧
    (∀ k, k ≠ g → t.groups.get k = s.groups.get k) ∧ (∀ q, q ∉ p.members → t.room q = s.room q) ∧
    ∀ m ∈ p.members,
      let x := s.room m
      let share := if m = p.leader then total - (p.others.map fun o => part o.1).sum else part m
      let formerGov := (s.room (s.governor p)).ctx.gov
      t.room m = { x with oce := { x.oce with est := (t.room m).oce.est }, ctx := (t.room m).ctx } ∧
      (t.room m).oce.est =
        { p.shared with
          tally := if x.cfg.doorCounting then min (x.cfg.seats * 5 / 4) share else 0
          frozenAt := if x.ctx.safe then some (p.shared.frozenAt.getD s.oceNow) else none } ∧
      (t.room m).ctx.service = x.ctx.service ∧ (t.room m).ctx.gov = x.ctx.gov ∧
      (x.ctx.gov = formerGov → (t.room m).ctx.trim = x.ctx.trim ∧ (t.room m).ctx.overrides = x.ctx.overrides) ∧
      (x.ctx.gov ≠ formerGov → (t.room m).ctx.trim = 0 ∧ (t.room m).ctx.overrides = .fill 2 .none) ∧
      (m = s.governor p → (t.room m).ctx.extResult = x.ctx.extResult ∧
        (t.room m).ctx.extPending = x.ctx.extPending ∧ (t.room m).ctx.requests = x.ctx.requests) ∧
      (m ≠ s.governor p → (t.room m).ctx.extResult = .none ∧ (t.room m).ctx.extPending = false ∧
        ∀ q ∈ (t.room m).ctx.requests, q ∈ x.ctx.requests ∧ q.isNote = true)

/-! ## The Booking Store -/

/-- A store command that arrives is taken at once where the arbiter is free, and judges by the clock as it then
stands; behind a running operation it waits. Its effect and response come when its operation completes (R42, R43). -/
def Obligations.StoreCommandsTaken : Prop :=
  ∀ (s : State) (c : Instr), s.slotOpen = true → isStoreCommand c = true →
    (s.arbiterFree = true → exec c s =
      .next { s.hostHeard.takeCommand c with
                store := { s.store with running := some { op := .host (.command c), at_ := s.instant },
                                        hostWait := none } }) ∧
    (s.store.running.isSome = true → exec c s =
      .next { s.hostHeard.takeCommand c with store := { s.store with hostWait := some (.command c) } })

/-- CREATE_BOOKING that passes its checks: the record takes the lowest free slot with that slot's generation, ACTIVE
with counts 0; today's occurrence, if it is not over, enters the agenda of every room the record claims (R19, R24,
R25). -/
def Obligations.BookingCreated : Prop :=
  ∀ (s : State) (f : BookingFields) (b : Record) (clamped : Bool) (k : SlotId),
    s.ready → recordOf f = some (b, clamped) → inPast s.instant b b.stop = false → s.targetReady b.target = true →
    s.lowestFree = some k → s.crowded s.instant { self := none, record := b, ext := 0 } = none →
    let h : Handle := { slot := k.val, gen := (s.store.slots.get k).gen }
    Performed (.createBooking f) s fun t =>
      t.answeredWith (.createBooking f) (s.bookedStatus b clamped) (.booking h b) ∧
      t.store.slots = s.store.slots.set k { gen := h.gen, record := some b } ∧
      b.state = .active ∧ b.noShows = 0 ∧ b.releases = 0 ∧
      Settles ((s.setSlot k { gen := h.gen, record := some b }).answered (.createBooking f) (s.bookedStatus b clamped)
        (.booking h b)) t ∧
      ((s.cal.valid && s.occurs b s.today && s.cal.minute < b.stop) = false →
        ∀ r, (t.room r).agenda = (s.room r).agenda) ∧
      ((s.cal.valid && s.occurs b s.today && s.cal.minute < b.stop) = true →
        ∀ r ∈ s.claims b.target, ∃ e ∈ (t.room r).agenda, e.handle = h ∧ e.start = b.start ∧ e.curEnd = b.stop ∧
          e.ext = 0 ∧ e.cls = b.cls ∧ e.attendance = b.attendance)

/-- AMEND_BOOKING that passes its checks: every field but handle, state, reason and counts is replaced, and while the
clock is VALID today's agendas follow R27's table (R26, R27). A live entry takes the new end plus its extension total;
that a terminal entry of the same handle keeps its end is the model's reading of R27 beside R56 (assumption 15). Where no
entry is live, a WAITING one, or none at all, is placed again in every room the record now claims; that a WAITING one
decides over a terminal one in another member is the model's choice (assumption 51). A SUSPENDED record touches no
agenda. -/
def Obligations.BookingAmended : Prop :=
  ∀ (s : State) (h : Handle) (f : BookingFields) (k : SlotId) (old fields : Record) (clamped : Bool),
    s.ready → s.resolve h = .live k old → recordOf f = some (fields, clamped) →
    let b := { fields with state := old.state, noShows := old.noShows, releases := old.releases }
    let live := s.liveEntry s.instant h
    let ext := if s.cal.valid then s.extOf h else 0
    inPast s.instant b (if live then b.stop + ext else b.stop) = false → s.targetReady b.target = true →
    liveTest s.instant live ext old b = none →
    (old.state = .active → s.crowded s.instant { self := some h, record := b, ext := ext } = none) →
    Performed (.amendBooking h f) s fun t =>
      t.answeredWith (.amendBooking h f) (s.bookedStatus b clamped) (.booking h b) ∧
      t.store.slots = s.store.slots.set k { gen := h.gen, record := some b } ∧
      Settles ((s.setSlot k { gen := h.gen, record := some b }).answered (.amendBooking h f)
        (s.bookedStatus b clamped) (.booking h b)) t ∧
      (old.state ≠ .active ∨ s.cal.valid = false → ∀ r, (t.room r).agenda = (s.room r).agenda) ∧
      (old.state = .active → s.cal.valid = true →
        let placed := (∃ q, ∃ e ∈ (s.room q).agenda, e.handle = h ∧ e.state = .waiting) ∨
          ∀ q, ∀ e ∈ (s.room q).agenda, e.handle ≠ h
        (live = true → ∀ r, (t.room r).agenda.map (fun e => (e.handle, e.start, e.curEnd, e.ext, e.attendance)) =
          (s.room r).agenda.map fun e =>
            if e.handle = h ∧ e.state.terminal = false then (e.handle, e.start, b.stop + e.ext, e.ext, b.attendance)
            else (e.handle, e.start, e.curEnd, e.ext, e.attendance)) ∧
        (live = false → placed →
          (∀ r, (t.keys r).filter (fun e => e.1 != h) = (s.keys r).filter fun e => e.1 != h) ∧
          (∀ r, (∃ e ∈ (t.room r).agenda, e.handle = h) ↔
            s.occurs b s.today = true ∧ s.cal.minute < b.stop ∧ r ∈ s.claims b.target) ∧
          ∀ r, ∀ e ∈ (t.room r).agenda, e.handle = h → e.start = b.start ∧ e.curEnd = b.stop ∧ e.ext = 0 ∧
            e.cls = b.cls ∧ e.attendance = b.attendance) ∧
        (live = false → ¬ placed → ∀ r, (t.room r).agenda = (s.room r).agenda))

/-- CANCEL_BOOKING retires the record at once: its slot is free with the generation advanced, from 15 to 0, and its
entries leave every agenda; the other entries stay where they are (R19, R28). -/
def Obligations.BookingCancelled : Prop :=
  ∀ (s : State) (h : Handle) (k : SlotId) (b : Record), s.ready → s.resolve h = .live k b →
    Performed (.cancelBooking h) s fun t =>
      t.answeredWith (.cancelBooking h) .ok (.handle h) ∧
      t.store.slots = s.store.slots.set k { gen := (h.gen + 1) % 16, record := none } ∧
      Settles ((s.freeSlot k).answered (.cancelBooking h) .ok (.handle h)) t ∧
      t.port.bookingChanges = s.port.bookingChanges ∧
      ∀ r, t.keys r = (s.keys r).filter fun e => e.1 != h

/-- SUSPEND_BOOKING makes a record SUSPENDED with reason HOST, with its counts kept, and takes its entries from every
agenda; RESUME_BOOKING leaves an ACTIVE record as it is, and makes a SUSPENDED one that passes its checks ACTIVE with
the consecutive no-show count 0 (R29, R30). That their answers carry no data is the model's choice (assumption 40). -/
def Obligations.BookingSuspendedAndResumed : Prop :=
  ∀ (s : State) (h : Handle) (k : SlotId) (old : Record), s.ready → s.resolve h = .live k old →
    (Performed (.suspendBooking h) s fun t =>
      t.answeredWith (.suspendBooking h) .ok .none ∧
      t.store.slots = s.store.slots.set k { gen := h.gen, record := some { old with state := .suspended .host } } ∧
      Settles ((s.setSlot k { gen := h.gen, record := some { old with state := .suspended .host } }).answered
        (.suspendBooking h) .ok .none) t ∧
      t.port.bookingChanges = s.port.bookingChanges ∧
      ∀ r, t.keys r = (s.keys r).filter fun e => e.1 != h) ∧
    (old.state = .active → Performed (.resumeBooking h) s (Follows (s.answered (.resumeBooking h) .ok .none))) ∧
    (old.state ≠ .active →
      let b := { old with state := .active, noShows := 0 }
      inPast s.instant b b.stop = false → s.crowded s.instant { self := some h, record := b, ext := 0 } = none →
      Performed (.resumeBooking h) s fun t =>
        t.answeredWith (.resumeBooking h) (s.bookedStatus b false) .none ∧
        t.store.slots = s.store.slots.set k { gen := h.gen, record := some b } ∧
        Settles ((s.setSlot k { gen := h.gen, record := some b }).answered (.resumeBooking h)
          (s.bookedStatus b false) .none) t ∧
        ((s.cal.valid && s.occurs b s.today && s.cal.minute < b.stop) = true →
          ∀ r ∈ s.claims b.target, ∃ e ∈ (t.room r).agenda, e.handle = h ∧ e.start = b.start ∧ e.curEnd = b.stop))

/-- The reads of the store, as store operations: each answers from the store and the agendas as they stand when it is
taken, and changes nothing of them (R31, R32, R33, R34, R42). A list gives the first 8 records of its room above the
cursor, with MORE for any left; a search gives the first 4 targets that qualify, by slack, rooms before groups, and
number. -/
def Obligations.StoreReads : Prop :=
  (∀ s : State, s.ready →
    (∀ h k b, s.resolve h = .live k b →
      Performed (.readBooking h) s (Follows (s.answered (.readBooking h) .ok (.record b)))) ∧
    (∀ n cursor, Performed (.listRoomBookings n cursor) s
      (Follows (s.answered (.listRoomBookings n cursor) (s.listRoomBookings n cursor).1
        (s.listRoomBookings n cursor).2))) ∧
    (∀ n first r, asRoom n = some r → first ≤ 15 →
      Performed (.readAgenda n first) s
        (Follows (s.answered (.readAgenda n first) .ok
          (.agenda (s.room r).agenda.length (((s.room r).agenda.drop first).take 4))))) ∧
    (∀ n first, asRoom n = none ∨ 15 < first →
      Performed (.readAgenda n first) s (Follows (s.answered (.readAgenda n first) .range .none))) ∧
    ∀ w d a b n g, Performed (.findFreeRoom w d a b n g) s
      (Follows (s.answered (.findFreeRoom w d a b n g) (s.findFreeRoom s.instant w d a b n g).1
        (s.findFreeRoom s.instant w d a b n g).2))) ∧
  (∀ (s : State) (n : Nat) (cursor : Option Nat),
    (asRoom n = none ∨ (∃ c, cursor = some c ∧ 511 < c) → s.listRoomBookings n cursor = (.range, .none)) ∧
    ∀ r, asRoom n = some r → (∀ c, cursor = some c → c ≤ 511) →
      let listed (h : Handle) : Prop := (s.room r).cfg.enabled = true ∧ (∀ c, cursor = some c → c < h.slot) ∧
        ∃ b, s.recordAt h = some b ∧ r ∈ s.claims b.target
      ∃ hs more, s.listRoomBookings n cursor = (.ok, .bookingList hs more) ∧ hs.length ≤ 8 ∧
        hs.Pairwise (fun a b => a.slot < b.slot) ∧ (∀ h ∈ hs, listed h) ∧
        (∀ h, listed h → h ∈ hs ∨ (hs.length = 8 ∧ ∀ x ∈ hs, x.slot < h.slot)) ∧
        (more = true ↔ ∃ h, listed h ∧ h ∉ hs)) ∧
  ∀ (s : State) (w d a b n : Nat) (g : Bool),
    let find := s.findFreeRoom s.instant w d a b n g
    (adjustTimes a b n = none ∨ ¬ (w ≤ 63 ∧ d ≤ 6) → find = (.range, .none)) ∧
    ∀ x, adjustTimes a b n = some x → w ≤ 63 → d ≤ 6 →
      ((⟨w, d⟩ : Date) ∈ s.cal.closures → find = (.closedDay, .candidates [])) ∧
      ((⟨w, d⟩ : Date) ∉ s.cal.closures →
        let single (y : Target) : Record :=
          { target := y, pattern := .single, weekday := d, firstWeek := w, lastWeek := w, skips := [], start := x.start,
            stop := x.stop, cls := 1, attendance := x.attendance, state := .active, noShows := 0, releases := 0 }
        let considered (y : Target) : Prop := match y with
          | .room r => (s.room r).cfg.enabled = true
          | .group k => g = true ∧ (s.groups.get k).isSome = true
        let qualifies (y : Target) : Prop := considered y ∧ x.attendance ≤ s.seatCapacity y ∧
          s.crowded s.instant { self := none, record := single y, ext := 0 } = none
        let slack (y : Target) : Nat := s.seatCapacity y - x.attendance
        let place (y : Target) : Nat := match y with
          | .room r => r.val
          | .group k => 48 + k.val
        let before (y z : Target) : Prop := slack y < slack z ∨ (slack y = slack z ∧ place y < place z)
        ∃ l : List Candidate, find = (okStatus x.clamped, .candidates l) ∧ l.length ≤ 4 ∧
          (∀ c ∈ l, qualifies c.target ∧ c.slack = slack c.target) ∧
          l.Pairwise (fun c e => before c.target e.target) ∧
          ∀ y, qualifies y → (∃ c ∈ l, c.target = y) ∨ (l.length = 4 ∧ ∀ c ∈ l, before c.target y))

/-- The refusals of the booking commands, each the first check that fails; a refused command changes nothing (R19,
R24, R25, R26, R30). The extension total that the live test of an amendment adds is a live entry's where there is one
(assumption 15), and that CONFLICT and DAY_FULL carry data is the model's reading (assumption 17). -/
def Obligations.StoreRefusals : Prop :=
  ∀ s : State, s.ready →
    let refused (c : Instr) (e : Status) (x : Result) : Prop := Performed c s (Follows (s.answered c e x))
    (∀ h e, s.resolve h = .refused e →
      refused (.cancelBooking h) e .none ∧ refused (.suspendBooking h) e .none ∧
      refused (.resumeBooking h) e .none ∧ refused (.readBooking h) e .none ∧
      ∀ f, refused (.amendBooking h f) e .none) ∧
    (∀ f, recordOf f = none → refused (.createBooking f) .range .none) ∧
    (∀ f b cl, recordOf f = some (b, cl) →
      (inPast s.instant b b.stop = true → refused (.createBooking f) .past .none) ∧
      (inPast s.instant b b.stop = false → s.targetReady b.target = false →
        refused (.createBooking f) .notEnabled .none) ∧
      (inPast s.instant b b.stop = false → s.targetReady b.target = true → s.lowestFree = none →
        refused (.createBooking f) .full .none) ∧
      (inPast s.instant b b.stop = false → s.targetReady b.target = true → s.lowestFree.isSome = true →
        (∀ h, s.collision s.instant { self := none, record := b, ext := 0 } = some h →
          refused (.createBooking f) .conflict (.handle h)) ∧
        (s.collision s.instant { self := none, record := b, ext := 0 } = none →
          ∀ d r, s.dayFull s.instant { self := none, record := b, ext := 0 } = some (d, r) →
            refused (.createBooking f) .dayFull (.dayFull d r)))) ∧
    ∀ h k old, s.resolve h = .live k old →
      (∀ f, recordOf f = none → refused (.amendBooking h f) .range .none) ∧
      (∀ f fields cl, recordOf f = some (fields, cl) →
        let amend := Instr.amendBooking h f
        let b := { fields with state := old.state, noShows := old.noShows, releases := old.releases }
        let live := s.liveEntry s.instant h
        let ext := if s.cal.valid then s.extOf h else 0
        let past := inPast s.instant b (if live then b.stop + ext else b.stop)
        let endOnly := b = { old with stop := b.stop, attendance := b.attendance }
        let p : Proposal := { self := some h, record := b, ext := ext }
        (past = true → refused amend .past .none) ∧
        (past = false → s.targetReady b.target = false → refused amend .notEnabled .none) ∧
        (past = false → s.targetReady b.target = true →
          (live = true →
            (¬ endOnly → refused amend .live .none) ∧
            (endOnly → b.stop + ext ≤ s.cal.minute → refused amend .past .none) ∧
            (endOnly → s.cal.minute < b.stop + ext → 1440 < b.stop + ext → refused amend .range .none)) ∧
          ((live = true → endOnly ∧ s.cal.minute < b.stop + ext ∧ b.stop + ext ≤ 1440) → old.state = .active →
            (∀ g, s.collision s.instant p = some g → refused amend .conflict (.handle g)) ∧
            (s.collision s.instant p = none → ∀ d r, s.dayFull s.instant p = some (d, r) →
              refused amend .dayFull (.dayFull d r))))) ∧
      (old.state ≠ .active →
        let b := { old with state := .active, noShows := 0 }
        let p : Proposal := { self := some h, record := b, ext := 0 }
        (inPast s.instant b b.stop = true → refused (.resumeBooking h) .past .none) ∧
        (inPast s.instant b b.stop = false →
          (∀ g, s.collision s.instant p = some g → refused (.resumeBooking h) .conflict (.handle g)) ∧
          (s.collision s.instant p = none → ∀ d r, s.dayFull s.instant p = some (d, r) →
            refused (.resumeBooking h) .dayFull (.dayFull d r))))

/-- A note whose handle names a free slot, a slot of another generation, or a SUSPENDED record is discarded when
served: no record, agenda, flag, attention or slot changes, and no room's context but for the request that the arbiter
takes next. Outputs that follow their inputs stay as they are (R37). -/
def Obligations.StaleNoteDiscarded : Prop :=
  ∀ (s : State) (r : RoomId) (kind : NoteKind) (h : Handle) (now : Instant),
    s.performing (.room r (.note kind h)) now →
    ((∃ e, s.resolve h = .refused e) ∨ ∃ k b, s.resolve h = .live k b ∧ b.state ≠ .active) →
    ∃ t, exec (.noteServed r) s = .next t ∧ Follows s t ∧ t.port = s.port ∧
      (∀ q, s.requestRoom ≠ some q → (t.room q).ctx = (s.room q).ctx) ∧
      (∀ g, (s.airs.get g).pending = false → t.airs.get g = s.airs.get g) ∧
      (OutputsFollow s → ∀ q, (t.room q).air = (s.room q).air ∧ (t.room q).light = (s.room q).light) ∧
      (s.aim = s → ∀ q, (t.room q).blinds = (s.room q).blinds) ∧
      (s.requestRoom = none → s.store.steps = [] → s.store.hostWait = none → t.store = s.idle.store)

/-- A note served on a live ACTIVE record: CONFIRM sets the consecutive no-show count to 0; RELEASE adds 1 to both
counts, stopping at 15 and 255, and reclaims a WEEKLY record whose count has reached a reclaim count that is not 0
(R35, R36). -/
def Obligations.NoteServedOnRecord : Prop :=
  ∀ (s : State) (r : RoomId) (h : Handle) (now : Instant) (k : SlotId) (b : Record),
    s.resolve h = .live k b → b.state = .active →
    (s.performing (.room r (.note .confirm h)) now →
      ∃ t, exec (.noteServed r) s = .next t ∧
        Follows (s.setSlot k { gen := h.gen, record := some { b with noShows := 0 } }) t) ∧
    (s.performing (.room r (.note .release h)) now →
      let n := min 15 (b.noShows + 1)
      let counted := { b with noShows := n, releases := min 255 (b.releases + 1) }
      let limit := (s.profiles.get b.cls).reclaim
      (¬ (b.pattern = .weekly ∧ limit ≠ 0 ∧ limit ≤ n) →
        ∃ t, exec (.noteServed r) s = .next t ∧ Follows (s.setSlot k { gen := h.gen, record := some counted }) t) ∧
      (b.pattern = .weekly ∧ limit ≠ 0 ∧ limit ≤ n →
        ∃ t, exec (.noteServed r) s = .next t ∧
          t.store.slots =
            s.store.slots.set k { gen := h.gen, record := some { counted with state := .suspended .reclaimed } } ∧
          { slot := k, gen := h.gen, reason := .reclaimed } ∈ t.port.bookingChanges ∧
          t.flagged .bookingsChanged = true ∧ t.port.slot = s.port.slot ∧
          ∀ q, t.keys q = (s.keys q).filter fun e => e.1 != h))

/-- An extension asked for at the panel, and one served. An EXTEND press with effect raises one request of the room, or
of a MERGED member's governing member, in IN_USE or VACATED, and is refused at once elsewhere; that a MERGED member
under SAFE or HOLD is heard is the model's reading (assumption 47). A grant adds the step to current end and extension
total of every entry of the handle that is not terminal (assumption 15), and to no other; a refusal changes no agenda.
The panel's request is over either way, with its result; the host's is answered (R38, R39, R78, R79, R80, R92, R102).
That a slot above 511 is judged after the room is the model's order (assumption 53); the answer for a SUSPENDED record,
and the moment the step and the maximum are read, are its readings (assumptions 16 and 52). That an answer is taken
where the handle governs again is its reading of R80 (assumption 72). -/
def Obligations.ExtensionServed : Prop :=
  (∀ (s : State) (r : RoomId),
    let q := s.govRoom r
    let c := (s.room q).ctx
    let t := s.panelEvent r .extend
    let heard := (∃ svc, s.effective r = .service svc ∧ svc ≠ .unconfigured) ∨
      ((s.mergedOf r).isSome = true ∧ (s.effective r = .safe ∨ s.effective r = .hold))
    let extendable := c.service = .inUse ∨ c.service = .vacated
    (¬ heard → t = s) ∧
    (heard → ¬ extendable → t = s.modifyCtx q fun x => { x with extResult := .refused }) ∧
    (heard → extendable → c.extPending = true → t = s) ∧
    (heard → extendable → c.extPending = false → ∀ h, c.gov = some h →
      t = s.modifyCtx q fun x =>
        { x with extPending := true, extResult := .none,
                 requests := x.requests ++ [.extend h (s.govProfile r).extStep] })) ∧
  ∀ (s : State) (h : Handle) (step : Nat),
    let open_ (q : RoomId) : Prop := ∃ e ∈ (s.room q).agenda, e.handle = h ∧ e.state.terminal = false
    let runs (q : RoomId) : Prop :=
      (s.room q).cfg.enabled = true ∧ s.closed q = false ∧ (s.room q).ctx.gov = some h ∧
        ((stateIn (s.room q).agenda h = some .started ∧ ((s.room q).ctx.service = .inUse ∨
            (s.room q).ctx.service = .vacated ∨ (s.room q).ctx.service = .awaiting)) ∨
          (stateIn (s.room q).agenda h = some .confirmed ∧
            ((s.room q).ctx.service = .inUse ∨ (s.room q).ctx.service = .vacated)))
    let moved (t : State) : Prop := ∀ q, t.keys q = (s.room q).agenda.map fun e =>
      if e.handle = h ∧ e.state.terminal = false then (e.handle, e.start, e.curEnd + step, e.ext + step)
      else (e.handle, e.start, e.curEnd, e.ext)
    (∀ r now, s.performing (.room r (.extend h step)) now →
      (∀ stop ext, s.extendChecks now r h step = .granted stop ext →
        ∃ t, exec (.extensionRequestServed r) s = .next t ∧ moved t ∧ (t.room r).ctx.extPending = false ∧
          t.store.slots = s.store.slots ∧ t.port.slot = s.port.slot ∧
          ((∀ q, open_ q → runs q) → (t.room r).ctx.extResult = .granted)) ∧
      (∀ e x, s.extendChecks now r h step = .refused e x →
        ∃ t, exec (.extensionRequestServed r) s = .next t ∧
          Follows (s.modifyCtx r fun c =>
            { c with extPending := false, extResult := if c.gov = some h then .refused else c.extResult }) t)) ∧
    (∀ n r, s.ready → asRoom n = some r → (s.room r).cfg.enabled = true →
      s.base r = .inUse ∨ s.base r = .vacated → s.govHandle r = some h → (s.govProfile r).extStep = step →
      (∀ stop ext, s.extendChecks s.instant (s.govRoom r) h step = .granted stop ext →
        Performed (.extendOccurrence n h) s fun t =>
          t.answeredWith (.extendOccurrence n h) .ok (.extended h stop ext) ∧ moved t ∧
          Settles (s.answered (.extendOccurrence n h) .ok (.extended h stop ext)) t) ∧
      (∀ e x, s.extendChecks s.instant (s.govRoom r) h step = .refused e x →
        Performed (.extendOccurrence n h) s (Follows (s.answered (.extendOccurrence n h) e x)))) ∧
    ∀ n, s.slotOpen = true →
      (asRoom n = none →
        exec (.extendOccurrence n h) s = .next (s.answered (.extendOccurrence n h) .range .none)) ∧
      ∀ r, asRoom n = some r →
        ((s.room r).cfg.enabled = false →
          exec (.extendOccurrence n h) s = .next (s.answered (.extendOccurrence n h) .notEnabled .none)) ∧
        ((s.room r).cfg.enabled = true → 512 ≤ h.slot →
          exec (.extendOccurrence n h) s = .next (s.answered (.extendOccurrence n h) .range .none)) ∧
        ((s.room r).cfg.enabled = true → h.slot < 512 →
          ¬ ((s.base r = .inUse ∨ s.base r = .vacated) ∧ s.govHandle r = some h) →
          exec (.extendOccurrence n h) s = .next (s.answered (.extendOccurrence n h) .notFound .none))

/-! ## Calendar steps -/

/-- RETIREMENT_PASS: every record whose last date lies before the date is retired: its slot enters the booking change
set and is free with its generation advanced, and its entries leave every agenda (R19, R41). -/
def Obligations.RetirementPassRetires : Prop :=
  ∀ (s : State) (now : Instant), s.performing (.step .retire) now →
    ∃ t, exec .retirementPass s = .next t ∧ t.store.slots = s.slotsAfter now.date ∧
      Settles { s.idle with store := { s.idle.store with slots := s.slotsAfter now.date } } t ∧
      t.port.slot = s.port.slot ∧
      (∀ p ∈ s.toRetire now.date,
        (∀ r, ∀ e ∈ t.keys r, e.1 ≠ p.2) ∧
        { slot := p.1, gen := p.2.gen, reason := .retired } ∈ t.port.bookingChanges) ∧
      (s.toRetire now.date ≠ [] → t.flagged .bookingsChanged = true)

/-- AGENDA_BUILD: the room's agenda then holds exactly the ACTIVE records that occur today and claim it; the room
enters the room change set; the last build clears the rollover flag, and raises DAY_ROLLOVER where a rollover began
the run (R61, R62, R65). -/
def Obligations.AgendaBuilt : Prop :=
  ∀ (s : State) (r : RoomId) (now : Instant), s.performing (.step (.build r)) now →
    ∃ t, exec (.agendaBuild r) s = .next t ∧
      (∀ h, (∃ e ∈ (t.room r).agenda, e.handle = h) ↔
        now.valid = true ∧ (s.room r).cfg.enabled = true ∧
          ∃ b, (h, b) ∈ s.activeRecords ∧ s.occurs b now.date = true ∧ r ∈ s.claims b.target) ∧
      (∀ q, q ≠ r → t.keys q = s.keys q) ∧ t.port.roomChanges.get r = true ∧ t.flagged .roomsChanged = true ∧
      t.store.slots = s.store.slots ∧ t.port.slot = s.port.slot ∧
      (s.store.steps.any CalStep.isBuild = true →
        t.cal.rolloverFlag = s.cal.rolloverFlag ∧ t.store.rebuild = s.store.rebuild) ∧
      (s.store.steps.any CalStep.isBuild = false →
        t.cal.rolloverFlag = false ∧ t.store.rebuild = .none ∧
        (s.store.rebuild = .rollover → t.flagged .dayRollover = true))

/-- How a room's service state moves. It is derived from agenda and presence alone by R69's table; an agenda report moves
it by the first line of R70 that applies, a presence change by R73, and a minute event at its overrun limit by R74. A
change of governing entry, and a service state that becomes SETBACK, clear trim and overrides, and the first clears the
extend result too; in a MERGED group the group's own decide, for every member (R68, R69, R70, R72, R73, R74, R76, R80,
R84, R101). The rest is the model's: line 4 is taken for the governing entry itself where lines 1 to 3 do not apply
(assumption 8); an entry that is ended without an end-now starts its overrun at its current end (assumption 46); the
clearings compare the governing entry and the service state at each move, a MERGED group's for every member (assumption
30); a MERGED member's overrun limit is its own profile's (assumption 59); a release with presence confirmed leaves no
governing entry (assumption 50); and a confirm asked for waits at the calendar (assumption 22). -/
def Obligations.ServiceDerived : Prop :=
  (∀ (s : State) (r : RoomId),
    let x := ((s.derive r).room r).ctx
    ((s.room r).cfg.enabled = false → x.service = .unconfigured ∧ x.gov = none) ∧
    ((s.room r).cfg.enabled = true → s.closed r = true → x.service = .setback ∧ x.gov = none) ∧
    ((s.room r).cfg.enabled = true → s.closed r = false →
      (∀ e, activeEntry (s.room r).agenda = some e → x.gov = some e.handle ∧
        (e.state = .confirmed → x.service = if s.occupied r then .inUse else .vacated) ∧
        (e.state = .started → x.service = if s.occupied r then .inUse else .awaiting) ∧
        (e.state = .started → s.occupied r = true → (s.room r).ctx.outConfirm = none →
          x.outConfirm = some e.handle ∧ (s.derive r).cal.work = s.cal.work ++ [.confirm r e.handle])) ∧
      (activeEntry (s.room r).agenda = none →
        (∀ e, firstPrecond (s.room r).agenda = some e → x.service = .precondition ∧ x.gov = some e.handle) ∧
        (firstPrecond (s.room r).agenda = none → x.gov = none ∧
          x.service = if s.occupied r then .adHoc else .setback)))) ∧
  (∀ (s : State) (r : RoomId) (early : Option Nat),
    let c := (s.room r).ctx
    let t := s.report early r
    let x := (t.room r).ctx
    let g := s.ownEntry r
    let inClass := c.service = .inUse ∨ c.service = .vacated
    let precondOr (svc : Service) : Prop := match firstPrecond (s.room r).agenda with
      | some e => x.service = .precondition ∧ x.gov = some e.handle
      | none => x.service = svc ∧ x.gov = none
    let governed (e : Entry) (unoccupied : Service) : Prop :=
      x.gov = some e.handle ∧ x.service = if s.occupied r then .inUse else unoccupied
    let line1 := ∃ e, g = some e ∧ e.state = .started ∧ (inClass ∨ c.service = .awaiting)
    let line2 := ∃ e, g = some e ∧ e.state = .confirmed ∧ c.service = .awaiting
    let line3 := ∃ e, g = some e ∧ e.state = .confirmed ∧ inClass
    ((s.room r).cfg.enabled = false → t = s) ∧
    ((s.room r).cfg.enabled = true → s.closed r = true → x.service = .setback ∧ x.gov = none) ∧
    ((s.room r).cfg.enabled = true → s.closed r = false →
      (line1 ∨ line3 → t = s) ∧
      (line2 → x.gov = c.gov ∧ x.service = if s.occupied r then .inUse else .vacated) ∧
      (¬ line1 → ¬ line2 → ¬ line3 →
        (∀ e, activeEntry (s.room r).agenda = some e →
          (e.state = .confirmed → governed e .vacated) ∧ (e.state = .started → governed e .awaiting)) ∧
        (activeEntry (s.room r).agenda = none →
          (∀ e, g = some e → e.state = .released →
            (s.occupied r = true → x.service = .adHoc ∧ x.gov = none) ∧
            (s.occupied r = false → precondOr .setback)) ∧
          (∀ e, g = some e → e.state = .ended → inClass →
            (s.occupied r = true → (s.profiles.get e.cls).overrunLimit ≠ 0 →
              x.service = .overrun ∧ x.gov = some e.handle ∧ x.overrunStart = some (early.getD e.curEnd)) ∧
            (s.occupied r = true → (s.profiles.get e.cls).overrunLimit = 0 → precondOr .adHoc) ∧
            (s.occupied r = false → precondOr .setback)) ∧
          (∀ e, g = some e → e.state = .ended → c.service = .awaiting → precondOr .setback) ∧
          ((c.gov.isSome = true ∧ g = none) ∨ (∃ e, g = some e ∧ e.state = .skipped) →
            precondOr (if s.occupied r then .adHoc else .setback)) ∧
          (c.gov = none ∨ (∃ e, g = some e ∧ (e.state = .waiting ∨ e.state = .preconditioning ∨
              (e.state = .ended ∧ ¬ inClass ∧ c.service ≠ .awaiting))) →
            (∀ e, firstPrecond (s.room r).agenda = some e →
              c.service = .setback ∨ c.service = .adHoc ∨ c.service = .precondition →
              x.service = .precondition ∧ x.gov = some e.handle) ∧
            (firstPrecond (s.room r).agenda = none ∨
              ¬ (c.service = .setback ∨ c.service = .adHoc ∨ c.service = .precondition) → t = s)))))) ∧
  (∀ (s : State) (r : RoomId) (was now : Presence),
    let c := (s.room r).ctx
    let t := s.presenceMoved r was now
    let x := (t.room r).ctx
    let rose := was.confirmed = false ∧ now.confirmed = true
    let emptied := was ≠ .empty ∧ now = .empty
    let idle := s.closed r = false ∧ ∀ e ∈ (s.room r).agenda, e.state.live = false
    let asks := ∃ e, s.ownEntry r = some e ∧ e.state = .started ∧ c.outConfirm = none
    (c.service = .setback → rose → idle → x.service = .adHoc ∧ x.gov = none) ∧
    (c.service = .adHoc → emptied → x.service = .setback ∧ x.gov = none) ∧
    (c.service = .inUse → emptied → x.service = .vacated ∧ x.gov = c.gov) ∧
    (c.service = .awaiting ∨ c.service = .vacated → rose → x.service = .inUse ∧ x.gov = c.gov ∧
      (asks → x.outConfirm = c.gov ∧ ∀ h, c.gov = some h → t.cal.work = s.cal.work ++ [.confirm r h])) ∧
    (c.service = .overrun → emptied →
      (∀ e, firstPrecond (s.room r).agenda = some e → x.service = .precondition ∧ x.gov = some e.handle) ∧
      (firstPrecond (s.room r).agenda = none → x.service = .setback ∧ x.gov = none)) ∧
    (¬ (c.service = .setback ∧ rose ∧ idle) →
      ¬ ((c.service = .adHoc ∨ c.service = .inUse ∨ c.service = .overrun) ∧ emptied) →
      ¬ ((c.service = .awaiting ∨ c.service = .vacated) ∧ rose) → t = s)) ∧
  (∀ (s : State) (r : RoomId) (start : Nat),
    let c := (s.room r).ctx
    let x := ((s.overrunCheck r).room r).ctx
    let elapsed := if start > s.cal.minute then s.cal.minute + 1440 - start else s.cal.minute - start
    (c.service ≠ .overrun → s.overrunCheck r = s) ∧
    (c.service = .overrun → c.overrunStart = some start →
      (elapsed < (s.ownProfile r).overrunLimit → s.overrunCheck r = s) ∧
      ((s.ownProfile r).overrunLimit ≤ elapsed →
        (∀ e, firstPrecond (s.room r).agenda = some e → x.service = .precondition ∧ x.gov = some e.handle) ∧
        (firstPrecond (s.room r).agenda = none → x.service = .adHoc ∧ x.gov = none)))) ∧
  ∀ (s : State) (r : RoomId) (svc : Service) (gov : Option Handle),
    let t := s.setService r svc gov
    let cleared (changed fell : Prop) (m : RoomId) : Prop :=
      (changed ∨ fell → (t.room m).ctx.trim = 0 ∧ (t.room m).ctx.overrides = .fill 2 .none) ∧
      (¬ (changed ∨ fell) → (t.room m).ctx.trim = (s.room m).ctx.trim ∧
        (t.room m).ctx.overrides = (s.room m).ctx.overrides) ∧
      (t.room m).ctx.extResult = (if s.govHandle r ≠ t.govHandle r then .none else (s.room m).ctx.extResult)
    (s.mergedOf r = none →
      cleared ((s.room r).ctx.gov ≠ gov) ((s.room r).ctx.service ≠ .setback ∧ svc = .setback) r ∧
        ∀ q, q ≠ r → t.room q = s.room q) ∧
    ∀ g p, s.mergedOf r = some (g, p) → ∀ m ∈ p.members,
      cleared (s.govHandle r ≠ t.govHandle r) (s.base r ≠ .setback ∧ t.base r = .setback) m

/-! ## The wing clock -/

/-- SET_CLOCK, as a store operation. A value outside its range is refused RANGE. A change of minute alone keeps every
entry. A new date, or a clock that was INVALID, retires what is over and builds every agenda at the new minute; either
way the clock then holds what was sent, second 0, VALID (R41, R61, R63, R64). -/
def Obligations.ClockSet : Prop :=
  ∀ (s : State) (w d m : Nat), s.ready →
    let cmd := Instr.setClock w d m
    let date : Date := ⟨w, d⟩
    let put (rest : Store) : State :=
      { s with cal := { s.cal with valid := true, week := w, weekday := d, minute := m, second := 0,
                                   minuteDue := false }, store := rest }
    (¬ (w ≤ 63 ∧ d ≤ 6 ∧ m ≤ 1439) → Performed cmd s (Follows (s.answered cmd .range .none))) ∧
    (w ≤ 63 ∧ d ≤ 6 ∧ m ≤ 1439 → s.cal.valid = true ∧ s.today = date →
      Performed cmd s fun t =>
        t.answeredWith cmd .ok (.clockSet date m 0) ∧ Settles ((put s.store).answered cmd .ok (.clockSet date m 0)) t ∧
        (∀ r, t.keys r = s.keys r) ∧ (m = s.cal.minute → ∀ r, (t.room r).agenda = (s.room r).agenda)) ∧
    (w ≤ 63 ∧ d ≤ 6 ∧ m ≤ 1439 → ¬ (s.cal.valid = true ∧ s.today = date) →
      Performed cmd s fun t =>
        t.answeredWith cmd .ok (.clockSet date m (s.toRetire date).length) ∧
        Settles ((put { s.store with slots := s.slotsAfter date }).answered cmd .ok
          (.clockSet date m (s.toRetire date).length)) t ∧
        ∀ r h, (∃ e ∈ (t.room r).agenda, e.handle = h) ↔
          (s.room r).cfg.enabled = true ∧
            ∃ b, (h, b) ∈ s.activeRecords ∧ s.occurs b date = true ∧ r ∈ s.claims b.target)

/-- ADD_CLOSURE and REMOVE_CLOSURE, as store operations: their checks, the new list and its count. Adding today's date
leaves no entry WAITING or PRECONDITIONING; removing it keeps every entry and places every ACTIVE record that occurs
today, claims a room and has no entry there (R48, R49, R50). -/
def Obligations.ClosuresChanged : Prop :=
  ∀ (s : State) (w d : Nat), s.ready →
    let date : Date := ⟨w, d⟩
    let add := Instr.addClosure w d
    let remove := Instr.removeClosure w d
    let with_ (l : List Date) : State := { s with cal := { s.cal with closures := l } }
    let today := s.cal.valid = true ∧ s.today = date
    (¬ (w ≤ 63 ∧ d ≤ 6) → Performed add s (Follows (s.answered add .range .none)) ∧
      Performed remove s (Follows (s.answered remove .range .none))) ∧
    (w ≤ 63 ∧ d ≤ 6 →
      (date ∈ s.cal.closures → Performed add s (Follows (s.answered add .range .none))) ∧
      (date ∉ s.cal.closures → 24 ≤ s.cal.closures.length → Performed add s (Follows (s.answered add .full .none))) ∧
      (date ∉ s.cal.closures → s.cal.closures.length < 24 →
        let l := insertDate date s.cal.closures
        let u := (with_ l).answered add .ok (.closureCount (s.cal.closures.length + 1))
        Performed add s fun t =>
          Settles u t ∧ t.answeredWith add .ok (.closureCount (s.cal.closures.length + 1)) ∧
          (∀ r, t.keys r = s.keys r) ∧ (¬ today → Follows u t) ∧
          (today → ∀ r, ∀ e ∈ (t.room r).agenda, e.state ≠ .waiting ∧ e.state ≠ .preconditioning)) ∧
      (date ∉ s.cal.closures → Performed remove s (Follows (s.answered remove .notFound .none))) ∧
      (date ∈ s.cal.closures →
        let l := s.cal.closures.erase date
        let u := (with_ l).answered remove .ok (.closureCount l.length)
        Performed remove s fun t =>
          Settles u t ∧ t.answeredWith remove .ok (.closureCount l.length) ∧ (¬ today → Follows u t) ∧
          (∀ r, ∀ e ∈ s.keys r, e ∈ t.keys r) ∧
          (today → ∀ r, ∀ p ∈ s.activeRecords, (with_ l).occurs p.2 date = true → r ∈ s.claims p.2.target →
            ∃ e ∈ (t.room r).agenda, e.handle = p.1)))

/-- SECOND_EVENT, where no event was left due (the model takes those first, assumption 10): the second advances while
the clock is VALID, and every timer that counts seconds counts one (R46, R54, R55, R90, R95, R98, R109, R118, R136,
R198). That the minute event a second makes is held due until it is taken is the model's choice (assumption 2), and so is
that the silence timer stops at 3600 (assumption 43). -/
def Obligations.SecondCounts : Prop :=
  ∀ s : State,
    let u := (s.cycles (32768 - s.divider)).wrapDivider
    u.drain = u →
    ∃ t, exec .secondEvent s = .next t ∧ t.divider = 0 ∧ t.oceNow = s.oceNow + 1 ∧ t.store = s.store ∧
      (s.cal.valid = false → t.cal = s.cal) ∧
      (s.cal.valid = true → s.settingClock = false → s.cal.second < 59 →
        t.cal = { s.cal with second := s.cal.second + 1 }) ∧
      (s.cal.valid = true → s.settingClock = false → 59 ≤ s.cal.second → t.cal = { s.cal with minuteDue := true }) ∧
      (∀ r, (t.room r).agenda = (s.room r).agenda.map fun e =>
          { e with timer := e.timer.map fun n => if n.paused then n else { n with left := n.left - 1 } }) ∧
      (∀ r, (t.room r).ctx = { (s.room r).ctx with hold := (s.room r).ctx.hold.map fun h =>
          if h.expiry = 0 then h else { h with remaining := h.remaining - 1 } }) ∧
      (∀ r, (t.room r).oce.est = (s.room r).oce.est.second ∧
        (t.room r).oce.age = (s.room r).oce.age.map fun a => min 65535 (a + 1)) ∧
      (∀ e : Estimate, e.second = if e.frozenAt.isSome then e else { e with quiet := e.quiet.map fun q => q - 1 }) ∧
      (∀ g, t.groups.get g = (s.groups.get g).map fun p =>
        { p with shared := p.shared.second,
                 others := p.others.map fun o => (o.1, { o.2 with timer := o.2.timer.map fun n => n - 1 }) }) ∧
      (∀ r, (t.room r).cfg = (s.room r).cfg ∧ (t.room r).air = (s.room r).air ∧ (t.room r).light = (s.room r).light ∧
        (t.room r).station = (s.room r).station) ∧
      (∀ g, (t.airs.get g).timer = if (s.airs.get g).period = 0 then (s.airs.get g).timer
        else min (s.airs.get g).period ((s.airs.get g).timer + 1)) ∧
      t.port = { s.port with silenceTimer :=
        if s.port.present && decide (0 < s.port.silenceTime) then min 3600 (s.port.silenceTimer + 1)
        else s.port.silenceTimer }

/-- MINUTE_EVENT, where it is due: the minute advances with second 0, and every entry takes the state the table of R53
gives it at the new minute, by the first line that matches; behind a running operation the evaluation is held (R46,
R52, R53, R59). -/
def Obligations.MinuteEvaluated : Prop :=
  (∀ s : State, s.minuteEventDue = true →
    let m := s.cal.minute + 1
    let u : State := { s with cal := { s.cal with minute := m, second := 0, minuteDue := false } }
    ∃ t, exec .minuteEvent s = .next t ∧ Settles u t ∧ t.port.slot = s.port.slot ∧
      (s.store.running = none → ∀ r, t.untimed r = (s.room r).agenda.map fun e =>
        { e with state := evalState m (s.profiles.get e.cls).lead (s.closed r) e, timer := none }) ∧
      (s.store.running.isSome = true → CalWork.minute m ∈ t.cal.work ∧ ∀ r, (t.room r).agenda = (s.room r).agenda)) ∧
  ∀ (m lead : Nat) (closed : Bool) (e : Entry),
    let new := evalState m lead closed e
    (e.state.terminal = true → new = e.state) ∧
    (e.curEnd ≤ m → (e.state = .waiting ∨ e.state = .preconditioning → new = .skipped) ∧
      (e.state = .started ∨ e.state = .confirmed → new = .ended)) ∧
    (m < e.curEnd →
      (e.start ≤ m → closed = false → e.state = .waiting ∨ e.state = .preconditioning → new = .started) ∧
      (e.start ≤ m → closed = true → e.state = .waiting → new = .skipped) ∧
      (m < e.start → closed = false → e.state = .waiting → 0 < lead → e.start ≤ m + lead → new = .preconditioning) ∧
      (m < e.start → e.state = .waiting → closed = true ∨ lead = 0 ∨ m + lead < e.start → new = .waiting) ∧
      (m < e.start ∨ closed = true → e.state = .preconditioning → new = .preconditioning) ∧
      (e.state = .started ∨ e.state = .confirmed → new = e.state))

/-- ROLLOVER_EVENT, where it is due with the arbiter idle: the old day ends at minute 1440, the date advances at
minute 0, the rollover flag is set, and the retirement pass is taken with the builds of rooms 0..47 behind it (R43,
R46, R62). -/
def Obligations.RolloverPosted : Prop :=
  ∀ s : State, s.rolloverDue = true → s.store.running = none → s.store.steps = [] →
    ∃ t, exec .rolloverEvent s = .next t ∧
      (let next : Date := if s.cal.weekday < 6 then ⟨s.cal.week, s.cal.weekday + 1⟩ else ⟨s.cal.week + 1, 0⟩
       t.today = next ∧ t.cal.valid = true ∧ t.cal.minute = 0 ∧ t.cal.second = 0 ∧ t.cal.rolloverFlag = true ∧
       t.cal.closures = s.cal.closures ∧ t.cal.gap = s.cal.gap ∧
       t.store.running = some { op := .step .retire, at_ := { valid := true, date := next, minute := 0 } }) ∧
      t.store.steps = allRooms.map CalStep.build ∧ t.store.rebuild = .rollover ∧ t.store.slots = s.store.slots ∧
      t.port.slot = s.port.slot ∧
      (∀ r, t.untimed r = (s.room r).agenda.map fun e =>
        { e with state := evalState 1440 (s.profiles.get e.cls).lead (s.closed r) e, timer := none }) ∧
      ∀ r, (∀ e ∈ (s.room r).agenda, e.curEnd ≤ 1440) → ∀ e ∈ (t.room r).agenda, e.state.terminal = true

/-- TERM_END, where it is due with the arbiter idle: the old day ends, the clock is INVALID at 0/0/0 second 0,
CLOCK_INVALID is raised, and the term-end step is taken; every record is kept. TERM_END_STEP then empties every
agenda, and every enabled open room derives AD_HOC where its presence is confirmed and SETBACK otherwise (R43, R47,
R69, R75). -/
def Obligations.TermEnded : Prop :=
  (∀ s : State, s.termEndDue = true → s.store.running = none → s.store.steps = [] →
    ∃ t, exec .termEnd s = .next t ∧ t.cal.valid = false ∧ t.today = ⟨0, 0⟩ ∧ t.cal.minute = 0 ∧ t.cal.second = 0 ∧
      t.flagged .clockInvalid = true ∧ t.store.slots = s.store.slots ∧ t.port.slot = s.port.slot ∧
      t.store.running = some { op := .step .termEnd, at_ := { valid := false, date := ⟨0, 0⟩, minute := 0 } } ∧
      t.store.steps = [] ∧
      ∀ r, t.untimed r = (s.room r).agenda.map fun e =>
        { e with state := evalState 1440 (s.profiles.get e.cls).lead (s.closed r) e, timer := none }) ∧
  ∀ (s : State) (now : Instant), s.performing (.step .termEnd) now →
    ∃ t, exec .termEndStep s = .next t ∧ Settles s.idle t ∧ t.port.slot = s.port.slot ∧
      ∀ r, (t.room r).agenda = [] ∧ (t.room r).ctx.gov = none ∧
        ((s.room r).cfg.enabled = true → s.closed r = false →
          (t.room r).ctx.service = if s.occupied r then .adHoc else .setback)

/-! ## Timers and requests of the rooms -/

/-- NO_SHOW_EXPIRY, where it is due with the arbiter free: every STARTED entry of the handle becomes RELEASED and no
other entry changes; the room that held the timer raises the RELEASE note, which the store takes; and every room whose
agenda holds an entry of the handle, whatever its state, enters the room change set (R43, R54, R56, R72, R77). -/
def Obligations.NoShowReleases : Prop :=
  ∀ (s : State) (r home : RoomId) (h : Handle), s.arbiterFree = true → s.dueHandle r = some h →
    s.expiryDue h = true → s.timerRoom h = some home →
    ∃ t, exec (.noShowExpiry r) s = .next t ∧ Settles s t ∧ t.port.slot = s.port.slot ∧
      (∀ q, t.untimed q = (s.room q).agenda.map fun e =>
        { e with state := if e.handle = h ∧ e.state = .started then .released else e.state, timer := none }) ∧
      (∀ q, (stateIn (s.room q).agenda h).isSome = true → t.port.roomChanges.get q = true) ∧
      t.flagged .roomsChanged = true ∧
      t.store.running = some { op := .room home (.note .release h), at_ := s.instant }

/-- CONFIRM_REQUEST, where one of the room waits with no operation running: a STARTED entry is CONFIRMED in every
member's agenda, any other state is left as it is, and the answer clears the outstanding confirm (R52, R57, R71). That
the request waits at the calendar until it is named is the model's choice (assumption 22). -/
def Obligations.ConfirmTaken : Prop :=
  ∀ (s : State) (r : RoomId) (h : Handle), s.store.running = none →
    s.cal.work.find? (CalWork.isConfirmOf r) = some (.confirm r h) →
    ∃ t, exec (.confirmRequest r) s = .next t ∧ Settles s t ∧ t.port.slot = s.port.slot ∧
      (stateIn (s.room r).agenda h = some .started → ∀ q, t.untimed q = (s.room q).agenda.map fun e =>
        { e with state := if e.handle = h ∧ e.state = .started then .confirmed else e.state, timer := none }) ∧
      (stateIn (s.room r).agenda h ≠ some .started → ∀ q, (t.room q).agenda = (s.room q).agenda) ∧
      (t.room r).ctx.outConfirm ≠ some h

/-- END_NOW at the panel, END_NOW_REQUEST and END_OCCURRENCE. A press with effect in AWAITING, IN_USE or VACATED names
the governing entry in its room, or in a MERGED member's governing member's room, and no other press does anything. An
entry that is STARTED or CONFIRMED becomes ENDED in every member's agenda with its current end kept, and any other is
left as it is; the host's request is answered with the handle and the minute, or NOT_FOUND (R52, R58, R78, R81, R91,
R102, R202). That a slot above 511 is judged after the room is the model's order (assumption 53), and that a request
waits at the calendar until it is named its choice (assumption 22). -/
def Obligations.EndNowTaken : Prop :=
  (∀ (s : State) (r : RoomId),
    let q := s.govRoom r
    let heard := s.effective r = .service .awaiting ∨ s.effective r = .service .inUse ∨
      s.effective r = .service .vacated
    (heard → ∀ h, (s.room q).ctx.gov = some h →
      s.panelEvent r .endNow = { s with cal := { s.cal with work := s.cal.work ++ [.endNow q h false] } }) ∧
    (¬ heard ∨ (s.room q).ctx.gov = none → s.panelEvent r .endNow = s)) ∧
  ∀ (s : State) (r : RoomId) (h : Handle),
    let running := stateIn (s.room r).agenda h = some .started ∨ stateIn (s.room r).agenda h = some .confirmed
    let ended (t : State) : Prop := ∀ q, t.untimed q = (s.room q).agenda.map fun e =>
      { e with state := if e.handle = h ∧ (e.state = .started ∨ e.state = .confirmed) then .ended else e.state,
               timer := none }
    (s.store.running = none → s.cal.work.find? (CalWork.isEndNowOf r) = some (.endNow r h false) →
      ∃ t, exec (.endNowRequest r) s = .next t ∧ Settles s t ∧ t.port.slot = s.port.slot ∧
        (running → ended t) ∧ (¬ running → ∀ q, (t.room q).agenda = (s.room q).agenda)) ∧
    ∀ n, s.slotOpen = true →
      (asRoom n = none →
        exec (.endOccurrence n h) s = .next (s.answered (.endOccurrence n h) .range .none)) ∧
      (asRoom n = some r → (s.room r).cfg.enabled = false →
        exec (.endOccurrence n h) s = .next (s.answered (.endOccurrence n h) .notEnabled .none)) ∧
      (asRoom n = some r → (s.room r).cfg.enabled = true → 512 ≤ h.slot →
        exec (.endOccurrence n h) s = .next (s.answered (.endOccurrence n h) .range .none)) ∧
      (asRoom n = some r → (s.room r).cfg.enabled = true → h.slot < 512 → s.store.running = none →
        s.cal.work = [] →
        ∃ m t, exec (.endOccurrence n h) s = .next m ∧ exec (.endNowRequest r) m = .next t ∧
          (running → t.answeredWith (.endOccurrence n h) .ok (.ended h s.cal.minute) ∧ ended t ∧
            Settles (s.answered (.endOccurrence n h) .ok (.ended h s.cal.minute)) t) ∧
          (¬ running → Follows (s.answered (.endOccurrence n h) .notFound .none) t))

/-- SENSED_ABSENCE_EXPIRY, QUIET_TIMER_EXPIRY and SETTLE_TIMER_EXPIRY, where they are due, with the rules behind them:
how a report moves tally and presence, how a partition contact is read, what state a group's contacts call for, and what
a merge makes of the members' estimates, presence and trims (R95, R96, R97, R101, R115, R116, R117, R118, R119). That a
merge takes the sensed-since and the last evidence of a SAFE member as they stand is the model's reading (assumption
14). -/
def Obligations.RoomTimersExpire : Prop :=
  (∀ (s : State) (r : RoomId),
    ((s.room r).cfg.enabled = true → (s.estimate r).absenceDue s.oceNow = true →
      ∃ t, exec (.sensedAbsenceExpiry r) s = .next t ∧ Settles s t ∧ t.port.slot = s.port.slot ∧
        (∀ q, (t.room q).agenda = (s.room q).agenda) ∧
        t.estimate r = if (s.estimate r).tally = 0 then (s.estimate r).become .empty
          else { s.estimate r with lastEvidence := some s.oceNow }) ∧
    ((s.room r).cfg.enabled = true → (s.estimate r).quietDue = true →
      ∃ t, exec (.quietTimerExpiry r) s = .next t ∧ Settles s t ∧ t.port.slot = s.port.slot ∧
        (∀ q, (t.room q).agenda = (s.room q).agenda) ∧ (t.estimate r).presence = .empty ∧ (t.estimate r).tally = 0) ∧
    ∀ g p c, s.groupOf r = some (g, p) → p.contactOf r = some c → c.timer = some 0 →
      let x := p.modifyContact r fun c => { c with settled := true, timer := none }
      ∃ t, exec (.settleTimerExpiry r) s = .next t ∧ Settles s t ∧ t.port.slot = s.port.slot ∧
        (∀ q, (t.room q).agenda = (s.room q).agenda) ∧ (∀ k, k ≠ g → t.groups.get k = s.groups.get k) ∧
        (t.groups.get g).map (fun x => (x.leader, x.others, x.state)) = some (x.leader, x.others, s.groupStateOf x) ∧
        (p.state ≠ .merged → s.groupStateOf x = .merged →
          Follows (({ s with groups := s.groups.set g (some x) } : State).merge g x) t)) ∧
  (∀ (e : Estimate) (limit : Nat) (times : PresenceTimes) (motion entries exits t : Nat),
    let x := e.observe limit times motion entries exits t
    let evidence := 0 < motion ∨ 0 < entries ∨ 0 < x.tally
    let moving := 0 < motion ∨ 0 < entries
    let only (p : Presence) (since last quiet : Option Nat) : Prop :=
      x = { e with tally := x.tally, presence := p, sensedSince := since, lastEvidence := last, quiet := quiet }
    x.tally = min limit (e.tally + entries - exits) ∧
    (e.presence = .empty →
      (¬ evidence → x = { e with tally := x.tally }) ∧ (evidence → 3 ≤ x.tally → only .present none none none) ∧
      (evidence → x.tally < 3 → only .sensed (some t) (some t) none)) ∧
    (∀ since, e.presence = .sensed → e.sensedSince = some since →
      (¬ evidence → x = { e with tally := x.tally }) ∧
      (evidence → 3 ≤ x.tally ∨ times.confirm ≤ t - since → only .present none none none) ∧
      (evidence → x.tally < 3 → t - since < times.confirm →
        x = { e with tally := x.tally, lastEvidence := some t })) ∧
    (e.presence = .present →
      (moving → x = { e with tally := x.tally }) ∧
      (¬ moving → only .quiet none none (some (if x.tally = 0 then times.quiet else times.still * 60)))) ∧
    (e.presence = .quiet →
      (moving → only .present none none none) ∧
      (¬ moving → 0 < e.tally → x.tally = 0 →
        x = { e with tally := x.tally, quiet := e.quiet.map fun q => min q times.quiet }) ∧
      (¬ moving → e.tally = 0 ∨ 0 < x.tally → x = { e with tally := x.tally }))) ∧
  (∀ (s : State) (r : RoomId) (isOpen : Bool),
    let seen : Reading := if isOpen then .opened else .closed
    (∀ g p c, s.groupOf r = some (g, p) → p.contactOf r = some c →
      (c.reading = seen → s.contactReported r isOpen = s) ∧
      (c.reading ≠ seen → s.contactReported r isOpen = (s.modifyGroup g fun p =>
        p.modifyContact r fun _ => { reading := seen, settled := false, timer := some 10 }).evaluateGroup g)) ∧
    (∀ g p, s.groupOf r = some (g, p) → p.contactOf r = none → s.contactReported r isOpen = s) ∧
    (s.groupOf r = none → s.contactReported r isOpen = s)) ∧
  (∀ (s : State) (g : GroupId) (p : PartGroup), s.groups.get g = some p →
    let x := s.groupStateOf p
    let opened := ∀ o ∈ p.others, o.2.settled = true ∧ o.2.reading = .opened
    let shut := ∀ o ∈ p.others, o.2.settled = true ∧ o.2.reading = .closed
    (x = .merged ↔ opened ∧ ∀ m ∈ p.members, s.inOpenRange m = true) ∧ (x = .split ↔ x ≠ .merged ∧ shut) ∧
    s.evaluateGroup g =
      if x = p.state then s else if x = .merged then s.merge g p else if p.state = .merged then s.split g p x
      else { s with groups := s.groups.set g (some { p with state := x }) }) ∧
  ∀ (s : State) (g : GroupId) (p : PartGroup), p.state ≠ .merged → p.members.Nodup →
    (∀ m ∈ p.members, s.groupOf m = some (g, p)) →
    (∀ m ∈ p.members, (s.room m).ctx.service = .setback → (s.room m).ctx.gov = none) →
    let t := s.merge g p
    let est (m : RoomId) := (s.room m).oce.est
    ∃ x, t.groups.get g = some { p with state := .merged, shared := x } ∧
      x.tally = min ((p.members.map fun m => (s.room m).cfg.seats * 5 / 4).sum) ((p.members.map fun m => (est m).tally).sum) ∧
      (∃ m ∈ p.members, (est m).presence = x.presence) ∧ (∀ m ∈ p.members, (est m).presence.rank ≤ x.presence.rank) ∧
      (x.presence ≠ .quiet → x.quiet = none) ∧
      (x.presence ≠ .sensed → x.sensedSince = none ∧ x.lastEvidence = none) ∧
      (∀ m ∈ p.members, (est m).presence = x.presence →
        (x.presence = .quiet → ∀ q, (est m).quiet = some q → ∃ v, x.quiet = some v ∧ q ≤ v) ∧
        (x.presence = .sensed →
          (∀ q, (est m).sensedSince = some q → ∃ v, x.sensedSince = some v ∧ v ≤ q) ∧
          ∀ q, (est m).lastEvidence = some q → ∃ v, x.lastEvidence = some v ∧ q ≤ v)) ∧
      (∀ v, x.quiet = some v → ∃ m ∈ p.members, (est m).presence = x.presence ∧ (est m).quiet = some v) ∧
      (∀ v, x.sensedSince = some v → ∃ m ∈ p.members, (est m).presence = x.presence ∧ (est m).sensedSince = some v) ∧
      (∀ v, x.lastEvidence = some v → ∃ m ∈ p.members, (est m).presence = x.presence ∧ (est m).lastEvidence = some v) ∧
      ∀ m ∈ p.members, t.estimate m = x ∧ (t.room m).ctx.trim = (s.room (t.governor p)).ctx.trim ∧
        (t.room m).agenda = (s.room m).agenda ∧
        (t.room m).ctx.service =
          if (est m).presence.confirmed = false ∧ x.presence.confirmed = true then
            match (s.room m).ctx.service with
            | .setback => if s.closed m = false ∧ (s.room m).agenda.all (fun e => !e.state.live) then .adHoc else .setback
            | .awaiting => .inUse
            | .vacated => .inUse
            | svc => svc
          else (s.room m).ctx.service

/-! ## Holds, the open range and the host's absence -/

/-- HOLD_ROOM stores the clamped hold record whole with its remaining time; RELEASE_HOLD and the end of a hold's time
make it absent; each with its refusals (R89, R90). -/
def Obligations.HoldsTaken : Prop :=
  (∀ (s : State) (n : Nat) (f : HoldFields), s.slotOpen = true →
    let take := Instr.holdRoom n f
    let release := Instr.releaseHold n
    let c := clampHold f
    (asRoom n = none → exec take s = .next (s.answered take .range .none) ∧
      exec release s = .next (s.answered release .range .none)) ∧
    ∀ r, asRoom n = some r →
      ((s.room r).cfg.enabled = false → exec take s = .next (s.answered take .notEnabled .none) ∧
        exec release s = .next (s.answered release .notEnabled .none)) ∧
      ((s.room r).cfg.enabled = true →
        (15 < f.scene ∨ c.band.cool < c.band.heat + 10 → exec take s = .next (s.answered take .range .none)) ∧
        (∀ sc : SceneId, sc.val = f.scene → c.band.heat + 10 ≤ c.band.cool →
          let h : Hold := { scene := sc, blinds := c.blinds, flow := c.flow, band := c.band, expiry := c.expiry,
                            remaining := c.expiry * 60 }
          Becomes take s ((s.modifyCtx r fun x => { x with hold := some h }).answered take (okStatus (c ≠ f))
            (.hold r h))) ∧
        Becomes release s ((s.modifyCtx r fun x => { x with hold := none }).answered release .ok .none))) ∧
  ∀ (s : State) (r : RoomId) (h : Hold), (s.room r).ctx.hold = some h → 0 < h.expiry → h.remaining = 0 →
    Becomes (.holdExpiry r) s (s.modifyCtx r fun x => { x with hold := none })

/-- SET_OPEN_RANGE with no operation running: the range is replaced and answered OK; each enabled room that leaves it
is SETBACK with no governing entry and no live entry; a value outside 0..47 is refused RANGE (R59, R86, R87). -/
def Obligations.OpenRangeSet : Prop :=
  ∀ (s : State) (a b : Nat), s.slotOpen = true →
    let cmd := Instr.setOpenRange a b
    (asRoom a = none ∨ asRoom b = none → exec cmd s = .next (s.answered cmd .range .none)) ∧
    ∀ first last, asRoom a = some first → asRoom b = some last → s.store.running = none →
      ∃ t, exec cmd s = .next t ∧ t.openFirst = first ∧ t.openLast = last ∧ t.answeredWith cmd .ok .none ∧
        Settles (({ s with openFirst := first, openLast := last } : State).answered cmd .ok .none) t ∧
        (∀ r, t.inOpenRange r = if first ≤ last then decide (first ≤ r ∧ r ≤ last)
          else decide (first ≤ r ∨ r ≤ last)) ∧
        ∀ r, (s.room r).cfg.enabled = true → s.inOpenRange r = true → t.inOpenRange r = false →
          (t.room r).ctx.service = .setback ∧ (t.room r).ctx.gov = none ∧
          ∀ e ∈ (t.room r).agenda, e.state.live = false

/-- HOST_SILENCE_EXPIRY, where it is due: presence is ABSENT and HOST_ABSENT is raised; holds with expiry 0 end; every
air group takes its fallback capacity; economy is OFF and every façade's sun NONE; readmit is set on every OFF station
(R90, R138, R157, R159, R182, R198, R199). -/
def Obligations.HostAbsenceActs : Prop :=
  ∀ s : State, s.port.present = true → 0 < s.port.silenceTime → s.port.silenceTime * 60 ≤ s.port.silenceTimer →
    ∃ t, exec .hostSilenceExpiry s = .next t ∧ Follows s.hostAbsent t ∧ t.port.present = false ∧
      t.flagged .hostAbsent = true ∧ t.port.slot = s.port.slot ∧ t.store.slots = s.store.slots ∧ t.cal = s.cal ∧
      t.economy = .off ∧ t.cap = s.cap ∧
      (∀ k, t.facades.get k = { s.facades.get k with sun := .none }) ∧
      (∀ g, (t.airs.get g).capacity = (s.airs.get g).fallback ∧ (t.airs.get g).fallback = (s.airs.get g).fallback) ∧
      ∀ r, (t.room r).agenda = (s.room r).agenda ∧ (t.room r).cfg = (s.room r).cfg ∧
        (t.room r).ctx.hold = (match (s.room r).ctx.hold with
          | some h => if h.expiry = 0 then none else some h
          | none => none) ∧
        (t.room r).station = (s.room r).station.map fun x => if x.state = .off then { x with readmit := true } else x

/-! ## The Air Share Unit -/

/-- SET_CAPACITY, REQUEST_ALLOCATION and PERIOD_TIMER_MATCH: each fires its trigger in its group alone; where the mask
allows it and no pass runs, the pass starts at once with the members as they stand, and where the mask forbids it and
none is pending, none starts. Another group stays as it was, but that a pass pending there starts (R134, R135, R136,
R137, R139). -/
def Obligations.TriggersFire : Prop :=
  ∀ (s : State) (g : AirId),
    let a := s.airs.get g
    let ms := (s.airMembers g).map s.passMember
    let fired (t : State) (allowed : Bool) (capacity : Nat) (kind : Trigger) : Prop :=
      (allowed = true → a.running = none →
        (t.airs.get g).running = some (runPass capacity (a.triggers.add kind) ms) ∧ (t.airs.get g).pending = false) ∧
      (allowed = true → a.running.isSome = true → (t.airs.get g).pending = true ∧
        (t.airs.get g).triggers = a.triggers.add kind) ∧
      (allowed = false → a.pending = false → (t.airs.get g).running = a.running ∧ (t.airs.get g).pending = false) ∧
      ∀ k, k ≠ g → ((s.airs.get k).pending = false ∨ (s.airs.get k).running.isSome = true) →
        t.airs.get k = s.airs.get k
    (∀ n c, s.slotOpen = true → asIndex 4 n = some g →
      let u := (s.modifyAirGroup g fun a => { a with capacity := min 20000 c }).answered (.setCapacity n c)
        (okStatus (20000 < c)) (.capacity g (min 20000 c))
      ∃ t, exec (.setCapacity n c) s = .next t ∧ Follows u t ∧ t.rooms = s.rooms ∧
        fired t a.mask.capacityWrite (min 20000 c) .capacityWrite) ∧
    (∀ n, s.slotOpen = true → asIndex 4 n = some g →
      ∃ t, exec (.requestAllocation n) s = .next t ∧
        Follows (s.answered (.requestAllocation n) .ok (.passStarted a.mask.hostRequest)) t ∧ t.rooms = s.rooms ∧
        fired t a.mask.hostRequest a.capacity .hostRequest) ∧
    (∀ n c, s.slotOpen = true → asIndex 4 n = none →
      exec (.setCapacity n c) s = .next (s.answered (.setCapacity n c) .range .none) ∧
      exec (.requestAllocation n) s = .next (s.answered (.requestAllocation n) .range .none)) ∧
    (0 < a.period → a.timer = a.period →
      ∃ t, exec (.periodTimerMatch g) s = .next t ∧
        Follows (s.modifyAirGroup g fun a => { a with timer := 0 }) t ∧ t.rooms = s.rooms ∧ t.port = s.port ∧
        fired t a.mask.period a.capacity .period)

/-- ALLOCATION_PASS_COMPLETE, where a pass runs: everything it decided is stored together, each member that is still
in the group takes its grant and tier, no other room changes, and AIR_SHORT is raised for a flag newly set, and for no
other reason (R133, R142). That a room which is no longer a member takes nothing of the pass is the model's reading
(assumption 24). -/
def Obligations.PassStored : Prop :=
  ∀ (s : State) (g : AirId) (p : PassRecord), (s.airs.get g).running = some p →
    let a := s.airs.get g
    let newly := (!a.flags.floor && p.flags.floor) || (!a.flags.tier1 && p.flags.tier1) ||
      (!a.flags.tier2 && p.flags.tier2) || (!a.flags.tier3 && p.flags.tier3)
    ∃ t, exec (.allocationPassComplete g) s = .next t ∧
      (t.airs.get g).passCount = (a.passCount + 1) % 65536 ∧ (t.airs.get g).flags = p.flags ∧
      (t.airs.get g).unallocated = p.unallocated ∧ (t.airs.get g).last = p ∧
      (t.airs.get g).capacity = a.capacity ∧ (t.airs.get g).timer = a.timer ∧
      (∀ k, k ≠ g → AirKept (s.airs.get k) (t.airs.get k)) ∧
      (∀ r, t.room r = { s.room r with air := (t.room r).air } ∧
        ((t.room r).air.d = (s.room r).air.d ∧ (t.room r).air.f = (s.room r).air.f) ∧
        (∀ m, p.members.find? (fun m => m.room == r) = some m → r ∈ s.airMembers g →
          (t.room r).air.grant = m.grant ∧ (t.room r).air.tier = some m.tier) ∧
        (r ∉ s.airMembers g ∨ p.members.find? (fun m => m.room == r) = none → t.room r = s.room r)) ∧
      t.port = { s.port with flags := t.port.flags } ∧ (newly = false → t.port.flags = s.port.flags) ∧
      (newly = true → t.flagged .airShort = true) ∧ t.store = s.store ∧ t.cal = s.cal

/-- The floor-short path of a pass (R140). -/
def Obligations.FloorShortPath : Prop :=
  ∀ (c : Nat) (triggers : TriggerSet) (ms : List PassMember),
    let sumF := (ms.map (·.f)).sum
    let k := if sumF = 0 then 0 else c * 1024 / sumF
    let p := runPass c triggers ms
    c ≤ sumF →
      p.members = ms.map (fun m => { m with grant := m.f * k / 1024 }) ∧
      p.flags = { floor := true, tier1 := false, tier2 := false, tier3 := false } ∧ k ≤ 1024 ∧
      (∀ m ∈ p.members, m.grant ≤ m.f) ∧ (c = 0 → ∀ m ∈ p.members, m.grant = 0) ∧
      (c = sumF → 0 < c → k = 1024 ∧ ∀ m ∈ p.members, m.grant = m.f)

/-- What every pass decides: the grants sum to no more than the capacity, no grant exceeds its demand, and on the
remainder path no grant is below its floor (R139, R141, R142). -/
def Obligations.PassWithinCapacity : Prop :=
  ∀ (c : Nat) (triggers : TriggerSet) (ms : List PassMember),
    (∀ m ∈ ms, m.f ≤ m.d ∧ 1 ≤ m.tier ∧ m.tier ≤ 3) →
    let p := runPass c triggers ms
    (p.members.map (·.grant)).sum ≤ c ∧ p.unallocated = c - (p.members.map (·.grant)).sum ∧ p.capacity = c ∧
      p.members.map (fun m => (m.room, m.tier, m.d, m.f)) = ms.map (fun m => (m.room, m.tier, m.d, m.f)) ∧
      (∀ m ∈ p.members, m.grant ≤ m.d) ∧
      ((ms.map (·.f)).sum < c → p.flags.floor = false ∧ ∀ m ∈ p.members, m.f ≤ m.grant)

/-- The stages of a demand: base ventilation is the ceiling of (n_eff × Rp × 10 + A × Ra) / 100 but in SETBACK and
CLOSED, where it is 0; the CO2 trim is floor((c − c_t) × kc / 100) in the occupied-class states while CO2 is valid and
above target, and otherwise 0; thermal demand lies between floor and ceiling by θ, and the greater of it and the sum of
the first two, clamped, is the demand. A SAFE room demands its floor, a held room its hold's flow, a disabled one 0, with
stage results 0 (R127, R128, R129, R130, R131). -/
def Obligations.DemandStages : Prop :=
  ∀ (s : State) (r : RoomId),
    let x := s.figures r
    let c := (s.room r).cfg
    let p := s.govProfile r
    let co2 := (s.room r).oce.co2
    (∀ svc, s.effective r = .service svc → svc.occupiedClass = true ∨ svc = .precondition →
      ∃ n, x.vb = n ∧ s.nEff r * p.perPerson * 10 + c.area * c.areaRate ≤ 100 * n ∧
        100 * n < s.nEff r * p.perPerson * 10 + c.area * c.areaRate + 100) ∧
    (s.effective r = .service .setback ∨ s.effective r = .closed → x.vb = 0) ∧
    (∀ svc, s.effective r = .service svc → svc.occupiedClass = true → co2.valid = true →
      (p.co2Target : Int) < co2.value → x.trim = (co2.value.toNat - p.co2Target) * p.co2Gain / 100) ∧
    ((∀ svc, s.effective r = .service svc → svc.occupiedClass = false) ∨ co2.valid = false ∨
      co2.value ≤ (p.co2Target : Int) → x.trim = 0) ∧
    (∀ svc, s.effective r = .service svc → x.vv = x.vb + x.trim) ∧
    baseVentilation 20 100 40 25 = 210 ∧ baseVentilation 21 100 40 25 = 220 ∧ baseVentilation 21 100 40 27 = 221 ∧
    baseVentilation 625 200 1000 200 = 14500 ∧ co2Trim ⟨1180, true⟩ 1000 40 = 72 ∧
    (let theta := if (s.room r).oce.theta.valid then (s.room r).oce.theta.value.toNat else 0
     let staged (floor : Nat) : Prop := x.basis = .fourStage ∧ x.nEff = s.nEff r ∧ x.f = floor ∧
       x.vv = x.vb + x.trim ∧ x.vt = floor + (c.vmax - floor) * theta / 100 ∧
       (floor ≤ c.vmax → x.d = max floor (min c.vmax (max x.vv x.vt)) ∧ floor ≤ x.d ∧ x.d ≤ c.vmax)
     let flat (basis : Basis) (flow : Nat) : Prop :=
       x = { basis := basis, nEff := s.nEff r, vb := 0, trim := 0, vv := 0, vt := 0, d := flow, f := flow }
     (∀ svc, s.effective r = .service svc → svc.occupiedClass = true ∨ svc = .precondition → staged c.vminOcc) ∧
     (s.effective r = .service .setback ∨ s.effective r = .closed → staged c.vminUn) ∧
     (s.effective r = .service .unconfigured →
       x = { basis := .none, nEff := 0, vb := 0, trim := 0, vv := 0, vt := 0, d := 0, f := 0 }) ∧
     (s.effective r = .safe → flat .safeFloor
       (if (s.base r).occupiedClass = true ∨ s.base r = .precondition then c.vminOcc else c.vminUn)) ∧
     ∀ h, s.effective r = .hold → (s.room r).ctx.hold = some h → flat .holdFlow (min h.flow c.vmax))

/-! ## The Light and Shade Unit -/

/-- SCENE_WINDOW and the four scene commands: an accepted window replaces the stored one whole with the pointer at its
first cell; writes and reads go through the pointer, which steps through the window in its order, goes round it with wrap
ON and stops past its end with wrap OFF; scene 0 is never written; counts outside 1..16 are refused. Each level is
dropped past the end and in scene 0, and stored clamped elsewhere; a read past the end returns the last cell again (R149,
R150, R151, R152). -/
def Obligations.SceneAccess : Prop :=
  (∀ s : State, s.slotOpen = true →
    (∀ f, windowOf f = none → exec (.sceneWindow f) s = .next (s.answered (.sceneWindow f) .range .none)) ∧
    (∀ f w, windowOf f = some w →
      exec (.sceneWindow f) s = .next (({ s with window := w } : State).answered (.sceneWindow f) .ok (.window w)) ∧
      w.scene = w.firstScene ∧ w.channel = w.firstChannel ∧ w.pastEnd = false ∧ w.firstScene.val = f.firstScene ∧
      w.lastScene.val = f.lastScene ∧ w.firstChannel.val = f.firstChannel ∧ w.lastChannel.val = f.lastChannel ∧
      w.firstScene ≤ w.lastScene ∧ w.firstChannel ≤ w.lastChannel) ∧
    (∀ n levels, ¬ (1 ≤ n ∧ n ≤ 16) →
      exec (.sceneWriteStart n levels) s = .next (s.answered (.sceneWriteStart n levels) .range .none) ∧
      exec (.sceneWriteContinue n levels) s = .next (s.answered (.sceneWriteContinue n levels) .range .none) ∧
      exec (.sceneReadStart n) s = .next (s.answered (.sceneReadStart n) .range .none) ∧
      exec (.sceneReadContinue n) s = .next (s.answered (.sceneReadContinue n) .range .none)) ∧
    (∀ n levels, 1 ≤ n → n ≤ 16 →
      let written (from_ : State) (cmd : Instr) : Prop :=
        let q := from_.takeLevels (levels.take n)
        Becomes cmd s (({ s with scenes := q.1.scenes, window := q.1.window } : State).answered cmd
          (okStatus q.2.clamped)
          (.sceneWritten q.2.stored q.2.dropped q.1.window.scene q.1.window.channel q.1.window.pastEnd)) ∧
        q.2.stored + q.2.dropped = (levels.take n).length ∧ ∀ ch, q.1.cell 0 ch = s.cell 0 ch
      written { s with window := s.window.rewind } (.sceneWriteStart n levels) ∧
      written s (.sceneWriteContinue n levels)) ∧
    (∀ n, 1 ≤ n → n ≤ 16 →
      let read (from_ : Window) (cmd : Instr) : Prop :=
        let q := s.readLevels n from_
        exec cmd s = .next (({ s with window := q.1 } : State).answered cmd .ok
          (.sceneLevels q.2 q.1.scene q.1.channel q.1.pastEnd)) ∧ q.2.length = n
      read s.window.rewind (.sceneReadStart n) ∧ read s.window (.sceneReadContinue n)) ∧
    (∀ w : Window, w.pastEnd = true → ∀ n, s.readLevels n w = (w, List.replicate n (s.cell w.scene w.channel))) ∧
    ∀ (t : SceneTally) (level : Nat),
      let u := (s.takeLevel t level).1
      let m := (s.takeLevel t level).2
      (s.window.pastEnd = true → u = s ∧ m = { t with dropped := t.dropped + 1 }) ∧
      (s.window.pastEnd = false → s.window.scene = 0 →
        u = { s with window := s.window.step } ∧ m = { t with dropped := t.dropped + 1 }) ∧
      (s.window.pastEnd = false → s.window.scene ≠ 0 →
        u.window = s.window.step ∧ u.cell s.window.scene s.window.channel = min 1000 level ∧
        (∀ sc ch, ¬ (sc = s.window.scene ∧ ch = s.window.channel) → u.cell sc ch = s.cell sc ch) ∧
        m.stored = t.stored + 1 ∧ m.dropped = t.dropped ∧ m.clamped = (t.clamped || decide (1000 < level)))) ∧
  ∀ w : Window, w.scene ≤ w.lastScene → w.channel ≤ w.lastChannel →
    let v := w.step
    let at_ (sc : SceneId) (ch : ChannelId) : Prop := v = { w with scene := sc, channel := ch }
    let last := w.scene = w.lastScene ∧ w.channel = w.lastChannel
    (w.order = .sceneMajor → w.channel < w.lastChannel → ∀ ch, ch.val = w.channel.val + 1 → at_ w.scene ch) ∧
    (w.order = .sceneMajor → w.channel = w.lastChannel → w.scene < w.lastScene →
      ∀ sc, sc.val = w.scene.val + 1 → at_ sc w.firstChannel) ∧
    (w.order = .channelMajor → w.scene < w.lastScene → ∀ sc, sc.val = w.scene.val + 1 → at_ sc w.channel) ∧
    (w.order = .channelMajor → w.scene = w.lastScene → w.channel < w.lastChannel →
      ∀ ch, ch.val = w.channel.val + 1 → at_ w.firstScene ch) ∧
    (last → w.wrap = .on → v = { w with scene := w.firstScene, channel := w.firstChannel, pastEnd := false }) ∧
    (last → w.wrap = .off → v = { w with pastEnd := true })

/-- SET_ECONOMY and SET_FACADE store what they carry and answer with it, or are refused RANGE (that SET_ECONOMY's answer
carries the state beside the cap is the model's reading, assumption 66); and what follows from them: the lighting
levels by the four steps, with scene and fade, and the blind targets by the ten lines (R154, R155, R156, R157, R158, R159,
R161). -/
def Obligations.EconomyAndFacadeSet : Prop :=
  (∀ s : State, s.slotOpen = true →
    (∀ cap, exec (.setEconomy none cap) s = .next (s.answered (.setEconomy none cap) .range .none)) ∧
    (∀ e cap,
      let c := clampNat 100 1000 cap
      Becomes (.setEconomy (some e) cap) s (({ s with economy := e, cap := c } : State).answered
        (.setEconomy (some e) cap) (okStatus (c ≠ cap)) (.economy e c))) ∧
    (∀ n (seen : Option Sun) season retract, asIndex 6 n = none ∨ seen = none ∨ season = none ∨ retract = none →
      exec (.setFacade n seen season retract) s =
        .next (s.answered (.setFacade n seen season retract) .range .none)) ∧
    ∀ n k seen season retract, asIndex 6 n = some k →
      let f : Facade := { sun := seen, season := season, retract := retract }
      let cmd := Instr.setFacade n (some seen) (some season) (some retract)
      Becomes cmd s (({ s with facades := s.facades.set k f } : State).answered cmd .ok (.facade k f))) ∧
  (∀ (s : State) (r : RoomId),
    let x := s.room r
    let p := s.govProfile r
    let out := s.formLight r
    let sent (l : Nat) : Nat := if s.economy = .on then min l s.cap else l
    let lit (scene : SceneId) (level : ChannelId → Nat) : Prop :=
      out.scene = some scene ∧ out.fade = p.fade ∧ ∀ ch, ch.val < x.cfg.channels →
        let l := level ch
        let lux := x.oce.lux.value.toNat
        let rest := if lux < p.luxTarget then l * (p.luxTarget - lux) / p.luxTarget else 0
        let l' := if x.cfg.daylight.get ch = true ∧ x.oce.lux.valid = true then min l (max rest p.minDim) else l
        let l'' := if l = 0 then 0 else (clampInt 0 1000 (l' + x.ctx.trim)).toNat
        out.levels.get ch = sent l''
    (s.govHandle r = none → p = s.profiles.get 0) ∧
    (∀ ch, x.cfg.channels ≤ ch.val → out.levels.get ch = 0) ∧
    (s.effective r = .service .precondition → lit p.scenePre (s.cell p.scenePre)) ∧
    (s.effective r = .service .awaiting → lit p.sceneAwait (s.cell p.sceneAwait)) ∧
    (s.effective r = .service .inUse ∨ s.effective r = .service .adHoc → lit p.sceneUse (s.cell p.sceneUse)) ∧
    (s.effective r = .service .vacated → lit p.sceneUse (fun ch => s.cell p.sceneUse ch / 2)) ∧
    (s.effective r = .service .overrun → lit p.sceneOver (s.cell p.sceneOver)) ∧
    (s.effective r = .service .setback ∨ s.effective r = .closed → out.scene = some 0 ∧ out.fade = p.fade ∧
      ((∀ ch, s.cell 0 ch = 0) → ∀ ch, out.levels.get ch = 0)) ∧
    (∀ h, s.effective r = .hold → x.ctx.hold = some h → out.scene = some h.scene ∧ out.fade = 0 ∧
      ∀ ch, ch.val < x.cfg.channels → out.levels.get ch = sent (s.cell h.scene ch)) ∧
    (s.effective r = .service .unconfigured → out.scene = none ∧ ∀ ch, out.levels.get ch = 0)) ∧
  ∀ (s : State) (r : RoomId) (b : BlindId),
    let x := s.room r
    let f := s.facades.get (x.cfg.facades.get b)
    let p := s.govProfile r
    let target := s.chooseTarget r b
    let used := ∃ svc, s.effective r = .service svc ∧ svc.occupiedClass = true
    let kept := x.ctx.overrides.get b = .none
    let policed := (used ∧ kept) ∨ s.effective r = .service .precondition
    let empty := s.effective r = .service .setback ∨ s.effective r = .closed
    (f.retract = .on → target = some 0) ∧
    (f.retract = .off →
      (∀ h, s.effective r = .hold → x.ctx.hold = some h → target = some (h.blinds.get b * 10)) ∧
      (s.effective r = .safe ∨ s.effective r = .service .unconfigured → target = none) ∧
      (used → x.ctx.overrides.get b = .up → target = some 0) ∧
      (used → x.ctx.overrides.get b = .down → target = some 1000) ∧
      (policed → p.policy = .projection ∨ p.policy = .fixed → target = some p.blindPos) ∧
      (policed → p.policy = .daylight → target = some (if f.sun = .glare then p.glarePos else 0)) ∧
      (empty → f.sun ≠ .none → target = some (if f.season = .cooling then 1000 else 0)) ∧
      (empty → f.sun = .none → target = none))

/-- BLIND_TRAVEL_COMPLETE and BLIND_PAUSE_END, where they are due, with the rules of the travel model behind them: the
modelled position, the token a command takes, how a move is planned, what a new target and a report's echo do, and the
stop that turns a blind (R162, R163, R164, R165, R166, R167, R168). The model's own are what a first reference run makes
of its pending target (assumption 20), the position UNKNOWN after the stop of a move that was never echoed (36), a
retract's replacement whatever the target (37), the position and origin of a move sent on in its direction (41), and the
completion at a first echo with remaining run 0 while a target is pending (62). -/
def Obligations.BlindMovesEnd : Prop :=
  (∀ (s : State) (r : RoomId) (b : BlindId),
    let x := (s.room r).blinds.get b
    let full := (s.room r).cfg.travels.get b
    (∀ c, x.cmd = some c → c.echoed = true → c.dir ≠ .stop → c.run ≤ x.timer.elapsed c.run → c.dest.isSome = true →
      ∃ t, exec (.blindTravelComplete r b) s = .next t ∧
        Follows (s.modifyBlind r b fun x => x.travelComplete full) t ∧
        ((t.room r).blinds.get b).position = c.dest ∧
        (∀ d, ((t.room r).blinds.get b).cmd = some d → d.echoed = false)) ∧
    (∀ n, x.pause = some n → 19661 ≤ n →
      ∃ t, exec (.blindPauseEnd r b) s = .next t ∧
        Follows (s.modifyBlind r b fun x => x.pauseEnd full) t ∧
        ((t.room r).blinds.get b).pause = none ∧ ((t.room r).blinds.get b).motion ≠ .pausing)) ∧
  (∀ (t : Travel) (run : Nat), t.elapsed run = min run (t.base + t.cycles * 10 / 32768)) ∧
  (∀ (unit : Token) (sent : List Token), sent.length ≤ 2 →
    freeToken unit sent ≠ unit ∧ freeToken unit sent ∉ sent ∧ ∀ k, k < freeToken unit sent → k = unit ∨ k ∈ sent) ∧
  (∀ (b : Blind) (full : Nat),
    let p := b.plan full
    let made (unit : Token) (dir : Dir) (run : Nat) (origin dest : Option Nat) (reference : Bool) : Prop :=
      p.cmd = some { token := freeToken unit b.sent, dir := dir, run := run, origin := origin, dest := dest,
                     reference := reference, echoed := false } ∧
      p.sent = b.sent ++ [freeToken unit b.sent] ∧ p.timer = { base := 0, cycles := 0 } ∧
      p.motion = (if dir = .up then .raising else .lowering) ∧ p.position = b.position ∧ p.target = b.target
    (b.motion ≠ .still ∨ b.cmd ≠ none ∨ b.unitToken = none ∨ b.target = none ∨ b.target = b.position → p = b) ∧
    ∀ unit target, b.motion = .still → b.cmd = none → b.unitToken = some unit → b.target = some target →
      (b.position = none → made unit .up ((full * 11 + 9) / 10) none (some 0) true ∧ p.moves = b.moves ∧
        p.pending = if target = 0 then none else some target) ∧
      ∀ origin, b.position = some origin → origin ≠ target →
        let run := (((target - origin) + (origin - target)) * full + 999) / 1000
        let reference : Bool := b.moves == 20 && (target == 0 || target == 1000)
        made unit (if target < origin then .up else .down) (if reference then (run * 11 + 9) / 10 else run)
            (some origin) (some target) reference ∧
          p.pending = b.pending ∧ p.moves = if reference then b.moves else min 20 (b.moves + 1)) ∧
  (∀ (b : Blind) (full target : Nat),
    let n := b.newTarget full target
    let stops (c : BlindCmd) (n : Blind) (target : Nat) : Prop :=
      n = { b with
        cmd := some { token := freeToken (b.unitToken.getD 0) b.sent, dir := .stop, run := 0, origin := none,
                      dest := none, reference := false, echoed := false }
        stopped := some { token := c.token, origin := c.origin, dest := c.dest, run := c.run, echoed := c.echoed }
        sent := b.sent ++ [freeToken (b.unitToken.getD 0) b.sent], pending := some target, motion := .stopping }
    (b.motion = .still → n = { b with target := some target }.plan full) ∧
    (b.motion = .stopping ∨ b.motion = .pausing → n = { b with pending := some target }) ∧
    (b.motion = .raising ∨ b.motion = .lowering → ∀ c, b.cmd = some c →
      (c.echoed = false → n = { b with pending := some target }) ∧
      ∀ o d m, c.echoed = true → c.origin = some o → c.dest = some d → b.modelled = some m →
        let ahead := (c.dir = .up ∧ target < m) ∨ (c.dir = .down ∧ m < target)
        (target = d → n = { b with target := some target }) ∧
        (target ≠ d → ¬ ahead → stops c n target) ∧
        (target ≠ d → ahead → ∃ k, n.cmd = some k ∧ k.token = freeToken (b.unitToken.getD 0) b.sent ∧
          k.origin = some m ∧ k.dest = some target ∧ k.dir = c.dir ∧ k.echoed = false ∧ n.target = some target ∧
          n.timer = { base := 0, cycles := 0 })) ∧
    ∀ c, b.cmd = some c → c.dir = .down → c.echoed = false → stops c (b.handTarget full true (some target)) 0) ∧
  (∀ (b : Blind) (full remaining : Nat) (token : Token),
    let n := b.reported full token remaining
    n.unitToken = some token ∧
    ∀ c, b.cmd = some c →
      (c.dir ≠ .stop → c.token = token → remaining = 0 → n.position = c.dest ∧ ∀ d, n.cmd = some d → d.echoed = false) ∧
      (c.dir ≠ .stop → c.token = token → 0 < remaining → c.echoed = true ∨ b.pending = none →
        n = { b with cmd := some { c with echoed := true }, sent := [], unitToken := some token,
                     timer := { base := c.run - remaining, cycles := 0 } }) ∧
      (c.dir ≠ .stop → c.token ≠ token → n.cmd = b.cmd ∧ n.motion = b.motion ∧ n.position = b.position ∧
        n.timer = b.timer ∧ n.pending = b.pending ∧ n.target = b.target) ∧
      (c.dir = .stop → c.token = token → remaining = 0 → b.motion = .stopping → ∀ m, b.stopped = some m →
        n.cmd = none ∧ n.stopped = none ∧ n.motion = .pausing ∧ n.pause = some 0 ∧ n.pending = b.pending ∧
        n.position = if m.echoed then b.modelled else none) ∧
      (c.dir = .stop → c.token ≠ token → ∀ m, b.stopped = some m → m.echoed = true → m.token = token →
        n.timer = { base := m.run - remaining, cycles := 0 } ∧ n.cmd = b.cmd)) ∧
  ∀ (b : Blind) (o d : Nat),
    let moved (elapsed run : Nat) : Nat := if o ≤ d then o + (d - o) * elapsed / run else o - (o - d) * elapsed / run
    (∀ c, (b.motion = .raising ∨ b.motion = .lowering) → b.cmd = some c → c.echoed = true → c.origin = some o →
      c.dest = some d → b.modelled = some (moved (b.timer.elapsed c.run) c.run)) ∧
    (∀ m, b.motion = .stopping → b.stopped = some m → m.echoed = true → m.origin = some o → m.dest = some d →
      b.modelled = some (moved (b.timer.elapsed m.run) m.run)) ∧
    (b.motion = .still ∨ b.motion = .pausing → b.modelled = b.position)

/-! ## The Room Loop Controller -/

/-- READMIT_STATION, READ_STATION and READ_LOOP_LOG (R184, R185, R186). -/
def Obligations.LoopCommandsAnswered : Prop :=
  ∀ (s : State) (a : Nat), s.slotOpen = true →
    (¬ (1 ≤ a ∧ a ≤ 62) → exec (.readmitStation a) s = .next (s.answered (.readmitStation a) .range .none) ∧
      exec (.readStation a) s = .next (s.answered (.readStation a) .range .none)) ∧
    (1 ≤ a → a ≤ 62 → s.stationAt a = none →
      exec (.readmitStation a) s = .next (s.answered (.readmitStation a) .notFound .none) ∧
      exec (.readStation a) s = .next (s.answered (.readStation a) .notFound .none)) ∧
    (∀ r x, 1 ≤ a → a ≤ 62 → s.stationAt a = some (r, x) →
      (s.room r).station = some x ∧ x.address = a ∧
      (let noted := if x.state = .off then { x with readmit := true } else x
       exec (.readmitStation a) s =
        .next ((s.modifyRoom r fun y => { y with station := some noted }).answered (.readmitStation a) .ok
          (.readmitted r x.state))) ∧
      exec (.readStation a) s =
        .next ((s.modifyRoom r fun y => { y with station := some { x with lastError := 7 } }).answered (.readStation a)
          .ok (.station r x s.loop.roundCount))) ∧
    exec .readLoopLog s =
      .next (({ s with loop := { s.loop with logCount := 0, logOverflow := false } } : State).answered .readLoopLog .ok
        (.loopLog s.loop.logCount s.loop.logOverflow s.loop.roundCount))

/-- ROUND_START and STATION_VISIT: a round begins at the first chance after a reset and then 500 ms after the last
began; it visits the lowest due address above the last considered, a PROBE where the station is OFF and a SETPOINT
otherwise, each frame by position; with none left it ends and the round count advances (R171, R176, R177, R178, R208).
That the round ends at the visit that finds no due station is the model's choice (assumption 28). -/
def Obligations.RoundsAndVisits : Prop :=
  (∀ s : State,
    (s.loop.active = false → s.loop.firstRound = true ∨ 16384 ≤ s.loop.roundTimer →
      exec .roundStart s =
        .next { s with loop := { s.loop with active := true, firstRound := false, roundTimer := 0,
                                             lastAddress := 0 } }) ∧
    (s.loop.active = true → exec .roundStart s = .next s) ∧
    (s.loop.active = true → s.loop.exchange = none → ∀ r x, s.nextDue = some (r, x) →
      (s.room r).station = some x ∧ s.loop.lastAddress < x.address ∧ s.due r x = true ∧
      (∀ q y, (s.room q).station = some y → s.loop.lastAddress < y.address → s.due q y = true →
        x.address ≤ y.address) ∧
      (let sent : Exchange :=
        if x.state = .off then
          { room := r, address := x.address, kind := .probe, frame := probeFrame x.address, orphan := false }
        else
          { room := r, address := x.address, kind := .setpoint, frame := s.setpointFrame r x, orphan := false }
       exec .stationVisit s =
        .next { s with loop := { s.loop with lastAddress := x.address, exchange := some sent } })) ∧
    (s.loop.active = true → s.loop.exchange = none → s.nextDue = none →
      (∀ q y, (s.room q).station = some y → s.loop.lastAddress < y.address → s.due q y = false) ∧
      exec .stationVisit s =
        .next { s with loop := { s.loop with active := false, roundCount := (s.loop.roundCount + 1) % 65536 } })) ∧
  ∀ (s : State) (r : RoomId) (x : Station),
    let frame := s.setpointFrame r x
    let at_ (k : Nat) (field : List Byte) : Prop := (frame.drop k).take field.length = field
    let two (n : Nat) : List Byte := [BitVec.ofNat 8 n, BitVec.ofNat 8 (n / 256)]
    let signed (i : Int) : List Byte := two (BitVec.ofInt 16 i).toNat
    let checked (bs : List Byte) (n : Nat) : Prop := bs.length = n + 2 ∧ bs.drop n = two (crc (bs.take n)).toNat
    checked frame 33 ∧ checked (probeFrame x.address) 3 ∧
    (probeFrame x.address).take 3 = [BitVec.ofNat 8 x.address, 0x22, 0] ∧
    at_ 0 [BitVec.ofNat 8 x.address, 0x21, 30] ∧ at_ 3 [BitVec.ofNat 8 (s.indicator r)] ∧ at_ 4 (two (s.nextStart r)) ∧
    at_ 6 [match s.extendResult r with
      | .none => 0
      | .granted => 1
      | .refused => 2] ∧
    at_ 7 [match x.lastEvent with
      | some k => BitVec.ofNat 8 k.val
      | none => 0xFF] ∧
    (∀ band, s.band r = some band → at_ 8 (signed band.heat) ∧ at_ 10 (signed band.cool)) ∧
    at_ 12 (two (s.room r).air.f) ∧ at_ 14 (two (s.room r).air.grant) ∧
    (∀ ch : ChannelId, at_ (16 + 2 * ch.val) (two ((s.room r).light.levels.get ch))) ∧
    at_ 24 [BitVec.ofNat 8 (s.room r).light.fade] ∧
    ∀ b : BlindId,
      (∀ c, b.val < (s.room r).cfg.blindCount → ((s.room r).blinds.get b).cmd = some c →
        at_ (25 + 4 * b.val) ([BitVec.ofNat 8 c.token.val, match c.dir with
          | .up => 0
          | .down => 1
          | .stop => 2] ++ two c.run)) ∧
      ((s.room r).cfg.blindCount ≤ b.val ∨ ((s.room r).blinds.get b).cmd = none → at_ (25 + 4 * b.val) [0xFF])

/-- NO_REPLY, and a REPORT_RECEIVED that fails a check: the failure counts in the loop log; it adds 8 to the health of
a station that is not OFF, which at 256 becomes OFF with its room SAFE; it sets a probed station's good probes to 0;
an exchange whose room has lost the station record moves no count (R172, R174, R181, R182, R183, R186). -/
def Obligations.ExchangeFails : Prop :=
  ∀ (s : State) (x : Exchange) (c : Instr) (code : Nat), s.loop.exchange = some x →
    (c = .noReply ∧ code = 1) ∨
      (∃ reply e, c = .reportReceived reply ∧ judge x.address reply = .error e ∧ code = e.code) →
    ∃ t, exec c s = .next t ∧ Follows (s.fail x code) t ∧ t.loop.exchange = none ∧ t.port.slot = s.port.slot ∧
      (s.loop.logCount < 255 → t.loop.logCount = s.loop.logCount + 1 ∧ t.loop.logOverflow = s.loop.logOverflow) ∧
      (255 ≤ s.loop.logCount → t.loop.logCount = s.loop.logCount ∧ t.loop.logOverflow = true ∧
        t.flagged .loopLogOverflow = true) ∧
      (∀ q, q ≠ x.room ∨ x.orphan = true →
        (t.room q).station = (s.room q).station ∧ (t.room q).ctx.safe = (s.room q).ctx.safe) ∧
      ∀ st, x.orphan = false → (s.room x.room).station = some st →
        (x.kind = .setpoint → st.health + 8 < 256 →
          (t.room x.room).station =
            some { st with lastError := code, health := st.health + 8,
                           state := if st.health + 8 < 96 then .active
                             else if st.health + 8 < 128 then .warning else .degraded } ∧
          (t.room x.room).ctx.safe = (s.room x.room).ctx.safe ∧
          (96 ≤ st.health + 8 → st.health + 8 < 128 → st.state ≠ .warning → t.flagged .stationWarning = true)) ∧
        (x.kind = .setpoint → 256 ≤ st.health + 8 →
          (t.room x.room).station =
            some { st with lastError := code, health := 255, state := .off, goodProbes := 0,
                           readmit := !s.port.present } ∧
          (t.room x.room).ctx.safe = true ∧ t.flagged .stationOff = true) ∧
        (x.kind = .probe →
          (t.room x.room).station = some { st with lastError := code, goodProbes := 0 } ∧
          (t.room x.room).ctx.safe = (s.room x.room).ctx.safe)

/-- REPORT_RECEIVED with a reply that passes every check: a SETPOINT exchange takes 1 from the station's health and
hands the report on; a PROBE counts towards the eighth, at which the station returns ACTIVE and its room leaves SAFE. The
estimator calibrates what is valid, differences the door counters and moves tally and presence; a panel event is taken
unless its number was the last, and its press moves trim or override where it is heard (R78, R82, R83, R110, R111, R112,
R114, R172, R173, R179, R181, R183). -/
def Obligations.GoodReportDelivered : Prop :=
  (∀ (s : State) (x : Exchange) (reply : Reply) (rep : Report) (st : Station), s.loop.exchange = some x →
    x.orphan = false → judge x.address reply = .ok rep → (s.room x.room).station = some st →
    ∃ t, exec (.reportReceived reply) s = .next t ∧ t.loop = { s.loop with exchange := none } ∧
      t.port.slot = s.port.slot ∧ t.store.slots = s.store.slots ∧
      (∀ q, q ≠ x.room → (t.room q).station = (s.room q).station ∧ (t.room q).cfg = (s.room q).cfg) ∧
      (x.kind = .setpoint → ∃ y, (t.room x.room).station = some y ∧ y.address = st.address ∧
        y.health = st.health - 1 ∧ y.lastError = 0 ∧ y.goodProbes = st.goodProbes ∧ y.readmit = st.readmit ∧
        y.state = (if st.health - 1 < 96 then .active else if st.health - 1 < 128 then .warning else .degraded) ∧
        y.lastEvent = (if rep.eventCode = 0 then (if rep.flags.restarted then none else st.lastEvent)
          else some rep.eventNumber) ∧
        (t.room x.room).ctx.safe = (s.room x.room).ctx.safe ∧
        ((s.room x.room).cfg.enabled = true → (s.room x.room).ctx.safe = false →
          let o := (s.room x.room).oce
          let n := (t.room x.room).oce
          let c := (s.room x.room).cfg
          let scaled (top raw gain : Nat) (offset : Int) : Int :=
            clampInt 0 top (((min raw top * gain + 512) / 1024 : Nat) + offset)
          let counted := c.doorCounting = true ∧ rep.flags.doorFault = false
          let since (base : Option Nat) (count : Nat) : Nat :=
            if counted ∧ rep.flags.restarted = false ∧ o.entriesBase.isSome = true ∧ o.exitsBase.isSome = true then
              (count + 256 - base.getD 0) % 256
            else 0
          let observed (e : Estimate) (limit : Nat) (times : PresenceTimes) : Estimate :=
            e.observe limit times (min rep.motion 15) (since o.entriesBase rep.entries) (since o.exitsBase rep.exits)
              s.oceNow
          n.age = some 0 ∧ n.flags = rep.flags ∧ n.motion = min rep.motion 15 ∧ n.cal = o.cal ∧
          n.co2 = (if rep.co2 = 65535 ∨ rep.flags.co2Fault = true then { o.co2 with valid := false }
            else ⟨scaled 5000 rep.co2 o.cal.co2Gain o.cal.co2Offset, true⟩) ∧
          n.lux = (if rep.lux = 65535 ∨ rep.flags.luxFault = true then { o.lux with valid := false }
            else ⟨scaled 20000 rep.lux o.cal.luxGain o.cal.luxOffset, true⟩) ∧
          n.temp = (if rep.temp = -32768 then { o.temp with valid := false }
            else ⟨clampInt (-200) 600 (clampInt (-200) 600 rep.temp + o.cal.tempOffset), true⟩) ∧
          n.theta = (if rep.theta = 255 then { o.theta with valid := false } else ⟨(min rep.theta 100 : Nat), true⟩) ∧
          n.entriesBase = (if counted then some rep.entries else none) ∧
          n.exitsBase = (if counted then some rep.exits else none) ∧
          (s.groupOf x.room = none →
            n.est = observed o.est (c.seats * 5 / 4)
              { confirm := c.confirmTime, quiet := c.quietTime, still := (s.govProfile x.room).still } ∧
            (rep.eventCode = 0 →
              let moved := ((s.modifyOce x.room fun _ => n).presenceMoved x.room o.est.presence n.est.presence).room x.room
              (t.room x.room).ctx.service = moved.ctx.service ∧ (t.room x.room).ctx.gov = moved.ctx.gov)) ∧
          ∀ g p, s.mergedOf x.room = some (g, p) →
            (∀ k, p.contactOf x.room = some k → k.reading = if rep.contactOpen then .opened else .closed) →
            let limit := (p.members.map fun m => (s.room m).cfg.seats * 5 / 4).sum
            t.groups.get g = some { p with shared := observed p.shared limit (s.presenceTimes x.room) })) ∧
      (x.kind = .probe → st.goodProbes < 7 →
        (t.room x.room).station = some { st with lastError := 0, goodProbes := st.goodProbes + 1 } ∧
        (t.room x.room).ctx.safe = (s.room x.room).ctx.safe ∧ (t.room x.room).oce = (s.room x.room).oce) ∧
      (x.kind = .probe → 7 ≤ st.goodProbes →
        (t.room x.room).station =
          some { st with lastError := 0, state := .active, health := 0, goodProbes := 0, readmit := false } ∧
        (t.room x.room).ctx.safe = false)) ∧
  (∀ (s : State) (r : RoomId) (rep : Report) (st : Station), (s.room r).station = some st →
    let noted := s.modifyRoom r fun y => { y with station := some { st with lastEvent := some rep.eventNumber } }
    (rep.eventCode = 0 ∨ st.lastEvent = some rep.eventNumber → s.takeEvent r rep = s) ∧
    (rep.eventCode ≠ 0 → st.lastEvent ≠ some rep.eventNumber →
      (∀ e, panelEventOf rep.eventCode = some e → s.takeEvent r rep = noted.panelEvent r e) ∧
      (panelEventOf rep.eventCode = none → s.takeEvent r rep = noted))) ∧
  ((List.range 9).map panelEventOf = [none, some .extend, some .endNow, some .lightsUp, some .lightsDown,
      some (.blindsUp 0), some (.blindsUp 1), some (.blindsDown 0), some (.blindsDown 1)] ∧
    ∀ n, 9 ≤ n → panelEventOf n = none) ∧
  ∀ (s : State) (r : RoomId) (b : BlindId),
    let heard := ∃ svc, s.effective r = .service svc ∧ svc ≠ .unconfigured
    let pressed (e : PanelEvent) (by_ : Int) : Prop :=
      (¬ heard → s.panelEvent r e = s) ∧
      (heard → ∀ m, (s.mergedOf r = none ∧ m = r) ∨ (∃ g p, s.mergedOf r = some (g, p) ∧ p.members.Nodup ∧ m ∈ p.members) →
        (s.panelEvent r e).room m =
          { s.room m with ctx := { (s.room m).ctx with trim := clampInt (-500) 500 ((s.room m).ctx.trim + by_) } })
    let pulled (e : PanelEvent) (o : Override) : Prop :=
      (heard → b.val < (s.room r).cfg.blindCount →
        s.panelEvent r e = s.modifyCtx r fun c => { c with overrides := c.overrides.set b o }) ∧
      (¬ heard ∨ (s.room r).cfg.blindCount ≤ b.val → s.panelEvent r e = s)
    pressed .lightsUp 100 ∧ pressed .lightsDown (-100) ∧ pulled (.blindsUp b) .up ∧ pulled (.blindsDown b) .down

/-! ## Invariants: what every step keeps -/

/-- Every step keeps the scene table and its window within their ranges, with scene 0 dark (R148 to R152). -/
def Obligations.ScenesKept : Prop := ∀ s t : State, ScenesOk s → step s = .next t → ScenesOk t

/-- Every step keeps every floor within its demand, and every pass within its capacity and its demands (R130, R142). -/
def Obligations.AirKeptWithinCapacity : Prop := ∀ s t : State, AirOk s → step s = .next t → AirOk t

/-- Every step keeps a room SAFE exactly when its station is OFF, every health count within 0..255, and a station for
exactly the enabled rooms (R175, R181, R182). -/
def Obligations.StationsKept : Prop := ∀ s t : State, StationsOk s → step s = .next t → StationsOk t

/-- Every step keeps the clock's fields within their ranges and the closures in order, at most 24 (R46, R47, R48). -/
def Obligations.ClockKept : Prop := ∀ s t : State, ClockOk s → step s = .next t → ClockOk t

/-- Every step keeps every record within the ranges of R18 and every generation within 0..15 (R18, R19). -/
def Obligations.RecordsKept : Prop := ∀ s t : State, RecordsOk s → step s = .next t → RecordsOk t

/-- Every step keeps a change set that is not empty flagged (R194, R195, R196). -/
def Obligations.ChangesKept : Prop := ∀ s t : State, ChangesOk s → step s = .next t → ChangesOk t

/-- Every step leaves every demand record and every lighting record formed from its inputs as they then stand (R126,
R153). -/
def Obligations.OutputsKept : Prop := ∀ s t : State, OutputsFollow s → step s = .next t → OutputsFollow t

/-- The state after reset meets every one of these. -/
def Obligations.ResetMeetsInvariants : Prop :=
  ScenesOk State.reset ∧ AirOk State.reset ∧ StationsOk State.reset ∧ ClockOk State.reset ∧ RecordsOk State.reset ∧
    ChangesOk State.reset ∧ OutputsFollow State.reset

end
end

