-- ==== Sys2Proof/Laws/State.lean ====
section
/-! SUPPORT. What each update of the state leaves as it was: one lemma per field and update, and the laws of tables. -/
namespace Sys2Proof

/-! ## Tables -/

@[simp] theorem Table.get_set_self {n : Nat} {α : Type} (t : Table n α) (i : Fin n) (x : α) :
    (t.set i x).get i = x := by simp [Table.get, Table.set]

theorem Table.get_set_other {n : Nat} {α : Type} (t : Table n α) {i j : Fin n} (x : α) (h : j ≠ i) :
    (t.set i x).get j = t.get j := by
  have : i.val ≠ j.val := fun e => h (Fin.ext e.symm)
  simp [Table.get, Table.set, this]

theorem Table.get_set {n : Nat} {α : Type} (t : Table n α) (i j : Fin n) (x : α) :
    (t.set i x).get j = if j = i then x else t.get j := by
  by_cases h : j = i
  · subst h; simp
  · simp [h, Table.get_set_other t x h]

@[simp] theorem Table.get_modify_self {n : Nat} {α : Type} (t : Table n α) (i : Fin n) (f : α → α) :
    (t.modify i f).get i = f (t.get i) := by simp [Table.modify]

theorem Table.get_modify {n : Nat} {α : Type} (t : Table n α) (i j : Fin n) (f : α → α) :
    (t.modify i f).get j = if j = i then f (t.get i) else t.get j := by simp [Table.modify, Table.get_set]

@[simp] theorem Table.get_fill {n : Nat} {α : Type} (x : α) (i : Fin n) : (Table.fill n x).get i = x := by
  simp [Table.get, Table.fill]

@[simp] theorem Table.get_ofFn {n : Nat} {α : Type} (f : Fin n → α) (i : Fin n) : (Table.ofFn f).get i = f i := by
  simp [Table.get, Table.ofFn]

@[simp] theorem Table.get_mapIdx {n : Nat} {α β : Type} (t : Table n α) (f : Fin n → α → β) (i : Fin n) :
    (t.mapIdx f).get i = f i (t.get i) := by simp [Table.get, Table.mapIdx]

theorem Table.ext_get {n : Nat} {α : Type} {t u : Table n α} (h : ∀ i, t.get i = u.get i) : t = u := by
  cases t with
  | mk l hl =>
    cases u with
    | mk m hm =>
      have : l = m := by
        apply List.ext_getElem (by omega)
        intro i h1 h2
        exact h ⟨i, by omega⟩
      subst this; rfl

end Sys2Proof

namespace Sys2Proof.Machine

/-! ## Rooms -/

@[simp] theorem room_setRoom_self (s : State) (r : RoomId) (x : Room) : (s.setRoom r x).room r = x := by
  simp [State.room, State.setRoom]

theorem room_setRoom (s : State) (r q : RoomId) (x : Room) :
    (s.setRoom r x).room q = if q = r then x else s.room q := by simp [State.room, State.setRoom, Table.get_set]

@[simp] theorem room_modifyRoom_self (s : State) (r : RoomId) (f : Room → Room) :
    (s.modifyRoom r f).room r = f (s.room r) := by simp [State.modifyRoom]

theorem room_modifyRoom (s : State) (r q : RoomId) (f : Room → Room) :
    (s.modifyRoom r f).room q = if q = r then f (s.room r) else s.room q := by simp [State.modifyRoom, room_setRoom]

theorem room_modifyRoom_other (s : State) {r q : RoomId} (f : Room → Room) (h : q ≠ r) :
    (s.modifyRoom r f).room q = s.room q := by simp [room_modifyRoom, h]

@[simp] theorem room_mapRooms (s : State) (f : RoomId → Room → Room) (r : RoomId) :
    (s.mapRooms f).room r = f r (s.room r) := by simp [State.room, State.mapRooms]

/-! ### State.setRoom -/

@[simp] theorem setRoom_port (s : State) (r : RoomId) (x : Room) : (s.setRoom r x).port = s.port := rfl
@[simp] theorem setRoom_store (s : State) (r : RoomId) (x : Room) : (s.setRoom r x).store = s.store := rfl
@[simp] theorem setRoom_cal (s : State) (r : RoomId) (x : Room) : (s.setRoom r x).cal = s.cal := rfl
@[simp] theorem setRoom_groups (s : State) (r : RoomId) (x : Room) : (s.setRoom r x).groups = s.groups := rfl
@[simp] theorem setRoom_profiles (s : State) (r : RoomId) (x : Room) : (s.setRoom r x).profiles = s.profiles := rfl
@[simp] theorem setRoom_setback (s : State) (r : RoomId) (x : Room) : (s.setRoom r x).setback = s.setback := rfl
@[simp] theorem setRoom_openFirst (s : State) (r : RoomId) (x : Room) : (s.setRoom r x).openFirst = s.openFirst := rfl
@[simp] theorem setRoom_openLast (s : State) (r : RoomId) (x : Room) : (s.setRoom r x).openLast = s.openLast := rfl
@[simp] theorem setRoom_oceNow (s : State) (r : RoomId) (x : Room) : (s.setRoom r x).oceNow = s.oceNow := rfl
@[simp] theorem setRoom_airs (s : State) (r : RoomId) (x : Room) : (s.setRoom r x).airs = s.airs := rfl
@[simp] theorem setRoom_scenes (s : State) (r : RoomId) (x : Room) : (s.setRoom r x).scenes = s.scenes := rfl
@[simp] theorem setRoom_window (s : State) (r : RoomId) (x : Room) : (s.setRoom r x).window = s.window := rfl
@[simp] theorem setRoom_economy (s : State) (r : RoomId) (x : Room) : (s.setRoom r x).economy = s.economy := rfl
@[simp] theorem setRoom_cap (s : State) (r : RoomId) (x : Room) : (s.setRoom r x).cap = s.cap := rfl
@[simp] theorem setRoom_facades (s : State) (r : RoomId) (x : Room) : (s.setRoom r x).facades = s.facades := rfl
@[simp] theorem setRoom_loop (s : State) (r : RoomId) (x : Room) : (s.setRoom r x).loop = s.loop := rfl
@[simp] theorem setRoom_divider (s : State) (r : RoomId) (x : Room) : (s.setRoom r x).divider = s.divider := rfl
@[simp] theorem setRoom_pending (s : State) (r : RoomId) (x : Room) : (s.setRoom r x).pending = s.pending := rfl

/-! ### State.modifyRoom -/

@[simp] theorem modifyRoom_port (s : State) (r : RoomId) (f : Room → Room) : (s.modifyRoom r f).port = s.port := rfl
@[simp] theorem modifyRoom_store (s : State) (r : RoomId) (f : Room → Room) : (s.modifyRoom r f).store = s.store := rfl
@[simp] theorem modifyRoom_cal (s : State) (r : RoomId) (f : Room → Room) : (s.modifyRoom r f).cal = s.cal := rfl
@[simp] theorem modifyRoom_groups (s : State) (r : RoomId) (f : Room → Room) : (s.modifyRoom r f).groups = s.groups := rfl
@[simp] theorem modifyRoom_profiles (s : State) (r : RoomId) (f : Room → Room) : (s.modifyRoom r f).profiles = s.profiles := rfl
@[simp] theorem modifyRoom_setback (s : State) (r : RoomId) (f : Room → Room) : (s.modifyRoom r f).setback = s.setback := rfl
@[simp] theorem modifyRoom_openFirst (s : State) (r : RoomId) (f : Room → Room) : (s.modifyRoom r f).openFirst = s.openFirst := rfl
@[simp] theorem modifyRoom_openLast (s : State) (r : RoomId) (f : Room → Room) : (s.modifyRoom r f).openLast = s.openLast := rfl
@[simp] theorem modifyRoom_oceNow (s : State) (r : RoomId) (f : Room → Room) : (s.modifyRoom r f).oceNow = s.oceNow := rfl
@[simp] theorem modifyRoom_airs (s : State) (r : RoomId) (f : Room → Room) : (s.modifyRoom r f).airs = s.airs := rfl
@[simp] theorem modifyRoom_scenes (s : State) (r : RoomId) (f : Room → Room) : (s.modifyRoom r f).scenes = s.scenes := rfl
@[simp] theorem modifyRoom_window (s : State) (r : RoomId) (f : Room → Room) : (s.modifyRoom r f).window = s.window := rfl
@[simp] theorem modifyRoom_economy (s : State) (r : RoomId) (f : Room → Room) : (s.modifyRoom r f).economy = s.economy := rfl
@[simp] theorem modifyRoom_cap (s : State) (r : RoomId) (f : Room → Room) : (s.modifyRoom r f).cap = s.cap := rfl
@[simp] theorem modifyRoom_facades (s : State) (r : RoomId) (f : Room → Room) : (s.modifyRoom r f).facades = s.facades := rfl
@[simp] theorem modifyRoom_loop (s : State) (r : RoomId) (f : Room → Room) : (s.modifyRoom r f).loop = s.loop := rfl
@[simp] theorem modifyRoom_divider (s : State) (r : RoomId) (f : Room → Room) : (s.modifyRoom r f).divider = s.divider := rfl
@[simp] theorem modifyRoom_pending (s : State) (r : RoomId) (f : Room → Room) : (s.modifyRoom r f).pending = s.pending := rfl

/-! ### State.modifyCtx -/

@[simp] theorem modifyCtx_port (s : State) (r : RoomId) (f : Context → Context) : (s.modifyCtx r f).port = s.port := rfl
@[simp] theorem modifyCtx_store (s : State) (r : RoomId) (f : Context → Context) : (s.modifyCtx r f).store = s.store := rfl
@[simp] theorem modifyCtx_cal (s : State) (r : RoomId) (f : Context → Context) : (s.modifyCtx r f).cal = s.cal := rfl
@[simp] theorem modifyCtx_groups (s : State) (r : RoomId) (f : Context → Context) : (s.modifyCtx r f).groups = s.groups := rfl
@[simp] theorem modifyCtx_profiles (s : State) (r : RoomId) (f : Context → Context) : (s.modifyCtx r f).profiles = s.profiles := rfl
@[simp] theorem modifyCtx_setback (s : State) (r : RoomId) (f : Context → Context) : (s.modifyCtx r f).setback = s.setback := rfl
@[simp] theorem modifyCtx_openFirst (s : State) (r : RoomId) (f : Context → Context) : (s.modifyCtx r f).openFirst = s.openFirst := rfl
@[simp] theorem modifyCtx_openLast (s : State) (r : RoomId) (f : Context → Context) : (s.modifyCtx r f).openLast = s.openLast := rfl
@[simp] theorem modifyCtx_oceNow (s : State) (r : RoomId) (f : Context → Context) : (s.modifyCtx r f).oceNow = s.oceNow := rfl
@[simp] theorem modifyCtx_airs (s : State) (r : RoomId) (f : Context → Context) : (s.modifyCtx r f).airs = s.airs := rfl
@[simp] theorem modifyCtx_scenes (s : State) (r : RoomId) (f : Context → Context) : (s.modifyCtx r f).scenes = s.scenes := rfl
@[simp] theorem modifyCtx_window (s : State) (r : RoomId) (f : Context → Context) : (s.modifyCtx r f).window = s.window := rfl
@[simp] theorem modifyCtx_economy (s : State) (r : RoomId) (f : Context → Context) : (s.modifyCtx r f).economy = s.economy := rfl
@[simp] theorem modifyCtx_cap (s : State) (r : RoomId) (f : Context → Context) : (s.modifyCtx r f).cap = s.cap := rfl
@[simp] theorem modifyCtx_facades (s : State) (r : RoomId) (f : Context → Context) : (s.modifyCtx r f).facades = s.facades := rfl
@[simp] theorem modifyCtx_loop (s : State) (r : RoomId) (f : Context → Context) : (s.modifyCtx r f).loop = s.loop := rfl
@[simp] theorem modifyCtx_divider (s : State) (r : RoomId) (f : Context → Context) : (s.modifyCtx r f).divider = s.divider := rfl
@[simp] theorem modifyCtx_pending (s : State) (r : RoomId) (f : Context → Context) : (s.modifyCtx r f).pending = s.pending := rfl

/-! ### State.modifyOce -/

@[simp] theorem modifyOce_port (s : State) (r : RoomId) (f : Estimator → Estimator) : (s.modifyOce r f).port = s.port := rfl
@[simp] theorem modifyOce_store (s : State) (r : RoomId) (f : Estimator → Estimator) : (s.modifyOce r f).store = s.store := rfl
@[simp] theorem modifyOce_cal (s : State) (r : RoomId) (f : Estimator → Estimator) : (s.modifyOce r f).cal = s.cal := rfl
@[simp] theorem modifyOce_groups (s : State) (r : RoomId) (f : Estimator → Estimator) : (s.modifyOce r f).groups = s.groups := rfl
@[simp] theorem modifyOce_profiles (s : State) (r : RoomId) (f : Estimator → Estimator) : (s.modifyOce r f).profiles = s.profiles := rfl
@[simp] theorem modifyOce_setback (s : State) (r : RoomId) (f : Estimator → Estimator) : (s.modifyOce r f).setback = s.setback := rfl
@[simp] theorem modifyOce_openFirst (s : State) (r : RoomId) (f : Estimator → Estimator) : (s.modifyOce r f).openFirst = s.openFirst := rfl
@[simp] theorem modifyOce_openLast (s : State) (r : RoomId) (f : Estimator → Estimator) : (s.modifyOce r f).openLast = s.openLast := rfl
@[simp] theorem modifyOce_oceNow (s : State) (r : RoomId) (f : Estimator → Estimator) : (s.modifyOce r f).oceNow = s.oceNow := rfl
@[simp] theorem modifyOce_airs (s : State) (r : RoomId) (f : Estimator → Estimator) : (s.modifyOce r f).airs = s.airs := rfl
@[simp] theorem modifyOce_scenes (s : State) (r : RoomId) (f : Estimator → Estimator) : (s.modifyOce r f).scenes = s.scenes := rfl
@[simp] theorem modifyOce_window (s : State) (r : RoomId) (f : Estimator → Estimator) : (s.modifyOce r f).window = s.window := rfl
@[simp] theorem modifyOce_economy (s : State) (r : RoomId) (f : Estimator → Estimator) : (s.modifyOce r f).economy = s.economy := rfl
@[simp] theorem modifyOce_cap (s : State) (r : RoomId) (f : Estimator → Estimator) : (s.modifyOce r f).cap = s.cap := rfl
@[simp] theorem modifyOce_facades (s : State) (r : RoomId) (f : Estimator → Estimator) : (s.modifyOce r f).facades = s.facades := rfl
@[simp] theorem modifyOce_loop (s : State) (r : RoomId) (f : Estimator → Estimator) : (s.modifyOce r f).loop = s.loop := rfl
@[simp] theorem modifyOce_divider (s : State) (r : RoomId) (f : Estimator → Estimator) : (s.modifyOce r f).divider = s.divider := rfl
@[simp] theorem modifyOce_pending (s : State) (r : RoomId) (f : Estimator → Estimator) : (s.modifyOce r f).pending = s.pending := rfl

/-! ### State.modifyAir -/

@[simp] theorem modifyAir_port (s : State) (r : RoomId) (f : Demand → Demand) : (s.modifyAir r f).port = s.port := rfl
@[simp] theorem modifyAir_store (s : State) (r : RoomId) (f : Demand → Demand) : (s.modifyAir r f).store = s.store := rfl
@[simp] theorem modifyAir_cal (s : State) (r : RoomId) (f : Demand → Demand) : (s.modifyAir r f).cal = s.cal := rfl
@[simp] theorem modifyAir_groups (s : State) (r : RoomId) (f : Demand → Demand) : (s.modifyAir r f).groups = s.groups := rfl
@[simp] theorem modifyAir_profiles (s : State) (r : RoomId) (f : Demand → Demand) : (s.modifyAir r f).profiles = s.profiles := rfl
@[simp] theorem modifyAir_setback (s : State) (r : RoomId) (f : Demand → Demand) : (s.modifyAir r f).setback = s.setback := rfl
@[simp] theorem modifyAir_openFirst (s : State) (r : RoomId) (f : Demand → Demand) : (s.modifyAir r f).openFirst = s.openFirst := rfl
@[simp] theorem modifyAir_openLast (s : State) (r : RoomId) (f : Demand → Demand) : (s.modifyAir r f).openLast = s.openLast := rfl
@[simp] theorem modifyAir_oceNow (s : State) (r : RoomId) (f : Demand → Demand) : (s.modifyAir r f).oceNow = s.oceNow := rfl
@[simp] theorem modifyAir_airs (s : State) (r : RoomId) (f : Demand → Demand) : (s.modifyAir r f).airs = s.airs := rfl
@[simp] theorem modifyAir_scenes (s : State) (r : RoomId) (f : Demand → Demand) : (s.modifyAir r f).scenes = s.scenes := rfl
@[simp] theorem modifyAir_window (s : State) (r : RoomId) (f : Demand → Demand) : (s.modifyAir r f).window = s.window := rfl
@[simp] theorem modifyAir_economy (s : State) (r : RoomId) (f : Demand → Demand) : (s.modifyAir r f).economy = s.economy := rfl
@[simp] theorem modifyAir_cap (s : State) (r : RoomId) (f : Demand → Demand) : (s.modifyAir r f).cap = s.cap := rfl
@[simp] theorem modifyAir_facades (s : State) (r : RoomId) (f : Demand → Demand) : (s.modifyAir r f).facades = s.facades := rfl
@[simp] theorem modifyAir_loop (s : State) (r : RoomId) (f : Demand → Demand) : (s.modifyAir r f).loop = s.loop := rfl
@[simp] theorem modifyAir_divider (s : State) (r : RoomId) (f : Demand → Demand) : (s.modifyAir r f).divider = s.divider := rfl
@[simp] theorem modifyAir_pending (s : State) (r : RoomId) (f : Demand → Demand) : (s.modifyAir r f).pending = s.pending := rfl

/-! ### State.modifyStation -/

@[simp] theorem modifyStation_port (s : State) (r : RoomId) (f : Station → Station) : (s.modifyStation r f).port = s.port := rfl
@[simp] theorem modifyStation_store (s : State) (r : RoomId) (f : Station → Station) : (s.modifyStation r f).store = s.store := rfl
@[simp] theorem modifyStation_cal (s : State) (r : RoomId) (f : Station → Station) : (s.modifyStation r f).cal = s.cal := rfl
@[simp] theorem modifyStation_groups (s : State) (r : RoomId) (f : Station → Station) : (s.modifyStation r f).groups = s.groups := rfl
@[simp] theorem modifyStation_profiles (s : State) (r : RoomId) (f : Station → Station) : (s.modifyStation r f).profiles = s.profiles := rfl
@[simp] theorem modifyStation_setback (s : State) (r : RoomId) (f : Station → Station) : (s.modifyStation r f).setback = s.setback := rfl
@[simp] theorem modifyStation_openFirst (s : State) (r : RoomId) (f : Station → Station) : (s.modifyStation r f).openFirst = s.openFirst := rfl
@[simp] theorem modifyStation_openLast (s : State) (r : RoomId) (f : Station → Station) : (s.modifyStation r f).openLast = s.openLast := rfl
@[simp] theorem modifyStation_oceNow (s : State) (r : RoomId) (f : Station → Station) : (s.modifyStation r f).oceNow = s.oceNow := rfl
@[simp] theorem modifyStation_airs (s : State) (r : RoomId) (f : Station → Station) : (s.modifyStation r f).airs = s.airs := rfl
@[simp] theorem modifyStation_scenes (s : State) (r : RoomId) (f : Station → Station) : (s.modifyStation r f).scenes = s.scenes := rfl
@[simp] theorem modifyStation_window (s : State) (r : RoomId) (f : Station → Station) : (s.modifyStation r f).window = s.window := rfl
@[simp] theorem modifyStation_economy (s : State) (r : RoomId) (f : Station → Station) : (s.modifyStation r f).economy = s.economy := rfl
@[simp] theorem modifyStation_cap (s : State) (r : RoomId) (f : Station → Station) : (s.modifyStation r f).cap = s.cap := rfl
@[simp] theorem modifyStation_facades (s : State) (r : RoomId) (f : Station → Station) : (s.modifyStation r f).facades = s.facades := rfl
@[simp] theorem modifyStation_loop (s : State) (r : RoomId) (f : Station → Station) : (s.modifyStation r f).loop = s.loop := rfl
@[simp] theorem modifyStation_divider (s : State) (r : RoomId) (f : Station → Station) : (s.modifyStation r f).divider = s.divider := rfl
@[simp] theorem modifyStation_pending (s : State) (r : RoomId) (f : Station → Station) : (s.modifyStation r f).pending = s.pending := rfl

/-! ### State.modifyBlind -/

@[simp] theorem modifyBlind_port (s : State) (r : RoomId) (b : BlindId) (f : Blind → Blind) : (s.modifyBlind r b f).port = s.port := rfl
@[simp] theorem modifyBlind_store (s : State) (r : RoomId) (b : BlindId) (f : Blind → Blind) : (s.modifyBlind r b f).store = s.store := rfl
@[simp] theorem modifyBlind_cal (s : State) (r : RoomId) (b : BlindId) (f : Blind → Blind) : (s.modifyBlind r b f).cal = s.cal := rfl
@[simp] theorem modifyBlind_groups (s : State) (r : RoomId) (b : BlindId) (f : Blind → Blind) : (s.modifyBlind r b f).groups = s.groups := rfl
@[simp] theorem modifyBlind_profiles (s : State) (r : RoomId) (b : BlindId) (f : Blind → Blind) : (s.modifyBlind r b f).profiles = s.profiles := rfl
@[simp] theorem modifyBlind_setback (s : State) (r : RoomId) (b : BlindId) (f : Blind → Blind) : (s.modifyBlind r b f).setback = s.setback := rfl
@[simp] theorem modifyBlind_openFirst (s : State) (r : RoomId) (b : BlindId) (f : Blind → Blind) : (s.modifyBlind r b f).openFirst = s.openFirst := rfl
@[simp] theorem modifyBlind_openLast (s : State) (r : RoomId) (b : BlindId) (f : Blind → Blind) : (s.modifyBlind r b f).openLast = s.openLast := rfl
@[simp] theorem modifyBlind_oceNow (s : State) (r : RoomId) (b : BlindId) (f : Blind → Blind) : (s.modifyBlind r b f).oceNow = s.oceNow := rfl
@[simp] theorem modifyBlind_airs (s : State) (r : RoomId) (b : BlindId) (f : Blind → Blind) : (s.modifyBlind r b f).airs = s.airs := rfl
@[simp] theorem modifyBlind_scenes (s : State) (r : RoomId) (b : BlindId) (f : Blind → Blind) : (s.modifyBlind r b f).scenes = s.scenes := rfl
@[simp] theorem modifyBlind_window (s : State) (r : RoomId) (b : BlindId) (f : Blind → Blind) : (s.modifyBlind r b f).window = s.window := rfl
@[simp] theorem modifyBlind_economy (s : State) (r : RoomId) (b : BlindId) (f : Blind → Blind) : (s.modifyBlind r b f).economy = s.economy := rfl
@[simp] theorem modifyBlind_cap (s : State) (r : RoomId) (b : BlindId) (f : Blind → Blind) : (s.modifyBlind r b f).cap = s.cap := rfl
@[simp] theorem modifyBlind_facades (s : State) (r : RoomId) (b : BlindId) (f : Blind → Blind) : (s.modifyBlind r b f).facades = s.facades := rfl
@[simp] theorem modifyBlind_loop (s : State) (r : RoomId) (b : BlindId) (f : Blind → Blind) : (s.modifyBlind r b f).loop = s.loop := rfl
@[simp] theorem modifyBlind_divider (s : State) (r : RoomId) (b : BlindId) (f : Blind → Blind) : (s.modifyBlind r b f).divider = s.divider := rfl
@[simp] theorem modifyBlind_pending (s : State) (r : RoomId) (b : BlindId) (f : Blind → Blind) : (s.modifyBlind r b f).pending = s.pending := rfl

/-! ### State.mapRooms -/

@[simp] theorem mapRooms_port (s : State) (f : RoomId → Room → Room) : (s.mapRooms f).port = s.port := rfl
@[simp] theorem mapRooms_store (s : State) (f : RoomId → Room → Room) : (s.mapRooms f).store = s.store := rfl
@[simp] theorem mapRooms_cal (s : State) (f : RoomId → Room → Room) : (s.mapRooms f).cal = s.cal := rfl
@[simp] theorem mapRooms_groups (s : State) (f : RoomId → Room → Room) : (s.mapRooms f).groups = s.groups := rfl
@[simp] theorem mapRooms_profiles (s : State) (f : RoomId → Room → Room) : (s.mapRooms f).profiles = s.profiles := rfl
@[simp] theorem mapRooms_setback (s : State) (f : RoomId → Room → Room) : (s.mapRooms f).setback = s.setback := rfl
@[simp] theorem mapRooms_openFirst (s : State) (f : RoomId → Room → Room) : (s.mapRooms f).openFirst = s.openFirst := rfl
@[simp] theorem mapRooms_openLast (s : State) (f : RoomId → Room → Room) : (s.mapRooms f).openLast = s.openLast := rfl
@[simp] theorem mapRooms_oceNow (s : State) (f : RoomId → Room → Room) : (s.mapRooms f).oceNow = s.oceNow := rfl
@[simp] theorem mapRooms_airs (s : State) (f : RoomId → Room → Room) : (s.mapRooms f).airs = s.airs := rfl
@[simp] theorem mapRooms_scenes (s : State) (f : RoomId → Room → Room) : (s.mapRooms f).scenes = s.scenes := rfl
@[simp] theorem mapRooms_window (s : State) (f : RoomId → Room → Room) : (s.mapRooms f).window = s.window := rfl
@[simp] theorem mapRooms_economy (s : State) (f : RoomId → Room → Room) : (s.mapRooms f).economy = s.economy := rfl
@[simp] theorem mapRooms_cap (s : State) (f : RoomId → Room → Room) : (s.mapRooms f).cap = s.cap := rfl
@[simp] theorem mapRooms_facades (s : State) (f : RoomId → Room → Room) : (s.mapRooms f).facades = s.facades := rfl
@[simp] theorem mapRooms_loop (s : State) (f : RoomId → Room → Room) : (s.mapRooms f).loop = s.loop := rfl
@[simp] theorem mapRooms_divider (s : State) (f : RoomId → Room → Room) : (s.mapRooms f).divider = s.divider := rfl
@[simp] theorem mapRooms_pending (s : State) (f : RoomId → Room → Room) : (s.mapRooms f).pending = s.pending := rfl

/-! ### State.mapAgendas -/

@[simp] theorem mapAgendas_port (s : State) (f : RoomId → List Entry → List Entry) : (s.mapAgendas f).port = s.port := rfl
@[simp] theorem mapAgendas_store (s : State) (f : RoomId → List Entry → List Entry) : (s.mapAgendas f).store = s.store := rfl
@[simp] theorem mapAgendas_cal (s : State) (f : RoomId → List Entry → List Entry) : (s.mapAgendas f).cal = s.cal := rfl
@[simp] theorem mapAgendas_groups (s : State) (f : RoomId → List Entry → List Entry) : (s.mapAgendas f).groups = s.groups := rfl
@[simp] theorem mapAgendas_profiles (s : State) (f : RoomId → List Entry → List Entry) : (s.mapAgendas f).profiles = s.profiles := rfl
@[simp] theorem mapAgendas_setback (s : State) (f : RoomId → List Entry → List Entry) : (s.mapAgendas f).setback = s.setback := rfl
@[simp] theorem mapAgendas_openFirst (s : State) (f : RoomId → List Entry → List Entry) : (s.mapAgendas f).openFirst = s.openFirst := rfl
@[simp] theorem mapAgendas_openLast (s : State) (f : RoomId → List Entry → List Entry) : (s.mapAgendas f).openLast = s.openLast := rfl
@[simp] theorem mapAgendas_oceNow (s : State) (f : RoomId → List Entry → List Entry) : (s.mapAgendas f).oceNow = s.oceNow := rfl
@[simp] theorem mapAgendas_airs (s : State) (f : RoomId → List Entry → List Entry) : (s.mapAgendas f).airs = s.airs := rfl
@[simp] theorem mapAgendas_scenes (s : State) (f : RoomId → List Entry → List Entry) : (s.mapAgendas f).scenes = s.scenes := rfl
@[simp] theorem mapAgendas_window (s : State) (f : RoomId → List Entry → List Entry) : (s.mapAgendas f).window = s.window := rfl
@[simp] theorem mapAgendas_economy (s : State) (f : RoomId → List Entry → List Entry) : (s.mapAgendas f).economy = s.economy := rfl
@[simp] theorem mapAgendas_cap (s : State) (f : RoomId → List Entry → List Entry) : (s.mapAgendas f).cap = s.cap := rfl
@[simp] theorem mapAgendas_facades (s : State) (f : RoomId → List Entry → List Entry) : (s.mapAgendas f).facades = s.facades := rfl
@[simp] theorem mapAgendas_loop (s : State) (f : RoomId → List Entry → List Entry) : (s.mapAgendas f).loop = s.loop := rfl
@[simp] theorem mapAgendas_divider (s : State) (f : RoomId → List Entry → List Entry) : (s.mapAgendas f).divider = s.divider := rfl
@[simp] theorem mapAgendas_pending (s : State) (f : RoomId → List Entry → List Entry) : (s.mapAgendas f).pending = s.pending := rfl

/-! ### State.modifyGroup -/

@[simp] theorem modifyGroup_port (s : State) (g : GroupId) (f : PartGroup → PartGroup) : (s.modifyGroup g f).port = s.port := rfl
@[simp] theorem modifyGroup_store (s : State) (g : GroupId) (f : PartGroup → PartGroup) : (s.modifyGroup g f).store = s.store := rfl
@[simp] theorem modifyGroup_cal (s : State) (g : GroupId) (f : PartGroup → PartGroup) : (s.modifyGroup g f).cal = s.cal := rfl
@[simp] theorem modifyGroup_rooms (s : State) (g : GroupId) (f : PartGroup → PartGroup) : (s.modifyGroup g f).rooms = s.rooms := rfl
@[simp] theorem modifyGroup_profiles (s : State) (g : GroupId) (f : PartGroup → PartGroup) : (s.modifyGroup g f).profiles = s.profiles := rfl
@[simp] theorem modifyGroup_setback (s : State) (g : GroupId) (f : PartGroup → PartGroup) : (s.modifyGroup g f).setback = s.setback := rfl
@[simp] theorem modifyGroup_openFirst (s : State) (g : GroupId) (f : PartGroup → PartGroup) : (s.modifyGroup g f).openFirst = s.openFirst := rfl
@[simp] theorem modifyGroup_openLast (s : State) (g : GroupId) (f : PartGroup → PartGroup) : (s.modifyGroup g f).openLast = s.openLast := rfl
@[simp] theorem modifyGroup_oceNow (s : State) (g : GroupId) (f : PartGroup → PartGroup) : (s.modifyGroup g f).oceNow = s.oceNow := rfl
@[simp] theorem modifyGroup_airs (s : State) (g : GroupId) (f : PartGroup → PartGroup) : (s.modifyGroup g f).airs = s.airs := rfl
@[simp] theorem modifyGroup_scenes (s : State) (g : GroupId) (f : PartGroup → PartGroup) : (s.modifyGroup g f).scenes = s.scenes := rfl
@[simp] theorem modifyGroup_window (s : State) (g : GroupId) (f : PartGroup → PartGroup) : (s.modifyGroup g f).window = s.window := rfl
@[simp] theorem modifyGroup_economy (s : State) (g : GroupId) (f : PartGroup → PartGroup) : (s.modifyGroup g f).economy = s.economy := rfl
@[simp] theorem modifyGroup_cap (s : State) (g : GroupId) (f : PartGroup → PartGroup) : (s.modifyGroup g f).cap = s.cap := rfl
@[simp] theorem modifyGroup_facades (s : State) (g : GroupId) (f : PartGroup → PartGroup) : (s.modifyGroup g f).facades = s.facades := rfl
@[simp] theorem modifyGroup_loop (s : State) (g : GroupId) (f : PartGroup → PartGroup) : (s.modifyGroup g f).loop = s.loop := rfl
@[simp] theorem modifyGroup_divider (s : State) (g : GroupId) (f : PartGroup → PartGroup) : (s.modifyGroup g f).divider = s.divider := rfl
@[simp] theorem modifyGroup_pending (s : State) (g : GroupId) (f : PartGroup → PartGroup) : (s.modifyGroup g f).pending = s.pending := rfl

/-! ### State.modifyAirGroup -/

@[simp] theorem modifyAirGroup_port (s : State) (g : AirId) (f : AirGroup → AirGroup) : (s.modifyAirGroup g f).port = s.port := rfl
@[simp] theorem modifyAirGroup_store (s : State) (g : AirId) (f : AirGroup → AirGroup) : (s.modifyAirGroup g f).store = s.store := rfl
@[simp] theorem modifyAirGroup_cal (s : State) (g : AirId) (f : AirGroup → AirGroup) : (s.modifyAirGroup g f).cal = s.cal := rfl
@[simp] theorem modifyAirGroup_rooms (s : State) (g : AirId) (f : AirGroup → AirGroup) : (s.modifyAirGroup g f).rooms = s.rooms := rfl
@[simp] theorem modifyAirGroup_groups (s : State) (g : AirId) (f : AirGroup → AirGroup) : (s.modifyAirGroup g f).groups = s.groups := rfl
@[simp] theorem modifyAirGroup_profiles (s : State) (g : AirId) (f : AirGroup → AirGroup) : (s.modifyAirGroup g f).profiles = s.profiles := rfl
@[simp] theorem modifyAirGroup_setback (s : State) (g : AirId) (f : AirGroup → AirGroup) : (s.modifyAirGroup g f).setback = s.setback := rfl
@[simp] theorem modifyAirGroup_openFirst (s : State) (g : AirId) (f : AirGroup → AirGroup) : (s.modifyAirGroup g f).openFirst = s.openFirst := rfl
@[simp] theorem modifyAirGroup_openLast (s : State) (g : AirId) (f : AirGroup → AirGroup) : (s.modifyAirGroup g f).openLast = s.openLast := rfl
@[simp] theorem modifyAirGroup_oceNow (s : State) (g : AirId) (f : AirGroup → AirGroup) : (s.modifyAirGroup g f).oceNow = s.oceNow := rfl
@[simp] theorem modifyAirGroup_scenes (s : State) (g : AirId) (f : AirGroup → AirGroup) : (s.modifyAirGroup g f).scenes = s.scenes := rfl
@[simp] theorem modifyAirGroup_window (s : State) (g : AirId) (f : AirGroup → AirGroup) : (s.modifyAirGroup g f).window = s.window := rfl
@[simp] theorem modifyAirGroup_economy (s : State) (g : AirId) (f : AirGroup → AirGroup) : (s.modifyAirGroup g f).economy = s.economy := rfl
@[simp] theorem modifyAirGroup_cap (s : State) (g : AirId) (f : AirGroup → AirGroup) : (s.modifyAirGroup g f).cap = s.cap := rfl
@[simp] theorem modifyAirGroup_facades (s : State) (g : AirId) (f : AirGroup → AirGroup) : (s.modifyAirGroup g f).facades = s.facades := rfl
@[simp] theorem modifyAirGroup_loop (s : State) (g : AirId) (f : AirGroup → AirGroup) : (s.modifyAirGroup g f).loop = s.loop := rfl
@[simp] theorem modifyAirGroup_divider (s : State) (g : AirId) (f : AirGroup → AirGroup) : (s.modifyAirGroup g f).divider = s.divider := rfl
@[simp] theorem modifyAirGroup_pending (s : State) (g : AirId) (f : AirGroup → AirGroup) : (s.modifyAirGroup g f).pending = s.pending := rfl

/-! ### State.raise -/

@[simp] theorem raise_store (s : State) (c : Cause) : (s.raise c).store = s.store := rfl
@[simp] theorem raise_cal (s : State) (c : Cause) : (s.raise c).cal = s.cal := rfl
@[simp] theorem raise_rooms (s : State) (c : Cause) : (s.raise c).rooms = s.rooms := rfl
@[simp] theorem raise_groups (s : State) (c : Cause) : (s.raise c).groups = s.groups := rfl
@[simp] theorem raise_profiles (s : State) (c : Cause) : (s.raise c).profiles = s.profiles := rfl
@[simp] theorem raise_setback (s : State) (c : Cause) : (s.raise c).setback = s.setback := rfl
@[simp] theorem raise_openFirst (s : State) (c : Cause) : (s.raise c).openFirst = s.openFirst := rfl
@[simp] theorem raise_openLast (s : State) (c : Cause) : (s.raise c).openLast = s.openLast := rfl
@[simp] theorem raise_oceNow (s : State) (c : Cause) : (s.raise c).oceNow = s.oceNow := rfl
@[simp] theorem raise_airs (s : State) (c : Cause) : (s.raise c).airs = s.airs := rfl
@[simp] theorem raise_scenes (s : State) (c : Cause) : (s.raise c).scenes = s.scenes := rfl
@[simp] theorem raise_window (s : State) (c : Cause) : (s.raise c).window = s.window := rfl
@[simp] theorem raise_economy (s : State) (c : Cause) : (s.raise c).economy = s.economy := rfl
@[simp] theorem raise_cap (s : State) (c : Cause) : (s.raise c).cap = s.cap := rfl
@[simp] theorem raise_facades (s : State) (c : Cause) : (s.raise c).facades = s.facades := rfl
@[simp] theorem raise_loop (s : State) (c : Cause) : (s.raise c).loop = s.loop := rfl
@[simp] theorem raise_divider (s : State) (c : Cause) : (s.raise c).divider = s.divider := rfl
@[simp] theorem raise_pending (s : State) (c : Cause) : (s.raise c).pending = s.pending := rfl

/-! ### State.roomChanged -/

@[simp] theorem roomChanged_store (s : State) (r : RoomId) : (s.roomChanged r).store = s.store := rfl
@[simp] theorem roomChanged_cal (s : State) (r : RoomId) : (s.roomChanged r).cal = s.cal := rfl
@[simp] theorem roomChanged_rooms (s : State) (r : RoomId) : (s.roomChanged r).rooms = s.rooms := rfl
@[simp] theorem roomChanged_groups (s : State) (r : RoomId) : (s.roomChanged r).groups = s.groups := rfl
@[simp] theorem roomChanged_profiles (s : State) (r : RoomId) : (s.roomChanged r).profiles = s.profiles := rfl
@[simp] theorem roomChanged_setback (s : State) (r : RoomId) : (s.roomChanged r).setback = s.setback := rfl
@[simp] theorem roomChanged_openFirst (s : State) (r : RoomId) : (s.roomChanged r).openFirst = s.openFirst := rfl
@[simp] theorem roomChanged_openLast (s : State) (r : RoomId) : (s.roomChanged r).openLast = s.openLast := rfl
@[simp] theorem roomChanged_oceNow (s : State) (r : RoomId) : (s.roomChanged r).oceNow = s.oceNow := rfl
@[simp] theorem roomChanged_airs (s : State) (r : RoomId) : (s.roomChanged r).airs = s.airs := rfl
@[simp] theorem roomChanged_scenes (s : State) (r : RoomId) : (s.roomChanged r).scenes = s.scenes := rfl
@[simp] theorem roomChanged_window (s : State) (r : RoomId) : (s.roomChanged r).window = s.window := rfl
@[simp] theorem roomChanged_economy (s : State) (r : RoomId) : (s.roomChanged r).economy = s.economy := rfl
@[simp] theorem roomChanged_cap (s : State) (r : RoomId) : (s.roomChanged r).cap = s.cap := rfl
@[simp] theorem roomChanged_facades (s : State) (r : RoomId) : (s.roomChanged r).facades = s.facades := rfl
@[simp] theorem roomChanged_loop (s : State) (r : RoomId) : (s.roomChanged r).loop = s.loop := rfl
@[simp] theorem roomChanged_divider (s : State) (r : RoomId) : (s.roomChanged r).divider = s.divider := rfl
@[simp] theorem roomChanged_pending (s : State) (r : RoomId) : (s.roomChanged r).pending = s.pending := rfl

/-! ### State.hostHeard -/

@[simp] theorem hostHeard_store (s : State) : (s.hostHeard).store = s.store := rfl
@[simp] theorem hostHeard_cal (s : State) : (s.hostHeard).cal = s.cal := rfl
@[simp] theorem hostHeard_rooms (s : State) : (s.hostHeard).rooms = s.rooms := rfl
@[simp] theorem hostHeard_groups (s : State) : (s.hostHeard).groups = s.groups := rfl
@[simp] theorem hostHeard_profiles (s : State) : (s.hostHeard).profiles = s.profiles := rfl
@[simp] theorem hostHeard_setback (s : State) : (s.hostHeard).setback = s.setback := rfl
@[simp] theorem hostHeard_openFirst (s : State) : (s.hostHeard).openFirst = s.openFirst := rfl
@[simp] theorem hostHeard_openLast (s : State) : (s.hostHeard).openLast = s.openLast := rfl
@[simp] theorem hostHeard_oceNow (s : State) : (s.hostHeard).oceNow = s.oceNow := rfl
@[simp] theorem hostHeard_airs (s : State) : (s.hostHeard).airs = s.airs := rfl
@[simp] theorem hostHeard_scenes (s : State) : (s.hostHeard).scenes = s.scenes := rfl
@[simp] theorem hostHeard_window (s : State) : (s.hostHeard).window = s.window := rfl
@[simp] theorem hostHeard_economy (s : State) : (s.hostHeard).economy = s.economy := rfl
@[simp] theorem hostHeard_cap (s : State) : (s.hostHeard).cap = s.cap := rfl
@[simp] theorem hostHeard_facades (s : State) : (s.hostHeard).facades = s.facades := rfl
@[simp] theorem hostHeard_loop (s : State) : (s.hostHeard).loop = s.loop := rfl
@[simp] theorem hostHeard_divider (s : State) : (s.hostHeard).divider = s.divider := rfl
@[simp] theorem hostHeard_pending (s : State) : (s.hostHeard).pending = s.pending := rfl

/-! ### State.respond -/

@[simp] theorem respond_store (s : State) (c : Instr) (l : Bool) (e : Status) (x : Result) : (s.respond c l e x).store = s.store := rfl
@[simp] theorem respond_cal (s : State) (c : Instr) (l : Bool) (e : Status) (x : Result) : (s.respond c l e x).cal = s.cal := rfl
@[simp] theorem respond_rooms (s : State) (c : Instr) (l : Bool) (e : Status) (x : Result) : (s.respond c l e x).rooms = s.rooms := rfl
@[simp] theorem respond_groups (s : State) (c : Instr) (l : Bool) (e : Status) (x : Result) : (s.respond c l e x).groups = s.groups := rfl
@[simp] theorem respond_profiles (s : State) (c : Instr) (l : Bool) (e : Status) (x : Result) : (s.respond c l e x).profiles = s.profiles := rfl
@[simp] theorem respond_setback (s : State) (c : Instr) (l : Bool) (e : Status) (x : Result) : (s.respond c l e x).setback = s.setback := rfl
@[simp] theorem respond_openFirst (s : State) (c : Instr) (l : Bool) (e : Status) (x : Result) : (s.respond c l e x).openFirst = s.openFirst := rfl
@[simp] theorem respond_openLast (s : State) (c : Instr) (l : Bool) (e : Status) (x : Result) : (s.respond c l e x).openLast = s.openLast := rfl
@[simp] theorem respond_oceNow (s : State) (c : Instr) (l : Bool) (e : Status) (x : Result) : (s.respond c l e x).oceNow = s.oceNow := rfl
@[simp] theorem respond_airs (s : State) (c : Instr) (l : Bool) (e : Status) (x : Result) : (s.respond c l e x).airs = s.airs := rfl
@[simp] theorem respond_scenes (s : State) (c : Instr) (l : Bool) (e : Status) (x : Result) : (s.respond c l e x).scenes = s.scenes := rfl
@[simp] theorem respond_window (s : State) (c : Instr) (l : Bool) (e : Status) (x : Result) : (s.respond c l e x).window = s.window := rfl
@[simp] theorem respond_economy (s : State) (c : Instr) (l : Bool) (e : Status) (x : Result) : (s.respond c l e x).economy = s.economy := rfl
@[simp] theorem respond_cap (s : State) (c : Instr) (l : Bool) (e : Status) (x : Result) : (s.respond c l e x).cap = s.cap := rfl
@[simp] theorem respond_facades (s : State) (c : Instr) (l : Bool) (e : Status) (x : Result) : (s.respond c l e x).facades = s.facades := rfl
@[simp] theorem respond_loop (s : State) (c : Instr) (l : Bool) (e : Status) (x : Result) : (s.respond c l e x).loop = s.loop := rfl
@[simp] theorem respond_divider (s : State) (c : Instr) (l : Bool) (e : Status) (x : Result) : (s.respond c l e x).divider = s.divider := rfl
@[simp] theorem respond_pending (s : State) (c : Instr) (l : Bool) (e : Status) (x : Result) : (s.respond c l e x).pending = s.pending := rfl

/-! ### State.takeCommand -/

@[simp] theorem takeCommand_store (s : State) (c : Instr) : (s.takeCommand c).store = s.store := rfl
@[simp] theorem takeCommand_cal (s : State) (c : Instr) : (s.takeCommand c).cal = s.cal := rfl
@[simp] theorem takeCommand_rooms (s : State) (c : Instr) : (s.takeCommand c).rooms = s.rooms := rfl
@[simp] theorem takeCommand_groups (s : State) (c : Instr) : (s.takeCommand c).groups = s.groups := rfl
@[simp] theorem takeCommand_profiles (s : State) (c : Instr) : (s.takeCommand c).profiles = s.profiles := rfl
@[simp] theorem takeCommand_setback (s : State) (c : Instr) : (s.takeCommand c).setback = s.setback := rfl
@[simp] theorem takeCommand_openFirst (s : State) (c : Instr) : (s.takeCommand c).openFirst = s.openFirst := rfl
@[simp] theorem takeCommand_openLast (s : State) (c : Instr) : (s.takeCommand c).openLast = s.openLast := rfl
@[simp] theorem takeCommand_oceNow (s : State) (c : Instr) : (s.takeCommand c).oceNow = s.oceNow := rfl
@[simp] theorem takeCommand_airs (s : State) (c : Instr) : (s.takeCommand c).airs = s.airs := rfl
@[simp] theorem takeCommand_scenes (s : State) (c : Instr) : (s.takeCommand c).scenes = s.scenes := rfl
@[simp] theorem takeCommand_window (s : State) (c : Instr) : (s.takeCommand c).window = s.window := rfl
@[simp] theorem takeCommand_economy (s : State) (c : Instr) : (s.takeCommand c).economy = s.economy := rfl
@[simp] theorem takeCommand_cap (s : State) (c : Instr) : (s.takeCommand c).cap = s.cap := rfl
@[simp] theorem takeCommand_facades (s : State) (c : Instr) : (s.takeCommand c).facades = s.facades := rfl
@[simp] theorem takeCommand_loop (s : State) (c : Instr) : (s.takeCommand c).loop = s.loop := rfl
@[simp] theorem takeCommand_divider (s : State) (c : Instr) : (s.takeCommand c).divider = s.divider := rfl
@[simp] theorem takeCommand_pending (s : State) (c : Instr) : (s.takeCommand c).pending = s.pending := rfl

/-! ### State.storeCommand -/

@[simp] theorem storeCommand_cal (s : State) (c : Instr) (op : HostOp) : (s.storeCommand c op).cal = s.cal := rfl
@[simp] theorem storeCommand_rooms (s : State) (c : Instr) (op : HostOp) : (s.storeCommand c op).rooms = s.rooms := rfl
@[simp] theorem storeCommand_groups (s : State) (c : Instr) (op : HostOp) : (s.storeCommand c op).groups = s.groups := rfl
@[simp] theorem storeCommand_profiles (s : State) (c : Instr) (op : HostOp) : (s.storeCommand c op).profiles = s.profiles := rfl
@[simp] theorem storeCommand_setback (s : State) (c : Instr) (op : HostOp) : (s.storeCommand c op).setback = s.setback := rfl
@[simp] theorem storeCommand_openFirst (s : State) (c : Instr) (op : HostOp) : (s.storeCommand c op).openFirst = s.openFirst := rfl
@[simp] theorem storeCommand_openLast (s : State) (c : Instr) (op : HostOp) : (s.storeCommand c op).openLast = s.openLast := rfl
@[simp] theorem storeCommand_oceNow (s : State) (c : Instr) (op : HostOp) : (s.storeCommand c op).oceNow = s.oceNow := rfl
@[simp] theorem storeCommand_airs (s : State) (c : Instr) (op : HostOp) : (s.storeCommand c op).airs = s.airs := rfl
@[simp] theorem storeCommand_scenes (s : State) (c : Instr) (op : HostOp) : (s.storeCommand c op).scenes = s.scenes := rfl
@[simp] theorem storeCommand_window (s : State) (c : Instr) (op : HostOp) : (s.storeCommand c op).window = s.window := rfl
@[simp] theorem storeCommand_economy (s : State) (c : Instr) (op : HostOp) : (s.storeCommand c op).economy = s.economy := rfl
@[simp] theorem storeCommand_cap (s : State) (c : Instr) (op : HostOp) : (s.storeCommand c op).cap = s.cap := rfl
@[simp] theorem storeCommand_facades (s : State) (c : Instr) (op : HostOp) : (s.storeCommand c op).facades = s.facades := rfl
@[simp] theorem storeCommand_loop (s : State) (c : Instr) (op : HostOp) : (s.storeCommand c op).loop = s.loop := rfl
@[simp] theorem storeCommand_divider (s : State) (c : Instr) (op : HostOp) : (s.storeCommand c op).divider = s.divider := rfl
@[simp] theorem storeCommand_pending (s : State) (c : Instr) (op : HostOp) : (s.storeCommand c op).pending = s.pending := rfl

/-! ### State.postWork -/

@[simp] theorem postWork_port (s : State) (w : CalWork) : (s.postWork w).port = s.port := rfl
@[simp] theorem postWork_store (s : State) (w : CalWork) : (s.postWork w).store = s.store := rfl
@[simp] theorem postWork_rooms (s : State) (w : CalWork) : (s.postWork w).rooms = s.rooms := rfl
@[simp] theorem postWork_groups (s : State) (w : CalWork) : (s.postWork w).groups = s.groups := rfl
@[simp] theorem postWork_profiles (s : State) (w : CalWork) : (s.postWork w).profiles = s.profiles := rfl
@[simp] theorem postWork_setback (s : State) (w : CalWork) : (s.postWork w).setback = s.setback := rfl
@[simp] theorem postWork_openFirst (s : State) (w : CalWork) : (s.postWork w).openFirst = s.openFirst := rfl
@[simp] theorem postWork_openLast (s : State) (w : CalWork) : (s.postWork w).openLast = s.openLast := rfl
@[simp] theorem postWork_oceNow (s : State) (w : CalWork) : (s.postWork w).oceNow = s.oceNow := rfl
@[simp] theorem postWork_airs (s : State) (w : CalWork) : (s.postWork w).airs = s.airs := rfl
@[simp] theorem postWork_scenes (s : State) (w : CalWork) : (s.postWork w).scenes = s.scenes := rfl
@[simp] theorem postWork_window (s : State) (w : CalWork) : (s.postWork w).window = s.window := rfl
@[simp] theorem postWork_economy (s : State) (w : CalWork) : (s.postWork w).economy = s.economy := rfl
@[simp] theorem postWork_cap (s : State) (w : CalWork) : (s.postWork w).cap = s.cap := rfl
@[simp] theorem postWork_facades (s : State) (w : CalWork) : (s.postWork w).facades = s.facades := rfl
@[simp] theorem postWork_loop (s : State) (w : CalWork) : (s.postWork w).loop = s.loop := rfl
@[simp] theorem postWork_divider (s : State) (w : CalWork) : (s.postWork w).divider = s.divider := rfl
@[simp] theorem postWork_pending (s : State) (w : CalWork) : (s.postWork w).pending = s.pending := rfl

/-! ### State.setSlot -/

@[simp] theorem setSlot_port (s : State) (k : SlotId) (x : Slot) : (s.setSlot k x).port = s.port := rfl
@[simp] theorem setSlot_cal (s : State) (k : SlotId) (x : Slot) : (s.setSlot k x).cal = s.cal := rfl
@[simp] theorem setSlot_rooms (s : State) (k : SlotId) (x : Slot) : (s.setSlot k x).rooms = s.rooms := rfl
@[simp] theorem setSlot_groups (s : State) (k : SlotId) (x : Slot) : (s.setSlot k x).groups = s.groups := rfl
@[simp] theorem setSlot_profiles (s : State) (k : SlotId) (x : Slot) : (s.setSlot k x).profiles = s.profiles := rfl
@[simp] theorem setSlot_setback (s : State) (k : SlotId) (x : Slot) : (s.setSlot k x).setback = s.setback := rfl
@[simp] theorem setSlot_openFirst (s : State) (k : SlotId) (x : Slot) : (s.setSlot k x).openFirst = s.openFirst := rfl
@[simp] theorem setSlot_openLast (s : State) (k : SlotId) (x : Slot) : (s.setSlot k x).openLast = s.openLast := rfl
@[simp] theorem setSlot_oceNow (s : State) (k : SlotId) (x : Slot) : (s.setSlot k x).oceNow = s.oceNow := rfl
@[simp] theorem setSlot_airs (s : State) (k : SlotId) (x : Slot) : (s.setSlot k x).airs = s.airs := rfl
@[simp] theorem setSlot_scenes (s : State) (k : SlotId) (x : Slot) : (s.setSlot k x).scenes = s.scenes := rfl
@[simp] theorem setSlot_window (s : State) (k : SlotId) (x : Slot) : (s.setSlot k x).window = s.window := rfl
@[simp] theorem setSlot_economy (s : State) (k : SlotId) (x : Slot) : (s.setSlot k x).economy = s.economy := rfl
@[simp] theorem setSlot_cap (s : State) (k : SlotId) (x : Slot) : (s.setSlot k x).cap = s.cap := rfl
@[simp] theorem setSlot_facades (s : State) (k : SlotId) (x : Slot) : (s.setSlot k x).facades = s.facades := rfl
@[simp] theorem setSlot_loop (s : State) (k : SlotId) (x : Slot) : (s.setSlot k x).loop = s.loop := rfl
@[simp] theorem setSlot_divider (s : State) (k : SlotId) (x : Slot) : (s.setSlot k x).divider = s.divider := rfl
@[simp] theorem setSlot_pending (s : State) (k : SlotId) (x : Slot) : (s.setSlot k x).pending = s.pending := rfl

/-! ### State.beginOp -/

@[simp] theorem beginOp_port (s : State) (op : StoreOp) : (s.beginOp op).port = s.port := rfl
@[simp] theorem beginOp_cal (s : State) (op : StoreOp) : (s.beginOp op).cal = s.cal := rfl
@[simp] theorem beginOp_rooms (s : State) (op : StoreOp) : (s.beginOp op).rooms = s.rooms := rfl
@[simp] theorem beginOp_groups (s : State) (op : StoreOp) : (s.beginOp op).groups = s.groups := rfl
@[simp] theorem beginOp_profiles (s : State) (op : StoreOp) : (s.beginOp op).profiles = s.profiles := rfl
@[simp] theorem beginOp_setback (s : State) (op : StoreOp) : (s.beginOp op).setback = s.setback := rfl
@[simp] theorem beginOp_openFirst (s : State) (op : StoreOp) : (s.beginOp op).openFirst = s.openFirst := rfl
@[simp] theorem beginOp_openLast (s : State) (op : StoreOp) : (s.beginOp op).openLast = s.openLast := rfl
@[simp] theorem beginOp_oceNow (s : State) (op : StoreOp) : (s.beginOp op).oceNow = s.oceNow := rfl
@[simp] theorem beginOp_airs (s : State) (op : StoreOp) : (s.beginOp op).airs = s.airs := rfl
@[simp] theorem beginOp_scenes (s : State) (op : StoreOp) : (s.beginOp op).scenes = s.scenes := rfl
@[simp] theorem beginOp_window (s : State) (op : StoreOp) : (s.beginOp op).window = s.window := rfl
@[simp] theorem beginOp_economy (s : State) (op : StoreOp) : (s.beginOp op).economy = s.economy := rfl
@[simp] theorem beginOp_cap (s : State) (op : StoreOp) : (s.beginOp op).cap = s.cap := rfl
@[simp] theorem beginOp_facades (s : State) (op : StoreOp) : (s.beginOp op).facades = s.facades := rfl
@[simp] theorem beginOp_loop (s : State) (op : StoreOp) : (s.beginOp op).loop = s.loop := rfl
@[simp] theorem beginOp_divider (s : State) (op : StoreOp) : (s.beginOp op).divider = s.divider := rfl
@[simp] theorem beginOp_pending (s : State) (op : StoreOp) : (s.beginOp op).pending = s.pending := rfl

/-! ### State.afterMove and State.moveCtx -/

@[simp] theorem afterMove_port (s b : State) (r : RoomId) : (s.afterMove b r).port = s.port := rfl
@[simp] theorem afterMove_store (s b : State) (r : RoomId) : (s.afterMove b r).store = s.store := rfl
@[simp] theorem afterMove_cal (s b : State) (r : RoomId) : (s.afterMove b r).cal = s.cal := rfl
@[simp] theorem afterMove_groups (s b : State) (r : RoomId) : (s.afterMove b r).groups = s.groups := rfl
@[simp] theorem afterMove_profiles (s b : State) (r : RoomId) : (s.afterMove b r).profiles = s.profiles := rfl
@[simp] theorem afterMove_setback (s b : State) (r : RoomId) : (s.afterMove b r).setback = s.setback := rfl
@[simp] theorem afterMove_openFirst (s b : State) (r : RoomId) : (s.afterMove b r).openFirst = s.openFirst := rfl
@[simp] theorem afterMove_openLast (s b : State) (r : RoomId) : (s.afterMove b r).openLast = s.openLast := rfl
@[simp] theorem afterMove_oceNow (s b : State) (r : RoomId) : (s.afterMove b r).oceNow = s.oceNow := rfl
@[simp] theorem afterMove_airs (s b : State) (r : RoomId) : (s.afterMove b r).airs = s.airs := rfl
@[simp] theorem afterMove_scenes (s b : State) (r : RoomId) : (s.afterMove b r).scenes = s.scenes := rfl
@[simp] theorem afterMove_window (s b : State) (r : RoomId) : (s.afterMove b r).window = s.window := rfl
@[simp] theorem afterMove_economy (s b : State) (r : RoomId) : (s.afterMove b r).economy = s.economy := rfl
@[simp] theorem afterMove_cap (s b : State) (r : RoomId) : (s.afterMove b r).cap = s.cap := rfl
@[simp] theorem afterMove_facades (s b : State) (r : RoomId) : (s.afterMove b r).facades = s.facades := rfl
@[simp] theorem afterMove_loop (s b : State) (r : RoomId) : (s.afterMove b r).loop = s.loop := rfl
@[simp] theorem afterMove_divider (s b : State) (r : RoomId) : (s.afterMove b r).divider = s.divider := rfl
@[simp] theorem afterMove_pending (s b : State) (r : RoomId) : (s.afterMove b r).pending = s.pending := rfl

@[simp] theorem moveCtx_port (s : State) (r : RoomId) (f : Context → Context) : (s.moveCtx r f).port = s.port := rfl
@[simp] theorem moveCtx_store (s : State) (r : RoomId) (f : Context → Context) : (s.moveCtx r f).store = s.store := rfl
@[simp] theorem moveCtx_cal (s : State) (r : RoomId) (f : Context → Context) : (s.moveCtx r f).cal = s.cal := rfl
@[simp] theorem moveCtx_groups (s : State) (r : RoomId) (f : Context → Context) : (s.moveCtx r f).groups = s.groups := rfl
@[simp] theorem moveCtx_profiles (s : State) (r : RoomId) (f : Context → Context) : (s.moveCtx r f).profiles = s.profiles := rfl
@[simp] theorem moveCtx_setback (s : State) (r : RoomId) (f : Context → Context) : (s.moveCtx r f).setback = s.setback := rfl
@[simp] theorem moveCtx_openFirst (s : State) (r : RoomId) (f : Context → Context) : (s.moveCtx r f).openFirst = s.openFirst := rfl
@[simp] theorem moveCtx_openLast (s : State) (r : RoomId) (f : Context → Context) : (s.moveCtx r f).openLast = s.openLast := rfl
@[simp] theorem moveCtx_oceNow (s : State) (r : RoomId) (f : Context → Context) : (s.moveCtx r f).oceNow = s.oceNow := rfl
@[simp] theorem moveCtx_airs (s : State) (r : RoomId) (f : Context → Context) : (s.moveCtx r f).airs = s.airs := rfl
@[simp] theorem moveCtx_scenes (s : State) (r : RoomId) (f : Context → Context) : (s.moveCtx r f).scenes = s.scenes := rfl
@[simp] theorem moveCtx_window (s : State) (r : RoomId) (f : Context → Context) : (s.moveCtx r f).window = s.window := rfl
@[simp] theorem moveCtx_economy (s : State) (r : RoomId) (f : Context → Context) : (s.moveCtx r f).economy = s.economy := rfl
@[simp] theorem moveCtx_cap (s : State) (r : RoomId) (f : Context → Context) : (s.moveCtx r f).cap = s.cap := rfl
@[simp] theorem moveCtx_facades (s : State) (r : RoomId) (f : Context → Context) : (s.moveCtx r f).facades = s.facades := rfl
@[simp] theorem moveCtx_loop (s : State) (r : RoomId) (f : Context → Context) : (s.moveCtx r f).loop = s.loop := rfl
@[simp] theorem moveCtx_divider (s : State) (r : RoomId) (f : Context → Context) : (s.moveCtx r f).divider = s.divider := rfl
@[simp] theorem moveCtx_pending (s : State) (r : RoomId) (f : Context → Context) : (s.moveCtx r f).pending = s.pending := rfl

theorem clearFor_idem (c : Context) (a b : Bool) : (c.clearFor a b).clearFor a b = c.clearFor a b := by
  cases a <;> cases b <;> rfl

/-- What the clearings of a move leave of a room: cleared where it is one of the rooms that share the move. -/
theorem room_afterMove (s b : State) (r m : RoomId) : (s.afterMove b r).room m =
    if m ∈ s.trimRooms r then
      { s.room m with ctx := (s.room m).ctx.clearFor (b.govHandle r != s.govHandle r)
                              (b.base r != .setback && s.base r == .setback) }
    else s.room m := by
  have fold (f : Room → Room) (hf : ∀ x, f (f x) = f x) (l : List RoomId) (t : Table 48 Room) :
      (l.foldl (fun t m => t.modify m f) t).get m = if m ∈ l then f (t.get m) else t.get m := by
    induction l generalizing t with
    | nil => simp
    | cons a l ih =>
      rw [List.foldl_cons, ih, Table.get_modify]
      by_cases h : m = a
      · subst h; by_cases k : m ∈ l <;> simp [k, hf]
      · by_cases k : m ∈ l <;> simp [h, k]
  exact fold _ (fun x => by simp only [clearFor_idem]) _ _

/-! ### State.setService -/

@[simp] theorem setService_port (s : State) (r : RoomId) (v : Service) (g : Option Handle) : (s.setService r v g).port = s.port := rfl
@[simp] theorem setService_store (s : State) (r : RoomId) (v : Service) (g : Option Handle) : (s.setService r v g).store = s.store := rfl
@[simp] theorem setService_cal (s : State) (r : RoomId) (v : Service) (g : Option Handle) : (s.setService r v g).cal = s.cal := rfl
@[simp] theorem setService_groups (s : State) (r : RoomId) (v : Service) (g : Option Handle) : (s.setService r v g).groups = s.groups := rfl
@[simp] theorem setService_profiles (s : State) (r : RoomId) (v : Service) (g : Option Handle) : (s.setService r v g).profiles = s.profiles := rfl
@[simp] theorem setService_setback (s : State) (r : RoomId) (v : Service) (g : Option Handle) : (s.setService r v g).setback = s.setback := rfl
@[simp] theorem setService_openFirst (s : State) (r : RoomId) (v : Service) (g : Option Handle) : (s.setService r v g).openFirst = s.openFirst := rfl
@[simp] theorem setService_openLast (s : State) (r : RoomId) (v : Service) (g : Option Handle) : (s.setService r v g).openLast = s.openLast := rfl
@[simp] theorem setService_oceNow (s : State) (r : RoomId) (v : Service) (g : Option Handle) : (s.setService r v g).oceNow = s.oceNow := rfl
@[simp] theorem setService_airs (s : State) (r : RoomId) (v : Service) (g : Option Handle) : (s.setService r v g).airs = s.airs := rfl
@[simp] theorem setService_scenes (s : State) (r : RoomId) (v : Service) (g : Option Handle) : (s.setService r v g).scenes = s.scenes := rfl
@[simp] theorem setService_window (s : State) (r : RoomId) (v : Service) (g : Option Handle) : (s.setService r v g).window = s.window := rfl
@[simp] theorem setService_economy (s : State) (r : RoomId) (v : Service) (g : Option Handle) : (s.setService r v g).economy = s.economy := rfl
@[simp] theorem setService_cap (s : State) (r : RoomId) (v : Service) (g : Option Handle) : (s.setService r v g).cap = s.cap := rfl
@[simp] theorem setService_facades (s : State) (r : RoomId) (v : Service) (g : Option Handle) : (s.setService r v g).facades = s.facades := rfl
@[simp] theorem setService_loop (s : State) (r : RoomId) (v : Service) (g : Option Handle) : (s.setService r v g).loop = s.loop := rfl
@[simp] theorem setService_divider (s : State) (r : RoomId) (v : Service) (g : Option Handle) : (s.setService r v g).divider = s.divider := rfl
@[simp] theorem setService_pending (s : State) (r : RoomId) (v : Service) (g : Option Handle) : (s.setService r v g).pending = s.pending := rfl

/-! ### State.recompute -/

@[simp] theorem recompute_port (s : State) : (s.recompute).port = s.port := rfl
@[simp] theorem recompute_store (s : State) : (s.recompute).store = s.store := rfl
@[simp] theorem recompute_cal (s : State) : (s.recompute).cal = s.cal := rfl
@[simp] theorem recompute_groups (s : State) : (s.recompute).groups = s.groups := rfl
@[simp] theorem recompute_profiles (s : State) : (s.recompute).profiles = s.profiles := rfl
@[simp] theorem recompute_setback (s : State) : (s.recompute).setback = s.setback := rfl
@[simp] theorem recompute_openFirst (s : State) : (s.recompute).openFirst = s.openFirst := rfl
@[simp] theorem recompute_openLast (s : State) : (s.recompute).openLast = s.openLast := rfl
@[simp] theorem recompute_oceNow (s : State) : (s.recompute).oceNow = s.oceNow := rfl
@[simp] theorem recompute_airs (s : State) : (s.recompute).airs = s.airs := rfl
@[simp] theorem recompute_scenes (s : State) : (s.recompute).scenes = s.scenes := rfl
@[simp] theorem recompute_window (s : State) : (s.recompute).window = s.window := rfl
@[simp] theorem recompute_economy (s : State) : (s.recompute).economy = s.economy := rfl
@[simp] theorem recompute_cap (s : State) : (s.recompute).cap = s.cap := rfl
@[simp] theorem recompute_facades (s : State) : (s.recompute).facades = s.facades := rfl
@[simp] theorem recompute_loop (s : State) : (s.recompute).loop = s.loop := rfl
@[simp] theorem recompute_divider (s : State) : (s.recompute).divider = s.divider := rfl
@[simp] theorem recompute_pending (s : State) : (s.recompute).pending = s.pending := rfl

/-! ### State.relight -/

@[simp] theorem relight_port (s : State) : (s.relight).port = s.port := rfl
@[simp] theorem relight_store (s : State) : (s.relight).store = s.store := rfl
@[simp] theorem relight_cal (s : State) : (s.relight).cal = s.cal := rfl
@[simp] theorem relight_groups (s : State) : (s.relight).groups = s.groups := rfl
@[simp] theorem relight_profiles (s : State) : (s.relight).profiles = s.profiles := rfl
@[simp] theorem relight_setback (s : State) : (s.relight).setback = s.setback := rfl
@[simp] theorem relight_openFirst (s : State) : (s.relight).openFirst = s.openFirst := rfl
@[simp] theorem relight_openLast (s : State) : (s.relight).openLast = s.openLast := rfl
@[simp] theorem relight_oceNow (s : State) : (s.relight).oceNow = s.oceNow := rfl
@[simp] theorem relight_airs (s : State) : (s.relight).airs = s.airs := rfl
@[simp] theorem relight_scenes (s : State) : (s.relight).scenes = s.scenes := rfl
@[simp] theorem relight_window (s : State) : (s.relight).window = s.window := rfl
@[simp] theorem relight_economy (s : State) : (s.relight).economy = s.economy := rfl
@[simp] theorem relight_cap (s : State) : (s.relight).cap = s.cap := rfl
@[simp] theorem relight_facades (s : State) : (s.relight).facades = s.facades := rfl
@[simp] theorem relight_loop (s : State) : (s.relight).loop = s.loop := rfl
@[simp] theorem relight_divider (s : State) : (s.relight).divider = s.divider := rfl
@[simp] theorem relight_pending (s : State) : (s.relight).pending = s.pending := rfl

/-! ### State.aim -/

@[simp] theorem aim_port (s : State) : (s.aim).port = s.port := rfl
@[simp] theorem aim_store (s : State) : (s.aim).store = s.store := rfl
@[simp] theorem aim_cal (s : State) : (s.aim).cal = s.cal := rfl
@[simp] theorem aim_groups (s : State) : (s.aim).groups = s.groups := rfl
@[simp] theorem aim_profiles (s : State) : (s.aim).profiles = s.profiles := rfl
@[simp] theorem aim_setback (s : State) : (s.aim).setback = s.setback := rfl
@[simp] theorem aim_openFirst (s : State) : (s.aim).openFirst = s.openFirst := rfl
@[simp] theorem aim_openLast (s : State) : (s.aim).openLast = s.openLast := rfl
@[simp] theorem aim_oceNow (s : State) : (s.aim).oceNow = s.oceNow := rfl
@[simp] theorem aim_airs (s : State) : (s.aim).airs = s.airs := rfl
@[simp] theorem aim_scenes (s : State) : (s.aim).scenes = s.scenes := rfl
@[simp] theorem aim_window (s : State) : (s.aim).window = s.window := rfl
@[simp] theorem aim_economy (s : State) : (s.aim).economy = s.economy := rfl
@[simp] theorem aim_cap (s : State) : (s.aim).cap = s.cap := rfl
@[simp] theorem aim_facades (s : State) : (s.aim).facades = s.facades := rfl
@[simp] theorem aim_loop (s : State) : (s.aim).loop = s.loop := rfl
@[simp] theorem aim_divider (s : State) : (s.aim).divider = s.divider := rfl
@[simp] theorem aim_pending (s : State) : (s.aim).pending = s.pending := rfl

/-! ### State.follow -/

@[simp] theorem follow_port (s : State) : (s.follow).port = s.port := rfl
@[simp] theorem follow_store (s : State) : (s.follow).store = s.store := rfl
@[simp] theorem follow_cal (s : State) : (s.follow).cal = s.cal := rfl
@[simp] theorem follow_groups (s : State) : (s.follow).groups = s.groups := rfl
@[simp] theorem follow_profiles (s : State) : (s.follow).profiles = s.profiles := rfl
@[simp] theorem follow_setback (s : State) : (s.follow).setback = s.setback := rfl
@[simp] theorem follow_openFirst (s : State) : (s.follow).openFirst = s.openFirst := rfl
@[simp] theorem follow_openLast (s : State) : (s.follow).openLast = s.openLast := rfl
@[simp] theorem follow_oceNow (s : State) : (s.follow).oceNow = s.oceNow := rfl
@[simp] theorem follow_airs (s : State) : (s.follow).airs = s.airs := rfl
@[simp] theorem follow_scenes (s : State) : (s.follow).scenes = s.scenes := rfl
@[simp] theorem follow_window (s : State) : (s.follow).window = s.window := rfl
@[simp] theorem follow_economy (s : State) : (s.follow).economy = s.economy := rfl
@[simp] theorem follow_cap (s : State) : (s.follow).cap = s.cap := rfl
@[simp] theorem follow_facades (s : State) : (s.follow).facades = s.facades := rfl
@[simp] theorem follow_loop (s : State) : (s.follow).loop = s.loop := rfl
@[simp] theorem follow_divider (s : State) : (s.follow).divider = s.divider := rfl
@[simp] theorem follow_pending (s : State) : (s.follow).pending = s.pending := rfl

/-! ### State.noteRooms -/

@[simp] theorem noteRooms_store (s : State) (p : RoomId → Bool) : (s.noteRooms p).store = s.store := rfl
@[simp] theorem noteRooms_cal (s : State) (p : RoomId → Bool) : (s.noteRooms p).cal = s.cal := rfl
@[simp] theorem noteRooms_rooms (s : State) (p : RoomId → Bool) : (s.noteRooms p).rooms = s.rooms := rfl
@[simp] theorem noteRooms_groups (s : State) (p : RoomId → Bool) : (s.noteRooms p).groups = s.groups := rfl
@[simp] theorem noteRooms_profiles (s : State) (p : RoomId → Bool) : (s.noteRooms p).profiles = s.profiles := rfl
@[simp] theorem noteRooms_setback (s : State) (p : RoomId → Bool) : (s.noteRooms p).setback = s.setback := rfl
@[simp] theorem noteRooms_openFirst (s : State) (p : RoomId → Bool) : (s.noteRooms p).openFirst = s.openFirst := rfl
@[simp] theorem noteRooms_openLast (s : State) (p : RoomId → Bool) : (s.noteRooms p).openLast = s.openLast := rfl
@[simp] theorem noteRooms_oceNow (s : State) (p : RoomId → Bool) : (s.noteRooms p).oceNow = s.oceNow := rfl
@[simp] theorem noteRooms_airs (s : State) (p : RoomId → Bool) : (s.noteRooms p).airs = s.airs := rfl
@[simp] theorem noteRooms_scenes (s : State) (p : RoomId → Bool) : (s.noteRooms p).scenes = s.scenes := rfl
@[simp] theorem noteRooms_window (s : State) (p : RoomId → Bool) : (s.noteRooms p).window = s.window := rfl
@[simp] theorem noteRooms_economy (s : State) (p : RoomId → Bool) : (s.noteRooms p).economy = s.economy := rfl
@[simp] theorem noteRooms_cap (s : State) (p : RoomId → Bool) : (s.noteRooms p).cap = s.cap := rfl
@[simp] theorem noteRooms_facades (s : State) (p : RoomId → Bool) : (s.noteRooms p).facades = s.facades := rfl
@[simp] theorem noteRooms_loop (s : State) (p : RoomId → Bool) : (s.noteRooms p).loop = s.loop := rfl
@[simp] theorem noteRooms_divider (s : State) (p : RoomId → Bool) : (s.noteRooms p).divider = s.divider := rfl
@[simp] theorem noteRooms_pending (s : State) (p : RoomId → Bool) : (s.noteRooms p).pending = s.pending := rfl

/-! ### State.fireMembers -/

@[simp] theorem fireMembers_port (s b : State) (p : RoomId → Bool) : (s.fireMembers b p).port = s.port := rfl
@[simp] theorem fireMembers_store (s b : State) (p : RoomId → Bool) : (s.fireMembers b p).store = s.store := rfl
@[simp] theorem fireMembers_cal (s b : State) (p : RoomId → Bool) : (s.fireMembers b p).cal = s.cal := rfl
@[simp] theorem fireMembers_rooms (s b : State) (p : RoomId → Bool) : (s.fireMembers b p).rooms = s.rooms := rfl
@[simp] theorem fireMembers_groups (s b : State) (p : RoomId → Bool) : (s.fireMembers b p).groups = s.groups := rfl
@[simp] theorem fireMembers_profiles (s b : State) (p : RoomId → Bool) : (s.fireMembers b p).profiles = s.profiles := rfl
@[simp] theorem fireMembers_setback (s b : State) (p : RoomId → Bool) : (s.fireMembers b p).setback = s.setback := rfl
@[simp] theorem fireMembers_openFirst (s b : State) (p : RoomId → Bool) : (s.fireMembers b p).openFirst = s.openFirst := rfl
@[simp] theorem fireMembers_openLast (s b : State) (p : RoomId → Bool) : (s.fireMembers b p).openLast = s.openLast := rfl
@[simp] theorem fireMembers_oceNow (s b : State) (p : RoomId → Bool) : (s.fireMembers b p).oceNow = s.oceNow := rfl
@[simp] theorem fireMembers_scenes (s b : State) (p : RoomId → Bool) : (s.fireMembers b p).scenes = s.scenes := rfl
@[simp] theorem fireMembers_window (s b : State) (p : RoomId → Bool) : (s.fireMembers b p).window = s.window := rfl
@[simp] theorem fireMembers_economy (s b : State) (p : RoomId → Bool) : (s.fireMembers b p).economy = s.economy := rfl
@[simp] theorem fireMembers_cap (s b : State) (p : RoomId → Bool) : (s.fireMembers b p).cap = s.cap := rfl
@[simp] theorem fireMembers_facades (s b : State) (p : RoomId → Bool) : (s.fireMembers b p).facades = s.facades := rfl
@[simp] theorem fireMembers_loop (s b : State) (p : RoomId → Bool) : (s.fireMembers b p).loop = s.loop := rfl
@[simp] theorem fireMembers_divider (s b : State) (p : RoomId → Bool) : (s.fireMembers b p).divider = s.divider := rfl
@[simp] theorem fireMembers_pending (s b : State) (p : RoomId → Bool) : (s.fireMembers b p).pending = s.pending := rfl

/-! ### State.startPasses -/

@[simp] theorem startPasses_port (s : State) : (s.startPasses).port = s.port := rfl
@[simp] theorem startPasses_store (s : State) : (s.startPasses).store = s.store := rfl
@[simp] theorem startPasses_cal (s : State) : (s.startPasses).cal = s.cal := rfl
@[simp] theorem startPasses_rooms (s : State) : (s.startPasses).rooms = s.rooms := rfl
@[simp] theorem startPasses_groups (s : State) : (s.startPasses).groups = s.groups := rfl
@[simp] theorem startPasses_profiles (s : State) : (s.startPasses).profiles = s.profiles := rfl
@[simp] theorem startPasses_setback (s : State) : (s.startPasses).setback = s.setback := rfl
@[simp] theorem startPasses_openFirst (s : State) : (s.startPasses).openFirst = s.openFirst := rfl
@[simp] theorem startPasses_openLast (s : State) : (s.startPasses).openLast = s.openLast := rfl
@[simp] theorem startPasses_oceNow (s : State) : (s.startPasses).oceNow = s.oceNow := rfl
@[simp] theorem startPasses_scenes (s : State) : (s.startPasses).scenes = s.scenes := rfl
@[simp] theorem startPasses_window (s : State) : (s.startPasses).window = s.window := rfl
@[simp] theorem startPasses_economy (s : State) : (s.startPasses).economy = s.economy := rfl
@[simp] theorem startPasses_cap (s : State) : (s.startPasses).cap = s.cap := rfl
@[simp] theorem startPasses_facades (s : State) : (s.startPasses).facades = s.facades := rfl
@[simp] theorem startPasses_loop (s : State) : (s.startPasses).loop = s.loop := rfl
@[simp] theorem startPasses_divider (s : State) : (s.startPasses).divider = s.divider := rfl
@[simp] theorem startPasses_pending (s : State) : (s.startPasses).pending = s.pending := rfl

/-! ### State.releaseStore -/

@[simp] theorem releaseStore_port (s : State) : (s.releaseStore).port = s.port := rfl
@[simp] theorem releaseStore_cal (s : State) : (s.releaseStore).cal = s.cal := rfl
@[simp] theorem releaseStore_rooms (s : State) : (s.releaseStore).rooms = s.rooms := rfl
@[simp] theorem releaseStore_groups (s : State) : (s.releaseStore).groups = s.groups := rfl
@[simp] theorem releaseStore_profiles (s : State) : (s.releaseStore).profiles = s.profiles := rfl
@[simp] theorem releaseStore_setback (s : State) : (s.releaseStore).setback = s.setback := rfl
@[simp] theorem releaseStore_openFirst (s : State) : (s.releaseStore).openFirst = s.openFirst := rfl
@[simp] theorem releaseStore_openLast (s : State) : (s.releaseStore).openLast = s.openLast := rfl
@[simp] theorem releaseStore_oceNow (s : State) : (s.releaseStore).oceNow = s.oceNow := rfl
@[simp] theorem releaseStore_airs (s : State) : (s.releaseStore).airs = s.airs := rfl
@[simp] theorem releaseStore_scenes (s : State) : (s.releaseStore).scenes = s.scenes := rfl
@[simp] theorem releaseStore_window (s : State) : (s.releaseStore).window = s.window := rfl
@[simp] theorem releaseStore_economy (s : State) : (s.releaseStore).economy = s.economy := rfl
@[simp] theorem releaseStore_cap (s : State) : (s.releaseStore).cap = s.cap := rfl
@[simp] theorem releaseStore_facades (s : State) : (s.releaseStore).facades = s.facades := rfl
@[simp] theorem releaseStore_loop (s : State) : (s.releaseStore).loop = s.loop := rfl
@[simp] theorem releaseStore_divider (s : State) : (s.releaseStore).divider = s.divider := rfl
@[simp] theorem releaseStore_pending (s : State) : (s.releaseStore).pending = s.pending := rfl

/-! ### State.putClock -/

@[simp] theorem putClock_port (s : State) (d : Date) (m : Nat) : (s.putClock d m).port = s.port := rfl
@[simp] theorem putClock_store (s : State) (d : Date) (m : Nat) : (s.putClock d m).store = s.store := rfl
@[simp] theorem putClock_rooms (s : State) (d : Date) (m : Nat) : (s.putClock d m).rooms = s.rooms := rfl
@[simp] theorem putClock_groups (s : State) (d : Date) (m : Nat) : (s.putClock d m).groups = s.groups := rfl
@[simp] theorem putClock_profiles (s : State) (d : Date) (m : Nat) : (s.putClock d m).profiles = s.profiles := rfl
@[simp] theorem putClock_setback (s : State) (d : Date) (m : Nat) : (s.putClock d m).setback = s.setback := rfl
@[simp] theorem putClock_openFirst (s : State) (d : Date) (m : Nat) : (s.putClock d m).openFirst = s.openFirst := rfl
@[simp] theorem putClock_openLast (s : State) (d : Date) (m : Nat) : (s.putClock d m).openLast = s.openLast := rfl
@[simp] theorem putClock_oceNow (s : State) (d : Date) (m : Nat) : (s.putClock d m).oceNow = s.oceNow := rfl
@[simp] theorem putClock_airs (s : State) (d : Date) (m : Nat) : (s.putClock d m).airs = s.airs := rfl
@[simp] theorem putClock_scenes (s : State) (d : Date) (m : Nat) : (s.putClock d m).scenes = s.scenes := rfl
@[simp] theorem putClock_window (s : State) (d : Date) (m : Nat) : (s.putClock d m).window = s.window := rfl
@[simp] theorem putClock_economy (s : State) (d : Date) (m : Nat) : (s.putClock d m).economy = s.economy := rfl
@[simp] theorem putClock_cap (s : State) (d : Date) (m : Nat) : (s.putClock d m).cap = s.cap := rfl
@[simp] theorem putClock_facades (s : State) (d : Date) (m : Nat) : (s.putClock d m).facades = s.facades := rfl
@[simp] theorem putClock_loop (s : State) (d : Date) (m : Nat) : (s.putClock d m).loop = s.loop := rfl
@[simp] theorem putClock_divider (s : State) (d : Date) (m : Nat) : (s.putClock d m).divider = s.divider := rfl
@[simp] theorem putClock_pending (s : State) (d : Date) (m : Nat) : (s.putClock d m).pending = s.pending := rfl

/-! ### State.immediate -/

@[simp] theorem immediate_store (s : State) (o : PortOut) (f : Port → Port) : (s.immediate o f).store = s.store := rfl
@[simp] theorem immediate_cal (s : State) (o : PortOut) (f : Port → Port) : (s.immediate o f).cal = s.cal := rfl
@[simp] theorem immediate_rooms (s : State) (o : PortOut) (f : Port → Port) : (s.immediate o f).rooms = s.rooms := rfl
@[simp] theorem immediate_groups (s : State) (o : PortOut) (f : Port → Port) : (s.immediate o f).groups = s.groups := rfl
@[simp] theorem immediate_profiles (s : State) (o : PortOut) (f : Port → Port) : (s.immediate o f).profiles = s.profiles := rfl
@[simp] theorem immediate_setback (s : State) (o : PortOut) (f : Port → Port) : (s.immediate o f).setback = s.setback := rfl
@[simp] theorem immediate_openFirst (s : State) (o : PortOut) (f : Port → Port) : (s.immediate o f).openFirst = s.openFirst := rfl
@[simp] theorem immediate_openLast (s : State) (o : PortOut) (f : Port → Port) : (s.immediate o f).openLast = s.openLast := rfl
@[simp] theorem immediate_oceNow (s : State) (o : PortOut) (f : Port → Port) : (s.immediate o f).oceNow = s.oceNow := rfl
@[simp] theorem immediate_airs (s : State) (o : PortOut) (f : Port → Port) : (s.immediate o f).airs = s.airs := rfl
@[simp] theorem immediate_scenes (s : State) (o : PortOut) (f : Port → Port) : (s.immediate o f).scenes = s.scenes := rfl
@[simp] theorem immediate_window (s : State) (o : PortOut) (f : Port → Port) : (s.immediate o f).window = s.window := rfl
@[simp] theorem immediate_economy (s : State) (o : PortOut) (f : Port → Port) : (s.immediate o f).economy = s.economy := rfl
@[simp] theorem immediate_cap (s : State) (o : PortOut) (f : Port → Port) : (s.immediate o f).cap = s.cap := rfl
@[simp] theorem immediate_facades (s : State) (o : PortOut) (f : Port → Port) : (s.immediate o f).facades = s.facades := rfl
@[simp] theorem immediate_loop (s : State) (o : PortOut) (f : Port → Port) : (s.immediate o f).loop = s.loop := rfl
@[simp] theorem immediate_divider (s : State) (o : PortOut) (f : Port → Port) : (s.immediate o f).divider = s.divider := rfl
@[simp] theorem immediate_pending (s : State) (o : PortOut) (f : Port → Port) : (s.immediate o f).pending = s.pending := rfl

end Sys2Proof.Machine
end

