-- ==== Sys2Proof/Laws/Frame.lean ====
section
/-! SUPPORT. What the service machines, agendas, estimates and partition groups never touch (`RoomWork`), said once
for every shared operation. -/
namespace Sys2Proof.Machine

theorem PortKept.refl (p : Port) : PortKept p p := ⟨rfl, rfl, rfl, rfl, rfl, rfl, rfl, rfl, rfl⟩

theorem PortKept.trans {p q r : Port} (a : PortKept p q) (b : PortKept q r) : PortKept p r :=
  ⟨b.enables.trans a.enables, b.lines.trans a.lines, b.present.trans a.present, b.silenceTimer.trans a.silenceTimer,
   b.silenceTime.trans a.silenceTime, b.cause.trans a.cause, b.clockKept.trans a.clockKept,
   b.storeKept.trans a.storeKept, b.out.trans a.out⟩

theorem RoomWork.refl (s : State) : RoomWork s s :=
  ⟨rfl, rfl, rfl, rfl, rfl, rfl, rfl, rfl, rfl, rfl, rfl, rfl, rfl, rfl, rfl, rfl, .refl _, fun _ => rfl, fun _ => rfl,
   fun _ => rfl, fun _ => rfl, fun _ => rfl, fun _ => rfl, fun _ => rfl, fun _ => rfl⟩

theorem RoomWork.trans {s t u : State} (a : RoomWork s t) (b : RoomWork t u) : RoomWork s u where
  store := b.store.trans a.store
  clock := by rw [b.clock, a.clock]
  profiles := b.profiles.trans a.profiles
  setback := b.setback.trans a.setback
  openFirst := b.openFirst.trans a.openFirst
  openLast := b.openLast.trans a.openLast
  oceNow := b.oceNow.trans a.oceNow
  airs := b.airs.trans a.airs
  scenes := b.scenes.trans a.scenes
  window := b.window.trans a.window
  economy := b.economy.trans a.economy
  cap := b.cap.trans a.cap
  facades := b.facades.trans a.facades
  loop := b.loop.trans a.loop
  divider := b.divider.trans a.divider
  pending := b.pending.trans a.pending
  port := a.port.trans b.port
  cfg r := (b.cfg r).trans (a.cfg r)
  cal r := (b.cal r).trans (a.cal r)
  air r := (b.air r).trans (a.air r)
  light r := (b.light r).trans (a.light r)
  blinds r := (b.blinds r).trans (a.blinds r)
  station r := (b.station r).trans (a.station r)
  safe r := (b.safe r).trans (a.safe r)
  hold r := (b.hold r).trans (a.hold r)

/-- A fold of steps that are each such work is such work. -/
theorem RoomWork.foldl {α : Type} {f : State → α → State} (h : ∀ s a, RoomWork s (f s a)) (l : List α) (s : State) :
    RoomWork s (l.foldl f s) := by
  induction l generalizing s with
  | nil => exact .refl s
  | cons a l ih => exact (h s a).trans (ih _)

/-- A change of one room's context, agenda or estimate is such work. -/
theorem RoomWork.modifyRoom (s : State) (r : RoomId) {f : Room → Room}
    (h : ∀ x, (f x).cfg = x.cfg ∧ (f x).oce.cal = x.oce.cal ∧ (f x).air = x.air ∧ (f x).light = x.light ∧
      (f x).blinds = x.blinds ∧ (f x).station = x.station ∧ (f x).ctx.safe = x.ctx.safe ∧
      (f x).ctx.hold = x.ctx.hold) : RoomWork s (s.modifyRoom r f) := by
  refine ⟨rfl, rfl, rfl, rfl, rfl, rfl, rfl, rfl, rfl, rfl, rfl, rfl, rfl, rfl, rfl, rfl, .refl _, ?_, ?_, ?_, ?_, ?_,
    ?_, ?_, ?_⟩ <;> intro q <;> rw [room_modifyRoom] <;> split <;> simp_all

theorem RoomWork.modifyCtx (s : State) (r : RoomId) {f : Context → Context}
    (h : ∀ c, (f c).safe = c.safe ∧ (f c).hold = c.hold) : RoomWork s (s.modifyCtx r f) :=
  .modifyRoom s r fun x => ⟨rfl, rfl, rfl, rfl, rfl, rfl, (h x.ctx).1, (h x.ctx).2⟩

theorem raiseNote_kept (c : Context) (k : NoteKind) (h : Handle) :
    (c.raiseNote k h).safe = c.safe ∧ (c.raiseNote k h).hold = c.hold := by
  unfold Context.raiseNote; split <;> exact ⟨rfl, rfl⟩

theorem RoomWork.raiseNote (s : State) (r : RoomId) (k : NoteKind) (h : Handle) :
    RoomWork s (s.modifyCtx r fun c => c.raiseNote k h) := .modifyCtx _ _ fun c => raiseNote_kept c k h

theorem afterSplit_kept (c : Context) (m g : RoomId) (gov : Option Handle) :
    (c.afterSplit m g gov).safe = c.safe ∧ (c.afterSplit m g gov).hold = c.hold := by
  unfold Context.afterSplit; dsimp only; split <;> split <;> exact ⟨rfl, rfl⟩

theorem RoomWork.modifyOce (s : State) (r : RoomId) {f : Estimator → Estimator} (h : ∀ o, (f o).cal = o.cal) :
    RoomWork s (s.modifyOce r f) := .modifyRoom s r fun x => ⟨rfl, h x.oce, rfl, rfl, rfl, rfl, rfl, rfl⟩

/-- A change of every agenda is such work. -/
theorem RoomWork.mapAgendas (s : State) (f : RoomId → List Entry → List Entry) : RoomWork s (s.mapAgendas f) := by
  refine ⟨rfl, rfl, rfl, rfl, rfl, rfl, rfl, rfl, rfl, rfl, rfl, rfl, rfl, rfl, rfl, rfl, .refl _, ?_, ?_, ?_, ?_, ?_,
    ?_, ?_, ?_⟩ <;> intro q <;> simp [State.mapAgendas]

theorem RoomWork.modifyGroup (s : State) (g : GroupId) (f : PartGroup → PartGroup) :
    RoomWork s (s.modifyGroup g f) :=
  ⟨rfl, rfl, rfl, rfl, rfl, rfl, rfl, rfl, rfl, rfl, rfl, rfl, rfl, rfl, rfl, rfl, .refl _, fun _ => rfl, fun _ => rfl,
   fun _ => rfl, fun _ => rfl, fun _ => rfl, fun _ => rfl, fun _ => rfl, fun _ => rfl⟩

theorem RoomWork.withCal (s : State) (w : List CalWork) : RoomWork s { s with cal := { s.cal with work := w } } :=
  ⟨rfl, rfl, rfl, rfl, rfl, rfl, rfl, rfl, rfl, rfl, rfl, rfl, rfl, rfl, rfl, rfl, .refl _, fun _ => rfl, fun _ => rfl,
   fun _ => rfl, fun _ => rfl, fun _ => rfl, fun _ => rfl, fun _ => rfl, fun _ => rfl⟩

theorem RoomWork.postWork (s : State) (w : CalWork) : RoomWork s (s.postWork w) := .withCal s _

theorem RoomWork.withPort (s : State) {p : Port} (h : PortKept s.port p) : RoomWork s { s with port := p } :=
  ⟨rfl, rfl, rfl, rfl, rfl, rfl, rfl, rfl, rfl, rfl, rfl, rfl, rfl, rfl, rfl, rfl, h, fun _ => rfl, fun _ => rfl,
   fun _ => rfl, fun _ => rfl, fun _ => rfl, fun _ => rfl, fun _ => rfl, fun _ => rfl⟩

theorem PortKept.raise (p : Port) (c : Cause) : PortKept p (p.raise c) := ⟨rfl, rfl, rfl, rfl, rfl, rfl, rfl, rfl, rfl⟩

theorem PortKept.raiseIf (p : Port) (b : Bool) (c : Cause) : PortKept p (p.raiseIf b c) := by
  unfold Port.raiseIf; split
  · exact .raise p c
  · exact .refl p

theorem RoomWork.raise (s : State) (c : Cause) : RoomWork s (s.raise c) := .withPort s (.raise _ c)

theorem RoomWork.roomChanged (s : State) (r : RoomId) : RoomWork s (s.roomChanged r) :=
  .withPort s ⟨rfl, rfl, rfl, rfl, rfl, rfl, rfl, rfl, rfl⟩

theorem RoomWork.respond (s : State) (c : Instr) (l : Bool) (e : Status) (x : Result) : RoomWork s (s.respond c l e x) :=
  .withPort s ⟨rfl, rfl, rfl, rfl, rfl, rfl, rfl, rfl, rfl⟩

theorem RoomWork.completeCommand (s : State) (e : Status) (x : Result) : RoomWork s (s.completeCommand e x) := by
  unfold State.completeCommand; split
  · exact .respond ..
  · exact .refl s

/-! ## The service machine -/

theorem clearFor_kept (c : Context) (a b : Bool) : (c.clearFor a b).safe = c.safe ∧ (c.clearFor a b).hold = c.hold := by
  cases a <;> cases b <;> exact ⟨rfl, rfl⟩

theorem RoomWork.afterMove (s b : State) (r : RoomId) : RoomWork s (s.afterMove b r) := by
  refine ⟨rfl, rfl, rfl, rfl, rfl, rfl, rfl, rfl, rfl, rfl, rfl, rfl, rfl, rfl, rfl, rfl, .refl _, ?_, ?_, ?_, ?_, ?_,
    ?_, ?_, ?_⟩ <;> intro q <;> rw [room_afterMove] <;> split <;> simp [clearFor_kept]

theorem RoomWork.moveCtx (s : State) (r : RoomId) {f : Context → Context}
    (h : ∀ c, (f c).safe = c.safe ∧ (f c).hold = c.hold) : RoomWork s (s.moveCtx r f) :=
  (RoomWork.modifyCtx s r h).trans (.afterMove ..)

theorem RoomWork.setService (s : State) (r : RoomId) (v : Service) (g : Option Handle) :
    RoomWork s (s.setService r v g) := .moveCtx _ _ (fun _ => by exact ⟨rfl, rfl⟩)

theorem RoomWork.sendConfirm (s : State) (r : RoomId) : RoomWork s (s.sendConfirm r) := by
  unfold State.sendConfirm; dsimp only; split
  · exact (RoomWork.modifyCtx _ _ (fun _ => by exact ⟨rfl, rfl⟩)).trans (.postWork ..)
  · exact .refl s

theorem RoomWork.precondOr (s : State) (r : RoomId) (v : Service) : RoomWork s (s.precondOr r v) := by
  unfold State.precondOr; split <;> exact .setService ..

theorem RoomWork.enterClass (s : State) (r : RoomId) (e : Entry) : RoomWork s (s.enterClass r e) := by
  unfold State.enterClass; split
  · exact .setService ..
  · split
    · exact (RoomWork.setService ..).trans (.sendConfirm ..)
    · exact .setService ..

theorem RoomWork.derive (s : State) (r : RoomId) : RoomWork s (s.derive r) := by
  unfold State.derive; split
  · exact .setService ..
  · split
    · exact .setService ..
    · split
      · exact .enterClass ..
      · exact .precondOr ..

theorem RoomWork.enterOverrun (s : State) (r : RoomId) (e : Entry) (m : Option Nat) :
    RoomWork s (s.enterOverrun r e m) := by
  unfold State.enterOverrun; split
  · exact .precondOr ..
  · exact .moveCtx _ _ (fun _ => by exact ⟨rfl, rfl⟩)

theorem RoomWork.reportRest (s : State) (r : RoomId) : RoomWork s (s.reportRest r) := by
  unfold State.reportRest; dsimp only; split
  · split
    · exact .setService ..
    · exact .refl s
  · exact .refl s

theorem RoomWork.reportInactive (s : State) (r : RoomId) (m : Option Nat) (g : Option Entry) :
    RoomWork s (s.reportInactive r m g) := by
  unfold State.reportInactive; dsimp only
  repeat' split
  all_goals first
    | exact .precondOr ..
    | exact .setService ..
    | exact .enterOverrun ..
    | exact .reportRest ..

theorem RoomWork.report (s : State) (m : Option Nat) (r : RoomId) : RoomWork s (s.report m r) := by
  unfold State.report; dsimp only
  repeat' split
  all_goals first
    | exact .refl s
    | exact .setService ..
    | exact .enterClass ..
    | exact .reportInactive ..
    | exact .reportRest ..

theorem RoomWork.confirmIfStarted (s : State) (r : RoomId) : RoomWork s (s.confirmIfStarted r) := by
  unfold State.confirmIfStarted; split
  · split
    · exact .sendConfirm ..
    · exact .refl s
  · exact .refl s

theorem RoomWork.moveService (s : State) (r : RoomId) (v : Service) : RoomWork s (s.moveService r v) :=
  .moveCtx _ _ (fun _ => by exact ⟨rfl, rfl⟩)

theorem RoomWork.presenceMoved (s : State) (r : RoomId) (a b : Presence) : RoomWork s (s.presenceMoved r a b) := by
  unfold State.presenceMoved; dsimp only
  repeat' split
  all_goals first
    | with_reducible exact .refl s
    | with_reducible exact .setService ..
    | with_reducible exact (RoomWork.moveService ..).trans (.confirmIfStarted ..)
    | with_reducible exact .moveService ..
    | with_reducible exact .precondOr ..

theorem RoomWork.overrunCheck (s : State) (r : RoomId) : RoomWork s (s.overrunCheck r) := by
  unfold State.overrunCheck; dsimp only
  repeat' split
  all_goals first
    | exact .refl s
    | exact .precondOr ..

theorem RoomWork.confirmAnswered (s : State) (r : RoomId) (h : Handle) (a : ConfirmAnswer) :
    RoomWork s (s.confirmAnswered r h a) := by
  have f : RoomWork s (s.modifyCtx r fun c => { c with outConfirm := none }) := .modifyCtx _ _ fun _ => ⟨rfl, rfl⟩
  unfold State.confirmAnswered; dsimp only
  split <;> split
  · exact (f.trans (.raiseNote ..)).trans (.confirmIfStarted ..)
  · exact f.trans (.raiseNote ..)
  · exact f.trans (.confirmIfStarted ..)
  · exact f

theorem RoomWork.panelBlind (s : State) (r : RoomId) (b : BlindId) (o : Override) : RoomWork s (s.panelBlind r b o) := by
  unfold State.panelBlind; split
  · exact .modifyCtx _ _ (fun _ => by exact ⟨rfl, rfl⟩)
  · exact .refl s

theorem RoomWork.panelTrim (s : State) (r : RoomId) (i : Int) : RoomWork s (s.panelTrim r i) :=
  .foldl (fun s _ => .modifyCtx _ _ (fun _ => by exact ⟨rfl, rfl⟩)) ..

theorem RoomWork.panelExtend (s : State) (r : RoomId) : RoomWork s (s.panelExtend r) := by
  unfold State.panelExtend; dsimp only; repeat' split
  all_goals first | exact .refl s | exact .modifyCtx _ _ (fun _ => by exact ⟨rfl, rfl⟩)

theorem RoomWork.panelEndNow (s : State) (r : RoomId) : RoomWork s (s.panelEndNow r) := by
  unfold State.panelEndNow; dsimp only; repeat' split
  all_goals first | exact .refl s | exact .postWork ..

theorem RoomWork.panelEvent (s : State) (r : RoomId) (e : PanelEvent) : RoomWork s (s.panelEvent r e) := by
  unfold State.panelEvent; split
  · cases e
    · exact .panelExtend ..
    · exact .panelEndNow ..
    · exact .panelTrim ..
    · exact .panelTrim ..
    · exact .panelBlind ..
    · exact .panelBlind ..
  · exact .refl s

/-! ## Agendas -/

theorem RoomWork.setTimer (s : State) (h : Handle) (t : Option NoShow) : RoomWork s (s.setTimer h t) := .mapAgendas ..

theorem RoomWork.mapHandle (s : State) (h : Handle) (f : Entry → Entry) : RoomWork s (s.mapHandle h f) :=
  .mapAgendas ..

theorem RoomWork.reportChanges (s b : State) (m : Option Nat) : RoomWork s (s.reportChanges b m) :=
  .foldl (fun s r => .report s m r) ..

theorem RoomWork.settleTimers (s b : State) : RoomWork s (s.settleTimers b) := by
  refine .foldl (fun s p => ?_) ..
  split
  · exact .setTimer ..
  · exact .setTimer ..

theorem RoomWork.evalAgendas (s : State) (m : Nat) : RoomWork s (s.evalAgendas m) :=
  ((RoomWork.mapAgendas ..).trans (.settleTimers ..)).trans (.reportChanges ..)

theorem RoomWork.reportRelease (s : State) (h : Handle) : RoomWork s (s.reportRelease h) :=
  .foldl (fun s r => (RoomWork.report s none r).trans (.roomChanged ..)) ..

theorem RoomWork.expire (s : State) (h : Handle) : RoomWork s (s.expire h) := by
  unfold State.expire; dsimp only; split
  · split
    · exact ((RoomWork.mapHandle ..).trans (.raiseNote ..)).trans (.reportRelease ..)
    · exact (RoomWork.mapHandle ..).trans (.reportRelease ..)
  · exact .refl s

theorem RoomWork.applyConfirm (s : State) (r : RoomId) (h : Handle) : RoomWork s (s.applyConfirm r h) := by
  unfold State.applyConfirm; split
  · exact ((RoomWork.mapHandle ..).trans (.reportChanges ..)).trans (.confirmAnswered ..)
  all_goals exact .confirmAnswered ..

theorem RoomWork.applyEndNow (s : State) (r : RoomId) (h : Handle) : RoomWork s (s.applyEndNow r h).1 := by
  unfold State.applyEndNow; split
  · split
    · exact (RoomWork.mapHandle ..).trans (.reportChanges ..)
    · exact .refl s
  · exact .refl s

theorem RoomWork.applyClosed (s : State) (r : RoomId) : RoomWork s (s.applyClosed r) := by
  unfold State.applyClosed; dsimp only
  refine RoomWork.trans ?_ (.reportChanges ..)
  refine RoomWork.trans ?_ (.foldl (fun s _ => .setTimer s _ _) ..)
  exact .modifyRoom s r fun _ => ⟨rfl, rfl, rfl, rfl, rfl, rfl, rfl, rfl⟩

theorem RoomWork.reopenEntry (s : State) (r : RoomId) (e : Entry) : RoomWork s (s.reopenEntry r e) := by
  unfold State.reopenEntry; dsimp only
  have put (st : EntryState) : RoomWork s (s.modifyRoom r fun x =>
      { x with agenda := x.agenda.map fun y => if y.handle == e.handle then y.toState st else y }) :=
    .modifyRoom s r fun _ => ⟨rfl, rfl, rfl, rfl, rfl, rfl, rfl, rfl⟩
  split
  · exact (put _).trans (.setTimer ..)
  · split
    · exact (put _).trans (.setTimer ..)
    · exact put _

theorem RoomWork.applyReopened (s : State) (r : RoomId) : RoomWork s (s.applyReopened r) :=
  ((RoomWork.foldl (fun s e => .reopenEntry s r e) ..).trans (.derive ..)).trans (.roomChanged ..)

theorem RoomWork.addEntry (s : State) (r : RoomId) (e : Entry) : RoomWork s (s.addEntry r e) :=
  .modifyRoom s r fun _ => ⟨rfl, rfl, rfl, rfl, rfl, rfl, rfl, rfl⟩

theorem RoomWork.place (s : State) (m : Nat) (rs : List RoomId) (h : Handle) (b : Record) :
    RoomWork s (s.place m rs h b) := by
  have f : RoomWork s (rs.foldl (fun t r => t.addEntry r ((newEntry h b).toState
      (placeState m (s.leadOf (newEntry h b)) (s.closed r) (newEntry h b).start (newEntry h b).curEnd))) s) :=
    .foldl (fun t r => .addEntry t r _) ..
  unfold State.place; dsimp only; split
  · exact f.trans (.setTimer ..)
  · exact f

theorem RoomWork.placeToday (s : State) (now : Instant) (h : Handle) (b : Record) :
    RoomWork s (s.placeToday now h b) := by
  unfold State.placeToday; split
  · exact .place ..
  · exact .refl s

theorem RoomWork.removeHandle (s : State) (h : Handle) : RoomWork s (s.removeHandle h) := .mapAgendas ..

theorem RoomWork.placeIn (s : State) (m : Nat) (r : RoomId) (h : Handle) (b : Record) :
    RoomWork s (s.placeIn m r h b) := by
  unfold State.placeIn; dsimp only; repeat' split
  all_goals first | exact .addEntry .. | exact (RoomWork.addEntry ..).trans (.setTimer ..)

theorem RoomWork.buildEntry (s : State) (m : Nat) (r : RoomId) (h : Handle) (b : Record) :
    RoomWork s (s.buildEntry m r h b) := by
  unfold State.buildEntry; split
  · exact .addEntry ..
  · exact .placeIn ..

theorem RoomWork.clearForBuild (s : State) (r : RoomId) : RoomWork s (s.clearForBuild r) := by
  unfold State.clearForBuild; dsimp only
  refine RoomWork.trans ?_ (.modifyCtx _ _ fun _ => ⟨rfl, rfl⟩)
  apply RoomWork.foldl
  intro t m
  exact .modifyCtx _ _ fun _ => ⟨rfl, rfl⟩

theorem RoomWork.build (s : State) (now : Instant) (r : RoomId) : RoomWork s (s.build now r) := by
  unfold State.build; dsimp only
  refine RoomWork.trans ?_ (.roomChanged ..)
  refine RoomWork.trans ?_ (.clearForBuild ..)
  refine RoomWork.trans ?_ (.derive ..)
  refine RoomWork.trans ?_ (.foldl (fun t (p : Handle × Record) => .buildEntry t _ r p.1 p.2) ..)
  exact .modifyRoom s r fun _ => ⟨rfl, rfl, rfl, rfl, rfl, rfl, rfl, rfl⟩

theorem RoomWork.jump (s : State) (a b : Nat) : RoomWork s (s.jump a b) := by
  unfold State.jump; split
  · exact .evalAgendas ..
  · split
    · exact ((RoomWork.mapAgendas ..).trans (.settleTimers ..)).trans (.reportChanges ..)
    · exact .refl s

/-! ## Estimates and partition groups -/

theorem RoomWork.modifyEstimate (s : State) (r : RoomId) (f : Estimate → Estimate) :
    RoomWork s (s.modifyEstimate r f) := by
  unfold State.modifyEstimate; split
  · exact .modifyGroup ..
  · exact .modifyOce s r fun _ => rfl

theorem RoomWork.tellPresence (s : State) (r : RoomId) (p : Presence) : RoomWork s (s.tellPresence r p) := by
  unfold State.tellPresence; exact .foldl (fun s m => .presenceMoved s m _ _) ..

theorem RoomWork.intake (s : State) (r : RoomId) (rep : Report) : RoomWork s (s.intake r rep) := by
  unfold State.intake; dsimp only; split
  · exact .refl s
  · refine RoomWork.trans ?_ (.tellPresence ..)
    refine RoomWork.trans ?_ (.modifyEstimate ..)
    exact .modifyOce s r fun o => by simp only [Estimator.rebase]; split <;> rfl

theorem RoomWork.absenceExpiry (s : State) (r : RoomId) : RoomWork s (s.absenceExpiry r) := by
  unfold State.absenceExpiry; split
  · exact (RoomWork.modifyEstimate ..).trans (.tellPresence ..)
  · exact .refl s

theorem RoomWork.quietExpiry (s : State) (r : RoomId) : RoomWork s (s.quietExpiry r) := by
  unfold State.quietExpiry; split
  · exact (RoomWork.modifyEstimate ..).trans (.tellPresence ..)
  · exact .refl s

theorem RoomWork.freezeRoom (s : State) (r : RoomId) : RoomWork s (s.freezeRoom r) := by
  have f : RoomWork s (s.modifyOce r fun o => { o.unbase with est := o.est.freeze s.oceNow }) :=
    .modifyOce s r fun _ => rfl
  unfold State.freezeRoom; dsimp only; split
  · split
    · exact f.trans (.modifyGroup ..)
    · exact f
  · exact f

theorem RoomWork.thawRoom (s : State) (r : RoomId) : RoomWork s (s.thawRoom r) := by
  have f : RoomWork s (s.modifyOce r fun o => { o with est := o.est.resume s.oceNow }) := .modifyOce s r fun _ => rfl
  unfold State.thawRoom; dsimp only; split
  · exact f.trans (.modifyGroup ..)
  · exact f

theorem RoomWork.merge (s : State) (g : GroupId) (p : PartGroup) : RoomWork s (s.merge g p) := by
  unfold State.merge; dsimp only
  refine RoomWork.trans ?_ (.modifyGroup ..)
  refine RoomWork.trans ?_ (.foldl (fun s m => .modifyCtx _ _ (fun _ => by exact ⟨rfl, rfl⟩)) ..)
  have drop (u : State) : RoomWork u (p.members.foldl (fun t m => t.modifyOce m fun o =>
      { o with est := { Estimate.reset with frozenAt := o.est.frozenAt } }) u) := by
    apply RoomWork.foldl
    intro t m
    exact .modifyOce t m fun _ => rfl
  exact RoomWork.trans (.foldl (fun t (w : RoomId × Presence) => .presenceMoved t w.1 w.2 _) ..) (drop _)

theorem RoomWork.split (s : State) (g : GroupId) (p : PartGroup) (d : GroupState) : RoomWork s (s.split g p d) := by
  unfold State.split; dsimp only
  refine RoomWork.trans ?_ (.modifyGroup ..)
  apply RoomWork.foldl
  intro t m
  refine RoomWork.trans ?_ (.modifyCtx _ _ fun c => afterSplit_kept c _ _ _)
  exact .modifyOce t m fun _ => rfl

theorem RoomWork.evaluateGroup (s : State) (g : GroupId) : RoomWork s (s.evaluateGroup g) := by
  unfold State.evaluateGroup; dsimp only
  repeat' split
  all_goals first
    | exact .refl s
    | exact .merge ..
    | exact .split ..
    | exact .modifyGroup ..

theorem RoomWork.evaluateRoom (s : State) (r : RoomId) : RoomWork s (s.evaluateRoom r) := by
  unfold State.evaluateRoom; split
  · exact .evaluateGroup ..
  · exact .refl s

theorem RoomWork.contactReported (s : State) (r : RoomId) (b : Bool) : RoomWork s (s.contactReported r b) := by
  unfold State.contactReported; dsimp only; split
  · split
    · generalize Contact.read _ _ = k
      split
      · exact .refl s
      · exact (RoomWork.modifyGroup ..).trans (.evaluateGroup ..)
    · exact .refl s
  · exact .refl s

theorem RoomWork.settleExpiry (s : State) (r : RoomId) : RoomWork s (s.settleExpiry r) := by
  unfold State.settleExpiry
  repeat' split
  all_goals first
    | exact .refl s
    | exact (RoomWork.modifyGroup ..).trans (.evaluateGroup ..)

theorem RoomWork.splitIfMerged (s : State) (g : GroupId) : RoomWork s (s.splitIfMerged g) := by
  unfold State.splitIfMerged
  repeat' split
  all_goals first
    | exact .refl s
    | exact .split ..

/-! ## The calendar's own work -/

theorem RoomWork.applyWork (s : State) (w : CalWork) : RoomWork s (s.applyWork w) := by
  cases w with
  | confirm r h => exact .applyConfirm ..
  | endNow r h host =>
    have f := RoomWork.applyEndNow s r h
    simp only [State.applyWork]
    repeat' split
    all_goals first
      | exact f
      | exact f.trans (.completeCommand ..)
  | minute m => exact .evalAgendas ..
  | expiry h => exact .expire ..
  | safeChanged => exact .mapAgendas ..
  | closed r => exact .applyClosed ..
  | reopened r => exact (RoomWork.applyReopened ..).trans (.evaluateRoom ..)
  | rangeDone => exact .completeCommand ..

theorem RoomWork.offerWork (s : State) (w : CalWork) : RoomWork s (s.offerWork w) := by
  unfold State.offerWork; split
  · unfold State.postWorkOnce; split
    · exact .refl s
    · exact .postWork ..
  · exact .applyWork ..

theorem RoomWork.applyHeld (s : State) : RoomWork s s.applyHeld :=
  (RoomWork.withCal s []).trans (.foldl (fun s w => .applyWork s w) ..)

theorem RoomWork.takeWork (s : State) (p : CalWork → Bool) : RoomWork s (s.takeWork p) := by
  unfold State.takeWork; split
  · exact .refl s
  · split
    · exact (RoomWork.withCal s _).trans (.applyWork ..)
    · exact .refl s

end Sys2Proof.Machine
end

