-- ==== Sys2Proof/Laws/Follow.lean ====
section
/-! SUPPORT. What nothing that follows an effect touches: `finishWith` follows inputs, fills the change set, starts
passes and takes the next operation, and leaves everything else as the effect left it. -/
namespace Sys2Proof.Machine

theorem RoomKept.refl (x : Room) : RoomKept x x :=
  ⟨rfl, rfl, rfl, rfl, rfl, rfl, rfl, rfl, rfl, rfl, rfl, rfl, rfl, rfl, rfl, List.suffix_refl _⟩

theorem RoomKept.trans {x y z : Room} (a : RoomKept x y) (b : RoomKept y z) : RoomKept x z :=
  ⟨b.cfg.trans a.cfg, b.agenda.trans a.agenda, b.oce.trans a.oce, b.station.trans a.station,
   b.service.trans a.service, b.safe.trans a.safe, b.hold.trans a.hold, b.gov.trans a.gov,
   b.overrunStart.trans a.overrunStart, b.noteLost.trans a.noteLost, b.extPending.trans a.extPending,
   b.outConfirm.trans a.outConfirm, b.trim.trans a.trim, b.overrides.trans a.overrides, b.extResult.trans a.extResult,
   b.requests.trans a.requests⟩

theorem AirKept.refl (a : AirGroup) : AirKept a a := ⟨rfl, rfl, rfl, rfl, rfl, rfl, rfl, rfl, rfl, fun _ => rfl⟩

theorem AirKept.trans {a b c : AirGroup} (x : AirKept a b) (y : AirKept b c) : AirKept a c :=
  ⟨y.fallback.trans x.fallback, y.period.trans x.period, y.mask.trans x.mask, y.capacity.trans x.capacity,
   y.timer.trans x.timer, y.passCount.trans x.passCount, y.flags.trans x.flags, y.unallocated.trans x.unallocated,
   y.last.trans x.last, fun h => by rw [y.running (by rw [x.running h]; exact h), x.running h]⟩

theorem Follows.refl (s : State) : Follows s s :=
  ⟨rfl, rfl, rfl, rfl, rfl, rfl, rfl, rfl, rfl, rfl, rfl, rfl, rfl, rfl, rfl, rfl, rfl, .refl _, rfl, rfl,
   fun _ => .refl _, fun _ => .refl _⟩

theorem Follows.trans {s t u : State} (a : Follows s t) (b : Follows t u) : Follows s u where
  slots := b.slots.trans a.slots
  rebuild := b.rebuild.trans a.rebuild
  cal := b.cal.trans a.cal
  groups := b.groups.trans a.groups
  profiles := b.profiles.trans a.profiles
  setback := b.setback.trans a.setback
  openFirst := b.openFirst.trans a.openFirst
  openLast := b.openLast.trans a.openLast
  oceNow := b.oceNow.trans a.oceNow
  scenes := b.scenes.trans a.scenes
  window := b.window.trans a.window
  economy := b.economy.trans a.economy
  cap := b.cap.trans a.cap
  facades := b.facades.trans a.facades
  loop := b.loop.trans a.loop
  divider := b.divider.trans a.divider
  pending := b.pending.trans a.pending
  port := a.port.trans b.port
  slot := b.slot.trans a.slot
  bookingChanges := b.bookingChanges.trans a.bookingChanges
  rooms r := (a.rooms r).trans (b.rooms r)
  airs g := (a.airs g).trans (b.airs g)

/-- A change of outputs in every room follows an effect. -/
theorem Follows.mapRooms (s : State) {f : RoomId → Room → Room} (h : ∀ r, RoomKept (s.room r) (f r (s.room r))) :
    Follows s (s.mapRooms f) :=
  ⟨rfl, rfl, rfl, rfl, rfl, rfl, rfl, rfl, rfl, rfl, rfl, rfl, rfl, rfl, rfl, rfl, rfl, .refl _, rfl, rfl,
   fun r => by rw [room_mapRooms]; exact h r, fun _ => .refl _⟩

theorem Follows.follow (s : State) : Follows s s.follow := by
  refine ((Follows.mapRooms s fun r => ?_).trans (.mapRooms _ fun r => ?_)).trans (.mapRooms _ fun r => ?_)
  all_goals exact ⟨rfl, rfl, rfl, rfl, rfl, rfl, rfl, rfl, rfl, rfl, rfl, rfl, rfl, rfl, rfl, List.suffix_refl _⟩

theorem Follows.withPort (s : State) {p : Port} (h : PortKept s.port p) (hs : p.slot = s.port.slot)
    (hb : p.bookingChanges = s.port.bookingChanges) : Follows s { s with port := p } :=
  ⟨rfl, rfl, rfl, rfl, rfl, rfl, rfl, rfl, rfl, rfl, rfl, rfl, rfl, rfl, rfl, rfl, rfl, h, hs, hb, fun _ => .refl _,
   fun _ => .refl _⟩

theorem Follows.noteRooms (s : State) (p : RoomId → Bool) : Follows s (s.noteRooms p) := by
  refine .withPort s ?_ ?_ ?_
  · unfold Port.raiseIf; split <;> exact ⟨rfl, rfl, rfl, rfl, rfl, rfl, rfl, rfl, rfl⟩
  · unfold Port.raiseIf; split <;> rfl
  · unfold Port.raiseIf; split <;> rfl

/-- A change of every air group follows an effect where each keeps its record. -/
theorem Follows.withAirs (s : State) {f : AirId → AirGroup → AirGroup} (h : ∀ g, AirKept (s.airs.get g) (f g (s.airs.get g))) :
    Follows s { s with airs := s.airs.mapIdx f } :=
  ⟨rfl, rfl, rfl, rfl, rfl, rfl, rfl, rfl, rfl, rfl, rfl, rfl, rfl, rfl, rfl, rfl, rfl, .refl _, rfl, rfl,
   fun _ => .refl _, fun g => by rw [Table.get_mapIdx]; exact h g⟩

theorem AirKept.fire (a : AirGroup) (t : Trigger) : AirKept a (a.fire t) := by
  unfold AirGroup.fire; split
  · exact ⟨rfl, rfl, rfl, rfl, rfl, rfl, rfl, rfl, rfl, fun _ => rfl⟩
  · exact .refl a

theorem Follows.fireMembers (s b : State) (p : RoomId → Bool) : Follows s (s.fireMembers b p) := by
  refine .withAirs s fun g => ?_
  dsimp only
  split
  · exact .fire ..
  · exact .refl _

theorem AirKept.startPass (s : State) (g : AirId) (a : AirGroup) : AirKept a (s.startPass g a) := by
  unfold State.startPass; split
  · rename_i h
    refine ⟨rfl, rfl, rfl, rfl, rfl, rfl, rfl, rfl, rfl, fun k => ?_⟩
    cases hr : a.running <;> simp_all
  · exact .refl a

theorem Follows.startPasses (s : State) : Follows s s.startPasses := .withAirs s fun g => .startPass s g _

/-- Taking an operation changes the arbiter and one room's waiting requests alone. -/
theorem Follows.beginOp (s : State) (op : StoreOp) : Follows s (s.beginOp op) :=
  ⟨rfl, rfl, rfl, rfl, rfl, rfl, rfl, rfl, rfl, rfl, rfl, rfl, rfl, rfl, rfl, rfl, rfl, .refl _, rfl, rfl,
   fun _ => .refl _, fun _ => .refl _⟩

theorem Follows.modifyRequests (s : State) (r : RoomId) {q : List RoomReq} (h : q <:+ (s.room r).ctx.requests) :
    Follows s (s.modifyCtx r fun c => { c with requests := q }) :=
  ⟨rfl, rfl, rfl, rfl, rfl, rfl, rfl, rfl, rfl, rfl, rfl, rfl, rfl, rfl, rfl, rfl, rfl, .refl _, rfl, rfl,
   fun k => by
     unfold State.modifyCtx; rw [room_modifyRoom]; split
     · subst_vars; exact
         ⟨rfl, rfl, rfl, rfl, rfl, rfl, rfl, rfl, rfl, rfl, rfl, rfl, rfl, rfl, rfl, h⟩
     · exact .refl _,
   fun _ => .refl _⟩

theorem Follows.takeNext (s : State) : Follows s s.takeNext := by
  unfold State.takeNext
  split
  · exact .refl s
  · split
    · exact ⟨rfl, rfl, rfl, rfl, rfl, rfl, rfl, rfl, rfl, rfl, rfl, rfl, rfl, rfl, rfl, rfl, rfl, .refl _, rfl, rfl,
        fun _ => .refl _, fun _ => .refl _⟩
    · split
      · split
        · rename_i h
          exact (Follows.modifyRequests _ _ (h ▸ List.suffix_cons ..)).trans (.beginOp ..)
        · exact .refl s
      · split
        · exact ⟨rfl, rfl, rfl, rfl, rfl, rfl, rfl, rfl, rfl, rfl, rfl, rfl, rfl, rfl, rfl, rfl, rfl, .refl _, rfl, rfl,
            fun _ => .refl _, fun _ => .refl _⟩
        · exact .refl s

/-- Everything that follows an effect. -/
theorem Follows.finishWith (s b : State) (p : RoomId → Bool) : Follows s (s.finishWith b p) := by
  unfold State.finishWith
  exact (((Follows.follow s).trans (.noteRooms ..)).trans (.fireMembers ..)).trans
    ((Follows.startPasses _).trans (.takeNext _))

theorem Follows.finish (s b : State) : Follows s (s.finish b) := .finishWith ..

/-- Following an effect, a running operation goes on running. -/
theorem takeNext_running (s : State) (h : s.store.running.isSome) : s.takeNext = s := by simp [State.takeNext, h]

/-- A blind group of a room that follows an effect: it is handed the target chosen for it. -/
theorem room_follow_light (s : State) (r : RoomId) : (s.follow.room r).light = s.recompute.formLight r := by
  simp [State.follow, State.aim, State.relight]

theorem room_follow_air (s : State) (r : RoomId) :
    (s.follow.room r).air = (s.room r).air.take (s.room r).cfg (s.figures r) := by
  simp [State.follow, State.aim, State.relight, State.recompute]

end Sys2Proof.Machine
end

