-- ==== Sys2Proof/Laws/Formats.lean ====
section
/-! SUPPORT. What the bytes of a result hold: every stated piece as it is, and no more than the length field can tell
(R202, R204). -/
namespace Sys2Proof.Machine

@[simp] theorem statedLength_nil : statedLength [] = 0 := rfl

@[simp] theorem statedLength_stated (bs : List Byte) (ps : List Piece) :
    statedLength (.stated bs :: ps) = bs.length + statedLength ps := rfl

@[simp] theorem statedLength_unstated (ps : List Piece) : statedLength (.unstated :: ps) = statedLength ps :=
  Nat.zero_add _

@[simp] theorem joinPieces_stated (free : Nat → List Byte) (space k : Nat) (bs : List Byte) (ps : List Piece) :
    joinPieces free space k (.stated bs :: ps) = bs ++ joinPieces free space (k + 1) ps := rfl

/-- The joined pieces are no longer than the stated bytes and the space left for the others. -/
theorem joinPieces_length_le (free : Nat → List Byte) (space k : Nat) (ps : List Piece) :
    (joinPieces free space k ps).length ≤ statedLength ps + space := by
  induction ps generalizing space k with
  | nil => simp [joinPieces]
  | cons p ps ih =>
    cases p with
    | stated bs => have := ih space (k + 1); simp; omega
    | unstated =>
      have := ih (space - ((free k).take space).length) (k + 1)
      have := List.length_take_le space (free k)
      simp only [joinPieces, List.length_append, statedLength_unstated]; omega

/-- Every stated piece stands in the joined bytes as it is. -/
theorem stated_infix_joinPieces (free : Nat → List Byte) (space k : Nat) {bs : List Byte} {ps : List Piece}
    (h : .stated bs ∈ ps) : bs <:+: joinPieces free space k ps := by
  induction ps generalizing space k with
  | nil => cases h
  | cons p ps ih =>
    cases p with
    | stated cs =>
      rcases List.mem_cons.1 h with e | e
      · cases e; exact (List.prefix_append ..).isInfix
      · exact (ih space (k + 1) e).trans (List.suffix_append ..).isInfix
    | unstated =>
      have e : Piece.stated bs ∈ ps := by simpa using h
      exact (ih _ (k + 1) e).trans (List.suffix_append ..).isInfix

/-- A result whose stated bytes fit the length field fits it whole (R204). -/
theorem Result.bytes_length_le (code : Byte) (r : Result) (h : statedLength r.pieces ≤ 80) :
    (r.bytes code).length ≤ 80 := by
  have := joinPieces_length_le (Config.openResultBytes code r) (80 - statedLength r.pieces) 0 r.pieces
  simp only [Result.bytes]; omega

/-- What a result states stands in its bytes, whatever the free value (R202). -/
theorem Result.stated_infix_bytes (code : Byte) {r : Result} {bs : List Byte} (h : .stated bs ∈ r.pieces) :
    bs <:+: r.bytes code := stated_infix_joinPieces _ _ _ h

/-- A result that is one stated piece has exactly its bytes. -/
theorem Result.bytes_of_stated (code : Byte) {r : Result} {bs : List Byte} (h : r.pieces = [.stated bs]) :
    r.bytes code = bs := by simp [Result.bytes, h, joinPieces]

end Sys2Proof.Machine
end

