-- ==== Sys2Proof/Laws/PerInstr.lean ====
section
/-! SUPPORT. Statements about every command as syntax, one lemma a command: the code byte of each command that the port
can carry is one of R205, with the parameter count that R205 gives the command. -/
namespace Sys2Proof.Laws.Coded
open Sys2Proof

/-- The parameter bytes of a command (R205); `none` for the part's own events, and for a malformed or unknown command,
whose bytes are no command's. -/
def paramBytes : Instr → Option Nat
  | .powerOn => none
  | .resetLine => none
  | .restart => some 0
  | .malformed _ => none
  | .unknownCommand _ => none
  | .poll => some 0
  | .readResponse => some 0
  | .readAttention => some 0
  | .ackAttention _ => some 2
  | .readRoomChanges => some 0
  | .readBookingChanges => some 0
  | .setAttention _ _ => some 4
  | .readResetCause => some 0
  | .writeRoom _ _ => some 29
  | .readRoom _ => some 1
  | .writeProfile _ _ => some 28
  | .readProfile _ => some 1
  | .writeWing _ _ _ => some 6
  | .readWing => some 0
  | .writePartition _ _ => some 5
  | .deletePartition _ => some 1
  | .readPartition _ => some 1
  | .writeAirGroup _ _ _ _ => some 6
  | .readAirGroup _ => some 1
  | .writeCalibration _ _ => some 10
  | .readCalibration _ => some 1
  | .createBooking _ => some 17
  | .amendBooking _ _ => some 19
  | .cancelBooking _ => some 2
  | .suspendBooking _ => some 2
  | .resumeBooking _ => some 2
  | .readBooking _ => some 2
  | .listRoomBookings _ _ => some 3
  | .readAgenda _ _ => some 2
  | .findFreeRoom _ _ _ _ _ _ => some 9
  | .setClock _ _ _ => some 4
  | .readClock => some 0
  | .addClosure _ _ => some 2
  | .removeClosure _ _ => some 2
  | .listClosures => some 0
  | .holdRoom _ _ => some 12
  | .releaseHold _ => some 1
  | .endOccurrence _ _ => some 3
  | .extendOccurrence _ _ => some 3
  | .setOpenRange _ _ => some 2
  | .readRoomStatus _ => some 1
  | .readRoomSensors _ => some 1
  | .setCapacity _ _ => some 3
  | .requestAllocation _ => some 1
  | .readAllocation _ _ => some 2
  | .readRoomAir _ => some 1
  | .sceneWindow _ => some 6
  | .sceneWriteStart _ _ => some 33
  | .sceneWriteContinue _ _ => some 33
  | .sceneReadStart _ => some 1
  | .sceneReadContinue _ => some 1
  | .setEconomy _ _ => some 3
  | .setFacade _ _ _ _ => some 4
  | .readRoomLighting _ => some 1
  | .readWingLighting => some 0
  | .readmitStation _ => some 1
  | .readStation _ => some 1
  | .readLoopLog => some 0
  | .storeOperationComplete => none
  | .retirementPass => none
  | .agendaBuild _ => none
  | .termEndStep => none
  | .noteServed _ => none
  | .extensionRequestServed _ => none
  | .secondEvent => none
  | .minuteEvent => none
  | .rolloverEvent => none
  | .termEnd => none
  | .noShowExpiry _ => none
  | .confirmRequest _ => none
  | .endNowRequest _ => none
  | .sensedAbsenceExpiry _ => none
  | .quietTimerExpiry _ => none
  | .settleTimerExpiry _ => none
  | .holdExpiry _ => none
  | .hostSilenceExpiry => none
  | .periodTimerMatch _ => none
  | .allocationPassComplete _ => none
  | .roundStart => none
  | .stationVisit => none
  | .noReply => none
  | .reportReceived _ => none
  | .blindTravelComplete _ _ => none
  | .blindPauseEnd _ _ => none

/-- A command that the port can carry has a code byte of R205, with the parameter count R205 gives it. -/
def Statement (i : Instr) : Prop := ∀ n, paramBytes i = some n → paramCount i.code = some n

theorem powerOn : Statement .powerOn := by
  intro n h; cases h
theorem resetLine : Statement .resetLine := by
  intro n h; cases h
theorem restart : Statement .restart := by
  intro n h; exact h
theorem malformed (code : Byte) : Statement (.malformed code) := by
  intro n h; cases h
theorem unknownCommand (code : Byte) : Statement (.unknownCommand code) := by
  intro n h; cases h
theorem poll : Statement .poll := by
  intro n h; exact h
theorem readResponse : Statement .readResponse := by
  intro n h; exact h
theorem readAttention : Statement .readAttention := by
  intro n h; exact h
theorem ackAttention (mask : Word16) : Statement (.ackAttention mask) := by
  intro n h; exact h
theorem readRoomChanges : Statement .readRoomChanges := by
  intro n h; exact h
theorem readBookingChanges : Statement .readBookingChanges := by
  intro n h; exact h
theorem setAttention (enables : Word16) (lines : Word16) : Statement (.setAttention enables lines) := by
  intro n h; exact h
theorem readResetCause : Statement .readResetCause := by
  intro n h; exact h
theorem writeRoom (room : Nat) (fields : RoomWrite) : Statement (.writeRoom room fields) := by
  intro n h; exact h
theorem readRoom (room : Nat) : Statement (.readRoom room) := by
  intro n h; exact h
theorem writeProfile (profile : Nat) (fields : ProfileWrite) : Statement (.writeProfile profile fields) := by
  intro n h; exact h
theorem readProfile (profile : Nat) : Statement (.readProfile profile) := by
  intro n h; exact h
theorem writeWing (gap : Nat) (setback : Band) (silence : Nat) : Statement (.writeWing gap setback silence) := by
  intro n h; exact h
theorem readWing : Statement .readWing := by
  intro n h; exact h
theorem writePartition (group : Nat) (members : List Nat) : Statement (.writePartition group members) := by
  intro n h; exact h
theorem deletePartition (group : Nat) : Statement (.deletePartition group) := by
  intro n h; exact h
theorem readPartition (group : Nat) : Statement (.readPartition group) := by
  intro n h; exact h
theorem writeAirGroup (group : Nat) (fallback : Nat) (period : Nat) (mask : TriggerMask) : Statement (.writeAirGroup group fallback period mask) := by
  intro n h; exact h
theorem readAirGroup (group : Nat) : Statement (.readAirGroup group) := by
  intro n h; exact h
theorem writeCalibration (room : Nat) (fields : Calibration) : Statement (.writeCalibration room fields) := by
  intro n h; exact h
theorem readCalibration (room : Nat) : Statement (.readCalibration room) := by
  intro n h; exact h
theorem createBooking (fields : BookingFields) : Statement (.createBooking fields) := by
  intro n h; exact h
theorem amendBooking (handle : Handle) (fields : BookingFields) : Statement (.amendBooking handle fields) := by
  intro n h; exact h
theorem cancelBooking (handle : Handle) : Statement (.cancelBooking handle) := by
  intro n h; exact h
theorem suspendBooking (handle : Handle) : Statement (.suspendBooking handle) := by
  intro n h; exact h
theorem resumeBooking (handle : Handle) : Statement (.resumeBooking handle) := by
  intro n h; exact h
theorem readBooking (handle : Handle) : Statement (.readBooking handle) := by
  intro n h; exact h
theorem listRoomBookings (room : Nat) (cursor : Option Nat) : Statement (.listRoomBookings room cursor) := by
  intro n h; exact h
theorem readAgenda (room : Nat) (first : Nat) : Statement (.readAgenda room first) := by
  intro n h; exact h
theorem findFreeRoom (week : Nat) (weekday : Nat) (start : Nat) (stop : Nat) (attendance : Nat) (groups : Bool) : Statement (.findFreeRoom week weekday start stop attendance groups) := by
  intro n h; exact h
theorem setClock (week : Nat) (weekday : Nat) (minute : Nat) : Statement (.setClock week weekday minute) := by
  intro n h; exact h
theorem readClock : Statement .readClock := by
  intro n h; exact h
theorem addClosure (week : Nat) (weekday : Nat) : Statement (.addClosure week weekday) := by
  intro n h; exact h
theorem removeClosure (week : Nat) (weekday : Nat) : Statement (.removeClosure week weekday) := by
  intro n h; exact h
theorem listClosures : Statement .listClosures := by
  intro n h; exact h
theorem holdRoom (room : Nat) (fields : HoldFields) : Statement (.holdRoom room fields) := by
  intro n h; exact h
theorem releaseHold (room : Nat) : Statement (.releaseHold room) := by
  intro n h; exact h
theorem endOccurrence (room : Nat) (handle : Handle) : Statement (.endOccurrence room handle) := by
  intro n h; exact h
theorem extendOccurrence (room : Nat) (handle : Handle) : Statement (.extendOccurrence room handle) := by
  intro n h; exact h
theorem setOpenRange (first : Nat) (last : Nat) : Statement (.setOpenRange first last) := by
  intro n h; exact h
theorem readRoomStatus (room : Nat) : Statement (.readRoomStatus room) := by
  intro n h; exact h
theorem readRoomSensors (room : Nat) : Statement (.readRoomSensors room) := by
  intro n h; exact h
theorem setCapacity (group : Nat) (capacity : Nat) : Statement (.setCapacity group capacity) := by
  intro n h; exact h
theorem requestAllocation (group : Nat) : Statement (.requestAllocation group) := by
  intro n h; exact h
theorem readAllocation (group : Nat) (first : Nat) : Statement (.readAllocation group first) := by
  intro n h; exact h
theorem readRoomAir (room : Nat) : Statement (.readRoomAir room) := by
  intro n h; exact h
theorem sceneWindow (fields : WindowFields) : Statement (.sceneWindow fields) := by
  intro n h; exact h
theorem sceneWriteStart (count : Nat) (levels : List Nat) : Statement (.sceneWriteStart count levels) := by
  intro n h; exact h
theorem sceneWriteContinue (count : Nat) (levels : List Nat) : Statement (.sceneWriteContinue count levels) := by
  intro n h; exact h
theorem sceneReadStart (count : Nat) : Statement (.sceneReadStart count) := by
  intro n h; exact h
theorem sceneReadContinue (count : Nat) : Statement (.sceneReadContinue count) := by
  intro n h; exact h
theorem setEconomy (state : Option Switch) (cap : Nat) : Statement (.setEconomy state cap) := by
  intro n h; exact h
theorem setFacade (facade : Nat) (sun : Option Sun) (season : Option Season) (retract : Option Switch) : Statement (.setFacade facade sun season retract) := by
  intro n h; exact h
theorem readRoomLighting (room : Nat) : Statement (.readRoomLighting room) := by
  intro n h; exact h
theorem readWingLighting : Statement .readWingLighting := by
  intro n h; exact h
theorem readmitStation (address : Nat) : Statement (.readmitStation address) := by
  intro n h; exact h
theorem readStation (address : Nat) : Statement (.readStation address) := by
  intro n h; exact h
theorem readLoopLog : Statement .readLoopLog := by
  intro n h; exact h
theorem storeOperationComplete : Statement .storeOperationComplete := by
  intro n h; cases h
theorem retirementPass : Statement .retirementPass := by
  intro n h; cases h
theorem agendaBuild (room : RoomId) : Statement (.agendaBuild room) := by
  intro n h; cases h
theorem termEndStep : Statement .termEndStep := by
  intro n h; cases h
theorem noteServed (room : RoomId) : Statement (.noteServed room) := by
  intro n h; cases h
theorem extensionRequestServed (room : RoomId) : Statement (.extensionRequestServed room) := by
  intro n h; cases h
theorem secondEvent : Statement .secondEvent := by
  intro n h; cases h
theorem minuteEvent : Statement .minuteEvent := by
  intro n h; cases h
theorem rolloverEvent : Statement .rolloverEvent := by
  intro n h; cases h
theorem termEnd : Statement .termEnd := by
  intro n h; cases h
theorem noShowExpiry (room : RoomId) : Statement (.noShowExpiry room) := by
  intro n h; cases h
theorem confirmRequest (room : RoomId) : Statement (.confirmRequest room) := by
  intro n h; cases h
theorem endNowRequest (room : RoomId) : Statement (.endNowRequest room) := by
  intro n h; cases h
theorem sensedAbsenceExpiry (room : RoomId) : Statement (.sensedAbsenceExpiry room) := by
  intro n h; cases h
theorem quietTimerExpiry (room : RoomId) : Statement (.quietTimerExpiry room) := by
  intro n h; cases h
theorem settleTimerExpiry (room : RoomId) : Statement (.settleTimerExpiry room) := by
  intro n h; cases h
theorem holdExpiry (room : RoomId) : Statement (.holdExpiry room) := by
  intro n h; cases h
theorem hostSilenceExpiry : Statement .hostSilenceExpiry := by
  intro n h; cases h
theorem periodTimerMatch (group : AirId) : Statement (.periodTimerMatch group) := by
  intro n h; cases h
theorem allocationPassComplete (group : AirId) : Statement (.allocationPassComplete group) := by
  intro n h; cases h
theorem roundStart : Statement .roundStart := by
  intro n h; cases h
theorem stationVisit : Statement .stationVisit := by
  intro n h; cases h
theorem noReply : Statement .noReply := by
  intro n h; cases h
theorem reportReceived (reply : Reply) : Statement (.reportReceived reply) := by
  intro n h; cases h
theorem blindTravelComplete (room : RoomId) (blind : BlindId) : Statement (.blindTravelComplete room blind) := by
  intro n h; cases h
theorem blindPauseEnd (room : RoomId) (blind : BlindId) : Statement (.blindPauseEnd room blind) := by
  intro n h; cases h

end Sys2Proof.Laws.Coded
end

