-- ==== Sys2Proof/Laws/Quiet.lean ====
section
/-! SUPPORT. What moving a room's service state, estimate and partition group leaves alone beside `RoomWork`: the whole
port and every agenda (`Quiet`); and what changing agendas leaves alone: the whole port (`SamePort`). -/
namespace Sys2Proof.Machine

/-- The port and every agenda are as they were. -/
structure Quiet (s t : State) : Prop where
  port : t.port = s.port
  agenda : ∀ r, (t.room r).agenda = (s.room r).agenda

theorem Quiet.refl (s : State) : Quiet s s := ⟨rfl, fun _ => rfl⟩

theorem Quiet.trans {s t u : State} (a : Quiet s t) (b : Quiet t u) : Quiet s u :=
  ⟨b.port.trans a.port, fun r => (b.agenda r).trans (a.agenda r)⟩

/-- A fold of quiet steps is quiet. -/
theorem Quiet.foldl {α : Type} {f : State → α → State} (h : ∀ s a, Quiet s (f s a)) (l : List α) (s : State) :
    Quiet s (l.foldl f s) := by
  induction l generalizing s with
  | nil => exact .refl s
  | cons a l ih => exact (h s a).trans (ih _)

theorem Quiet.modifyRoom (s : State) (r : RoomId) {f : Room → Room} (h : ∀ x, (f x).agenda = x.agenda) :
    Quiet s (s.modifyRoom r f) :=
  ⟨rfl, fun q => by rw [room_modifyRoom]; split <;> simp_all⟩

theorem Quiet.modifyCtx (s : State) (r : RoomId) (f : Context → Context) : Quiet s (s.modifyCtx r f) :=
  .modifyRoom s r fun _ => rfl

theorem Quiet.modifyOce (s : State) (r : RoomId) (f : Estimator → Estimator) : Quiet s (s.modifyOce r f) :=
  .modifyRoom s r fun _ => rfl

theorem Quiet.modifyGroup (s : State) (g : GroupId) (f : PartGroup → PartGroup) : Quiet s (s.modifyGroup g f) :=
  ⟨rfl, fun _ => rfl⟩

theorem Quiet.postWork (s : State) (w : CalWork) : Quiet s (s.postWork w) := ⟨rfl, fun _ => rfl⟩

/-! ## The service machine -/

theorem Quiet.moveCtx (s : State) (r : RoomId) (f : Context → Context) : Quiet s (s.moveCtx r f) :=
  (Quiet.modifyCtx s r f).trans ⟨rfl, fun q => by unfold State.moveCtx; rw [room_afterMove]; split <;> rfl⟩

theorem Quiet.setService (s : State) (r : RoomId) (v : Service) (g : Option Handle) :
    Quiet s (s.setService r v g) := .moveCtx ..

theorem Quiet.sendConfirm (s : State) (r : RoomId) : Quiet s (s.sendConfirm r) := by
  unfold State.sendConfirm; dsimp only; split
  · exact (Quiet.modifyCtx ..).trans (.postWork ..)
  · exact .refl s

theorem Quiet.precondOr (s : State) (r : RoomId) (v : Service) : Quiet s (s.precondOr r v) := by
  unfold State.precondOr; split <;> exact .setService ..

theorem Quiet.enterClass (s : State) (r : RoomId) (e : Entry) : Quiet s (s.enterClass r e) := by
  unfold State.enterClass; split
  · exact .setService ..
  · split
    · exact (Quiet.setService ..).trans (.sendConfirm ..)
    · exact .setService ..

theorem Quiet.derive (s : State) (r : RoomId) : Quiet s (s.derive r) := by
  unfold State.derive; split
  · exact .setService ..
  · split
    · exact .setService ..
    · split
      · exact .enterClass ..
      · exact .precondOr ..

theorem Quiet.enterOverrun (s : State) (r : RoomId) (e : Entry) (m : Option Nat) :
    Quiet s (s.enterOverrun r e m) := by
  unfold State.enterOverrun; split
  · exact .precondOr ..
  · exact .moveCtx ..

theorem Quiet.reportRest (s : State) (r : RoomId) : Quiet s (s.reportRest r) := by
  unfold State.reportRest; dsimp only; split
  · split
    · exact .setService ..
    · exact .refl s
  · exact .refl s

theorem Quiet.reportInactive (s : State) (r : RoomId) (m : Option Nat) (g : Option Entry) :
    Quiet s (s.reportInactive r m g) := by
  unfold State.reportInactive; dsimp only
  repeat' split
  all_goals first
    | exact .precondOr ..
    | exact .setService ..
    | exact .enterOverrun ..
    | exact .reportRest ..

theorem Quiet.report (s : State) (m : Option Nat) (r : RoomId) : Quiet s (s.report m r) := by
  unfold State.report; dsimp only
  repeat' split
  all_goals first
    | exact .refl s
    | exact .setService ..
    | exact .enterClass ..
    | exact .reportInactive ..
    | exact .reportRest ..

theorem Quiet.confirmIfStarted (s : State) (r : RoomId) : Quiet s (s.confirmIfStarted r) := by
  unfold State.confirmIfStarted; split
  · split
    · exact .sendConfirm ..
    · exact .refl s
  · exact .refl s

theorem Quiet.moveService (s : State) (r : RoomId) (v : Service) : Quiet s (s.moveService r v) :=
  .moveCtx ..

theorem Quiet.presenceMoved (s : State) (r : RoomId) (a b : Presence) : Quiet s (s.presenceMoved r a b) := by
  unfold State.presenceMoved; dsimp only
  repeat' split
  all_goals first
    | with_reducible exact .refl s
    | with_reducible exact .setService ..
    | with_reducible exact (Quiet.moveService ..).trans (.confirmIfStarted ..)
    | with_reducible exact .moveService ..
    | with_reducible exact .precondOr ..

theorem Quiet.overrunCheck (s : State) (r : RoomId) : Quiet s (s.overrunCheck r) := by
  unfold State.overrunCheck; dsimp only
  repeat' split
  all_goals first
    | exact .refl s
    | exact .precondOr ..

theorem Quiet.confirmAnswered (s : State) (r : RoomId) (h : Handle) (a : ConfirmAnswer) :
    Quiet s (s.confirmAnswered r h a) := by
  have f : Quiet s (s.modifyCtx r fun c => { c with outConfirm := none }) := .modifyCtx ..
  unfold State.confirmAnswered; dsimp only
  split <;> split
  · exact (f.trans (.modifyCtx ..)).trans (.confirmIfStarted ..)
  · exact f.trans (.modifyCtx ..)
  · exact f.trans (.confirmIfStarted ..)
  · exact f

theorem Quiet.panelBlind (s : State) (r : RoomId) (b : BlindId) (o : Override) : Quiet s (s.panelBlind r b o) := by
  unfold State.panelBlind; split
  · exact .modifyCtx ..
  · exact .refl s

theorem Quiet.panelTrim (s : State) (r : RoomId) (i : Int) : Quiet s (s.panelTrim r i) :=
  .foldl (fun _ _ => .modifyCtx ..) ..

theorem Quiet.panelEvent (s : State) (r : RoomId) (e : PanelEvent) : Quiet s (s.panelEvent r e) := by
  unfold State.panelEvent; split
  · cases e
    · simp only [State.panelAct, State.panelExtend]; repeat' split
      all_goals first | exact .refl s | exact .modifyCtx ..
    · simp only [State.panelAct, State.panelEndNow]; repeat' split
      all_goals first | exact .refl s | exact .postWork ..
    · exact .panelTrim ..
    · exact .panelTrim ..
    · exact .panelBlind ..
    · exact .panelBlind ..
  · exact .refl s

theorem Quiet.reportChanges (s b : State) (m : Option Nat) : Quiet s (s.reportChanges b m) :=
  .foldl (fun s r => .report s m r) ..

/-! ## Estimates and partition groups -/

theorem Quiet.modifyEstimate (s : State) (r : RoomId) (f : Estimate → Estimate) :
    Quiet s (s.modifyEstimate r f) := by
  unfold State.modifyEstimate; split
  · exact .modifyGroup ..
  · exact .modifyOce s r _

theorem Quiet.tellPresence (s : State) (r : RoomId) (p : Presence) : Quiet s (s.tellPresence r p) := by
  unfold State.tellPresence; exact .foldl (fun s m => .presenceMoved s m _ _) ..

theorem Quiet.intake (s : State) (r : RoomId) (rep : Report) : Quiet s (s.intake r rep) := by
  unfold State.intake; dsimp only; split
  · exact .refl s
  · refine Quiet.trans ?_ (.tellPresence ..)
    refine Quiet.trans ?_ (.modifyEstimate ..)
    exact .modifyOce s r _

theorem Quiet.absenceExpiry (s : State) (r : RoomId) : Quiet s (s.absenceExpiry r) := by
  unfold State.absenceExpiry; split
  · exact (Quiet.modifyEstimate ..).trans (.tellPresence ..)
  · exact .refl s

theorem Quiet.quietExpiry (s : State) (r : RoomId) : Quiet s (s.quietExpiry r) := by
  unfold State.quietExpiry; split
  · exact (Quiet.modifyEstimate ..).trans (.tellPresence ..)
  · exact .refl s

theorem Quiet.freezeRoom (s : State) (r : RoomId) : Quiet s (s.freezeRoom r) := by
  have f : Quiet s (s.modifyOce r fun o => { o.unbase with est := o.est.freeze s.oceNow }) :=
    .modifyOce s r _
  unfold State.freezeRoom; dsimp only; split
  · split
    · exact f.trans (.modifyGroup ..)
    · exact f
  · exact f

theorem Quiet.thawRoom (s : State) (r : RoomId) : Quiet s (s.thawRoom r) := by
  have f : Quiet s (s.modifyOce r fun o => { o with est := o.est.resume s.oceNow }) := .modifyOce s r _
  unfold State.thawRoom; dsimp only; split
  · exact f.trans (.modifyGroup ..)
  · exact f

theorem Quiet.merge (s : State) (g : GroupId) (p : PartGroup) : Quiet s (s.merge g p) := by
  unfold State.merge; dsimp only
  refine Quiet.trans ?_ (.modifyGroup ..)
  refine Quiet.trans ?_ (.foldl (fun s m => .modifyCtx ..) ..)
  have drop (u : State) : Quiet u (p.members.foldl (fun t m => t.modifyOce m fun o =>
      { o with est := { Estimate.reset with frozenAt := o.est.frozenAt } }) u) := by
    apply Quiet.foldl
    intro t m
    exact .modifyOce t m _
  exact Quiet.trans (.foldl (fun t (w : RoomId × Presence) => .presenceMoved t w.1 w.2 _) ..) (drop _)

theorem Quiet.split (s : State) (g : GroupId) (p : PartGroup) (d : GroupState) : Quiet s (s.split g p d) := by
  unfold State.split; dsimp only
  refine Quiet.trans ?_ (.modifyGroup ..)
  apply Quiet.foldl
  intro t m
  refine Quiet.trans ?_ (.modifyCtx ..)
  exact .modifyOce t m _

theorem Quiet.evaluateGroup (s : State) (g : GroupId) : Quiet s (s.evaluateGroup g) := by
  unfold State.evaluateGroup; dsimp only
  repeat' split
  all_goals first
    | exact .refl s
    | exact .merge ..
    | exact .split ..
    | exact .modifyGroup ..

theorem Quiet.evaluateRoom (s : State) (r : RoomId) : Quiet s (s.evaluateRoom r) := by
  unfold State.evaluateRoom; split
  · exact .evaluateGroup ..
  · exact .refl s

theorem Quiet.contactReported (s : State) (r : RoomId) (b : Bool) : Quiet s (s.contactReported r b) := by
  unfold State.contactReported; dsimp only; split
  · split
    · generalize Contact.read _ _ = k
      split
      · exact .refl s
      · exact (Quiet.modifyGroup ..).trans (.evaluateGroup ..)
    · exact .refl s
  · exact .refl s

theorem Quiet.settleExpiry (s : State) (r : RoomId) : Quiet s (s.settleExpiry r) := by
  unfold State.settleExpiry
  repeat' split
  all_goals first
    | exact .refl s
    | exact (Quiet.modifyGroup ..).trans (.evaluateGroup ..)

theorem Quiet.splitIfMerged (s : State) (g : GroupId) : Quiet s (s.splitIfMerged g) := by
  unfold State.splitIfMerged
  repeat' split
  all_goals first
    | exact .refl s
    | exact .split ..

/-! ## Agendas -/

/-- The port is as it was. -/
def SamePort (s t : State) : Prop := t.port = s.port

theorem SamePort.refl (s : State) : SamePort s s := rfl

theorem SamePort.trans {s t u : State} (a : SamePort s t) (b : SamePort t u) : SamePort s u := Eq.trans b a

/-- A fold of steps that keep the port keeps it. -/
theorem SamePort.foldl {α : Type} {f : State → α → State} (h : ∀ s a, SamePort s (f s a)) (l : List α) (s : State) :
    SamePort s (l.foldl f s) := by
  induction l generalizing s with
  | nil => exact .refl s
  | cons a l ih => exact (h s a).trans (ih _)

theorem SamePort.mapAgendas (s : State) (f : RoomId → List Entry → List Entry) : SamePort s (s.mapAgendas f) := rfl

theorem SamePort.modifyRoom (s : State) (r : RoomId) (f : Room → Room) : SamePort s (s.modifyRoom r f) := rfl

theorem SamePort.modifyCtx (s : State) (r : RoomId) (f : Context → Context) : SamePort s (s.modifyCtx r f) := rfl

theorem SamePort.derive (s : State) (r : RoomId) : SamePort s (s.derive r) := (Quiet.derive s r).port

theorem SamePort.reportChanges (s b : State) (m : Option Nat) : SamePort s (s.reportChanges b m) :=
  (Quiet.reportChanges s b m).port

theorem SamePort.confirmAnswered (s : State) (r : RoomId) (h : Handle) (a : ConfirmAnswer) :
    SamePort s (s.confirmAnswered r h a) := (Quiet.confirmAnswered s r h a).port

theorem SamePort.setTimer (s : State) (h : Handle) (t : Option NoShow) : SamePort s (s.setTimer h t) := .mapAgendas ..

theorem SamePort.mapHandle (s : State) (h : Handle) (f : Entry → Entry) : SamePort s (s.mapHandle h f) :=
  .mapAgendas ..

theorem SamePort.settleTimers (s b : State) : SamePort s (s.settleTimers b) := by
  refine .foldl (fun s p => ?_) ..
  split
  · exact .setTimer ..
  · exact .setTimer ..

theorem SamePort.evalAgendas (s : State) (m : Nat) : SamePort s (s.evalAgendas m) :=
  ((SamePort.mapAgendas ..).trans (.settleTimers ..)).trans (.reportChanges ..)

/-- All that telling a release does to the port: the rooms that hold the handle enter the room change set (R54). -/
theorem reportRelease_port (s : State) (h : Handle) :
    (s.reportRelease h).port = (s.holders h).foldl Port.roomChanged s.port := by
  unfold State.reportRelease
  generalize s.holders h = l
  induction l generalizing s with
  | nil => rfl
  | cons r rest ih =>
    have p : ((s.report none r).roomChanged r).port = s.port.roomChanged r :=
      congrArg (Port.roomChanged · r) (Quiet.report s none r).port
    simp only [List.foldl_cons, ih, p]

theorem SamePort.applyConfirm (s : State) (r : RoomId) (h : Handle) : SamePort s (s.applyConfirm r h) := by
  unfold State.applyConfirm; split
  · exact ((SamePort.mapHandle ..).trans (.reportChanges ..)).trans (.confirmAnswered ..)
  all_goals exact .confirmAnswered ..

theorem SamePort.applyEndNow (s : State) (r : RoomId) (h : Handle) : SamePort s (s.applyEndNow r h).1 := by
  unfold State.applyEndNow; split
  · split
    · exact (SamePort.mapHandle ..).trans (.reportChanges ..)
    · exact .refl s
  · exact .refl s

theorem SamePort.applyClosed (s : State) (r : RoomId) : SamePort s (s.applyClosed r) := by
  unfold State.applyClosed; dsimp only
  refine SamePort.trans ?_ (.reportChanges ..)
  refine SamePort.trans ?_ (.foldl (fun s _ => .setTimer s _ _) ..)
  exact .modifyRoom s r _

theorem SamePort.reopenEntry (s : State) (r : RoomId) (e : Entry) : SamePort s (s.reopenEntry r e) := by
  unfold State.reopenEntry; dsimp only
  have put (st : EntryState) : SamePort s (s.modifyRoom r fun x =>
      { x with agenda := x.agenda.map fun y => if y.handle == e.handle then y.toState st else y }) :=
    .modifyRoom s r _
  split
  · exact (put _).trans (.setTimer ..)
  · split
    · exact (put _).trans (.setTimer ..)
    · exact put _

theorem SamePort.addEntry (s : State) (r : RoomId) (e : Entry) : SamePort s (s.addEntry r e) :=
  .modifyRoom s r _

theorem SamePort.place (s : State) (m : Nat) (rs : List RoomId) (h : Handle) (b : Record) :
    SamePort s (s.place m rs h b) := by
  have f : SamePort s (rs.foldl (fun t r => t.addEntry r ((newEntry h b).toState
      (placeState m (s.leadOf (newEntry h b)) (s.closed r) (newEntry h b).start (newEntry h b).curEnd))) s) :=
    .foldl (fun t r => .addEntry t r _) ..
  unfold State.place; dsimp only; split
  · exact f.trans (.setTimer ..)
  · exact f

theorem SamePort.placeToday (s : State) (now : Instant) (h : Handle) (b : Record) :
    SamePort s (s.placeToday now h b) := by
  unfold State.placeToday; split
  · exact .place ..
  · exact .refl s

theorem SamePort.removeHandle (s : State) (h : Handle) : SamePort s (s.removeHandle h) := .mapAgendas ..

theorem SamePort.placeIn (s : State) (m : Nat) (r : RoomId) (h : Handle) (b : Record) :
    SamePort s (s.placeIn m r h b) := by
  unfold State.placeIn; dsimp only; repeat' split
  all_goals first | exact .addEntry .. | exact (SamePort.addEntry ..).trans (.setTimer ..)

theorem SamePort.buildEntry (s : State) (m : Nat) (r : RoomId) (h : Handle) (b : Record) :
    SamePort s (s.buildEntry m r h b) := by
  unfold State.buildEntry; split
  · exact .addEntry ..
  · exact .placeIn ..

theorem SamePort.jump (s : State) (a b : Nat) : SamePort s (s.jump a b) := by
  unfold State.jump; split
  · exact .evalAgendas ..
  · split
    · exact ((SamePort.mapAgendas ..).trans (.settleTimers ..)).trans (.reportChanges ..)
    · exact .refl s

end Sys2Proof.Machine
end

