-- ==== Sys2Proof/WellFormed.lean ====
section
/-! DEFINITION. Which commands the port can carry: every field within the width its parameter bytes give it (R202, R205,
R207). Values beyond a field's range but within its width are well formed: the owner of the command refuses or clamps
them. -/
namespace Sys2Proof

/-- A one-byte field. -/
def isByte (n : Nat) : Bool := n < 256

/-- A two-byte field. -/
def isWord (n : Nat) : Bool := n < 65536

/-- A signed two-byte field. -/
def isSigned (i : Int) : Bool := -32768 ≤ i && i ≤ 32767

/-- A handle: twelve bits of slot, four of generation (R202). -/
def Handle.wellFormed (h : Handle) : Bool := h.slot < 4096 && h.gen < 16

/-- A band of two signed fields. -/
def Band.wellFormed (b : Band) : Bool := isSigned b.heat && isSigned b.cool

/-- A room record as WRITE_ROOM carries it (R3, R205). -/
def RoomWrite.wellFormed (w : RoomWrite) : Bool :=
  isByte w.station && isWord w.seats && isWord w.area && isByte w.areaRate && isWord w.vminUn && isWord w.vminOcc
    && isWord w.vmax && w.airGroup.all isByte && isByte w.channels && isByte w.blindCount
    && w.facades.list.all isByte && w.travels.list.all isWord && isByte w.walkIn && isWord w.confirmTime
    && isWord w.quietTime

/-- A profile as WRITE_PROFILE carries it (R11, R205). -/
def ProfileWrite.wellFormed (w : ProfileWrite) : Bool :=
  [w.lead, w.noShow, w.reclaim, w.overrunLimit, w.extStep, w.maxExt, w.still, w.perPerson, w.co2Gain, w.scenePre,
   w.sceneAwait, w.sceneUse, w.sceneOver, w.blindPos, w.glarePos, w.fade].all isByte
    && [w.co2Target, w.luxTarget, w.minDim].all isWord && w.band.wellFormed

/-- A calibration as WRITE_CALIBRATION carries it (R109, R205). -/
def Calibration.wellFormed (c : Calibration) : Bool :=
  isWord c.co2Gain && isSigned c.co2Offset && isWord c.luxGain && isSigned c.luxOffset && isSigned c.tempOffset

/-- A booking image (R207): the target number has seven bits. -/
def BookingFields.wellFormed (f : BookingFields) : Bool :=
  f.number < 128 && isByte f.weekday && isByte f.firstWeek && isByte f.lastWeek && isByte f.skipCount
    && f.skips.list.all isByte && isWord f.start && isWord f.stop && isByte f.cls && isWord f.attendance

/-- A hold record as HOLD_ROOM carries it (R89, R205). -/
def HoldFields.wellFormed (f : HoldFields) : Bool :=
  isByte f.scene && f.blinds.list.all isByte && isWord f.flow && f.band.wellFormed && isWord f.expiry

/-- A window as SCENE_WINDOW carries it (R149, R205). -/
def WindowFields.wellFormed (f : WindowFields) : Bool :=
  isByte f.firstScene && isByte f.lastScene && isByte f.firstChannel && isByte f.lastChannel

/-- The levels of a scene write: a count byte and exactly sixteen two-byte levels (R205). -/
def levelsWellFormed (count : Nat) (levels : List Nat) : Bool := isByte count && levels.length == 16 && levels.all isWord

/-- A reply on the loop ends at 64 bytes at the latest, and has at least one byte (R172). -/
def Reply.wellFormed (r : Reply) : Bool := 1 ≤ r.bytes.length && r.bytes.length ≤ 64

/-- Whether a step is one that the port, the loop or the part itself can make. -/
def Instr.wellFormed : Instr → Bool
  | .writeRoom room fields => isByte room && fields.wellFormed
  | .readRoom room => isByte room
  | .writeProfile profile fields => isByte profile && fields.wellFormed
  | .readProfile profile => isByte profile
  | .writeWing gap setback silence => isByte gap && setback.wellFormed && isByte silence
  | .writePartition group members => isByte group && members.all isByte && members.length ≤ 255
  | .deletePartition group => isByte group
  | .readPartition group => isByte group
  | .writeAirGroup group fallback period _ => isByte group && isWord fallback && isWord period
  | .readAirGroup group => isByte group
  | .writeCalibration room fields => isByte room && fields.wellFormed
  | .readCalibration room => isByte room
  | .createBooking fields => fields.wellFormed
  | .amendBooking handle fields => handle.wellFormed && fields.wellFormed
  | .cancelBooking handle => handle.wellFormed
  | .suspendBooking handle => handle.wellFormed
  | .resumeBooking handle => handle.wellFormed
  | .readBooking handle => handle.wellFormed
  | .listRoomBookings room cursor => isByte room && cursor.all isWord
  | .readAgenda room first => isByte room && isByte first
  | .findFreeRoom week weekday start stop attendance _ =>
    isByte week && isByte weekday && isWord start && isWord stop && isWord attendance
  | .setClock week weekday minute => isByte week && isByte weekday && isWord minute
  | .addClosure week weekday => isByte week && isByte weekday
  | .removeClosure week weekday => isByte week && isByte weekday
  | .holdRoom room fields => isByte room && fields.wellFormed
  | .releaseHold room => isByte room
  | .endOccurrence room handle => isByte room && handle.wellFormed
  | .extendOccurrence room handle => isByte room && handle.wellFormed
  | .setOpenRange first last => isByte first && isByte last
  | .readRoomStatus room => isByte room
  | .readRoomSensors room => isByte room
  | .setCapacity group capacity => isByte group && isWord capacity
  | .requestAllocation group => isByte group
  | .readAllocation group first => isByte group && isByte first
  | .readRoomAir room => isByte room
  | .sceneWindow fields => fields.wellFormed
  | .sceneWriteStart count levels => levelsWellFormed count levels
  | .sceneWriteContinue count levels => levelsWellFormed count levels
  | .sceneReadStart count => isByte count
  | .sceneReadContinue count => isByte count
  | .setEconomy _ cap => isWord cap
  | .setFacade facade _ _ _ => isByte facade
  | .readRoomLighting room => isByte room
  | .readmitStation address => isByte address
  | .readStation address => isByte address
  | .reportReceived reply => reply.wellFormed
  | .powerOn => true
  | .resetLine => true
  | .restart => true
  | .malformed _ => true
  | .unknownCommand _ => true
  | .poll => true
  | .readResponse => true
  | .readAttention => true
  | .ackAttention _ => true
  | .readRoomChanges => true
  | .readBookingChanges => true
  | .setAttention _ _ => true
  | .readResetCause => true
  | .readWing => true
  | .readClock => true
  | .listClosures => true
  | .readWingLighting => true
  | .readLoopLog => true
  | .storeOperationComplete => true
  | .retirementPass => true
  | .agendaBuild _ => true
  | .termEndStep => true
  | .noteServed _ => true
  | .extensionRequestServed _ => true
  | .secondEvent => true
  | .minuteEvent => true
  | .rolloverEvent => true
  | .termEnd => true
  | .noShowExpiry _ => true
  | .confirmRequest _ => true
  | .endNowRequest _ => true
  | .sensedAbsenceExpiry _ => true
  | .quietTimerExpiry _ => true
  | .settleTimerExpiry _ => true
  | .holdExpiry _ => true
  | .hostSilenceExpiry => true
  | .periodTimerMatch _ => true
  | .allocationPassComplete _ => true
  | .roundStart => true
  | .stationVisit => true
  | .noReply => true
  | .blindTravelComplete _ _ => true
  | .blindPauseEnd _ _ => true

end Sys2Proof
end

