-- ==== Sys2Proof/Tests/Slice0.lean ====
section
/-! SUPPORT. The model's own tests: ill-formed terms refused, the manual's worked examples, and for every statement with
hypotheses a concrete state that meets them. Expected values are the manual's, from the rule or example each test
names. -/
set_option Elab.async false
namespace Sys2Proof.Tests
open Sys2Proof Sys2Proof.Machine

/-! ## Small states -/

/-- A room enabled at its power-on address, in an air group. -/
def withRoom (s : State) (r : RoomId) : State :=
  s.modifyRoom r fun x =>
    { x with cfg := { x.cfg with enabled := true, airGroup := some 0, blindCount := 2, channels := 2 }
             station := some (.joining (r.val + 1)), ctx := { x.ctx with service := .setback } }

/-- Rooms 3 and 4 enabled, the clock VALID at 2/1, minute 540. -/
def wing : State :=
  withRoom (withRoom
    { State.reset with cal := { State.reset.cal with valid := true, week := 2, weekday := 1, minute := 540 } } 3) 4

/-- A weekly lecture in room 3, 600 to 630. -/
def lecture : BookingFields :=
  { group := false, number := 3, pattern := some .weekly, weekday := 1, firstWeek := 2, lastWeek := 10,
    skipCount := 0, skips := .fill 4 0, start := 600, stop := 630, cls := 1, attendance := 20 }

/-- The record of `lecture`. -/
def lectureRec : Record :=
  { target := .room 3, pattern := .weekly, weekday := 1, firstWeek := 2, lastWeek := 10, skips := [], start := 600,
    stop := 630, cls := 1, attendance := 20, state := .active, noShows := 0, releases := 0 }

/-- A record that is SUSPENDED, later the same day. -/
def pausedRec : Record := { lectureRec with start := 700, stop := 730, state := .suspended .host }

/-- A record whose last date, 1/1, is over on 2/1. -/
def overRec : Record := { lectureRec with target := .room 4, firstWeek := 0, lastWeek := 1, noShows := 1 }

/-- The handle of the lecture, of the paused record, and of a slot that is free. -/
def hLecture : Handle := ⟨0, 0⟩
/-- See `hLecture`. -/
def hPaused : Handle := ⟨1, 0⟩
/-- See `hLecture`. -/
def hFree : Handle := ⟨5, 0⟩

/-- `wing` with the three records in slots 0 to 2, and the lecture's entry in room 3's agenda in a given state. -/
def booked (st : EntryState) (timer : Option NoShow) : State :=
  let slots := ((wing.store.slots.set 0 ⟨0, some lectureRec⟩).set 1 ⟨0, some pausedRec⟩).set 2 ⟨0, some overRec⟩
  { wing with store := { wing.store with slots := slots } }.modifyRoom 3 fun x =>
    { x with agenda := [{ newEntry hLecture lectureRec with state := st, timer := timer }]
             ctx := { x.ctx with service := .inUse, gov := some hLecture } }

/-- The lecture not begun. -/
def waiting : State := booked .waiting none

/-- The lecture CONFIRMED, at minute 610. -/
def taught : State := { booked .confirmed none with cal := { wing.cal with minute := 610 } }

/-- The state with an operation running at the arbiter, judged by the present instant. -/
def performs (op : StoreOp) (s : State) : State :=
  { s with store := { s.store with running := some { op := op, at_ := s.instant } } }

/-- The same for a host command, with the slot EXECUTING. -/
def performsFor (c : Instr) (s : State) : State :=
  performs (.host (.command c)) { s with port := { s.port with slot := .executing c false } }

/-- The next state, where there is one. -/
def after (c : Instr) (s : State) : State :=
  match exec c s with
  | .next t => t
  | _ => s

/-- Whether a check passes. -/
def passes {ε α : Type} : Except ε α → Bool
  | .ok _ => true
  | .error _ => false

/-- A write of a room that is in range and in order. -/
def roomWrite (enabled : Bool) (station : Nat) : RoomWrite :=
  { enabled := enabled, station := station, seats := 40, area := 60, areaRate := 30, vminUn := 30, vminOcc := 90,
    vmax := 600, airGroup := some 0, channels := 2, daylight := .fill 4 false, blindCount := 1, facades := .fill 2 0,
    travels := .fill 2 300, doorCounting := true, walkIn := 10, confirmTime := 120, quietTime := 600 }

/-- A write of a profile that is in range and in order. -/
def profileWrite : ProfileWrite :=
  { lead := 15, noShow := 15, reclaim := 1, overrunLimit := 30, extStep := 15, maxExt := 30, still := 20,
    perPerson := 80, co2Target := 1000, co2Gain := 40, band := ⟨200, 240⟩, scenePre := 0, sceneAwait := 0,
    sceneUse := 0, sceneOver := 0, policy := some .fixed, blindPos := 0, glarePos := 0, luxTarget := 500,
    minDim := 100, fade := 3 }

/-- A hold. -/
def holdFields : HoldFields := { scene := 1, blinds := .two 30 100, flow := 100, band := ⟨200, 230⟩, expiry := 1 }

/-- A window of scenes 0 to 2 and channels 0 to 1. -/
def windowFields : WindowFields :=
  { firstScene := 0, lastScene := 2, firstChannel := 0, lastChannel := 1, order := some .sceneMajor,
    wrap := some .off }

/-! ## Ill-formed terms are refused -/

theorem test_wf_byte : Instr.wellFormed (.readRoom 256) = false := by decide
theorem test_wf_word : Instr.wellFormed (.setClock 0 0 65536) = false := by decide
theorem test_wf_band_heat : Instr.wellFormed (.writeWing 0 ⟨-32769, 0⟩ 0) = false := by decide
theorem test_wf_band_cool : Instr.wellFormed (.writeWing 0 ⟨0, 32768⟩ 0) = false := by decide
theorem test_wf_handle_slot : Instr.wellFormed (.readBooking ⟨4096, 0⟩) = false := by decide
theorem test_wf_handle_generation : Instr.wellFormed (.readBooking ⟨0, 16⟩) = false := by decide
theorem test_wf_room_station : Instr.wellFormed (.writeRoom 0 (roomWrite true 256)) = false := by decide
theorem test_wf_room_seats : Instr.wellFormed (.writeRoom 0 { roomWrite true 1 with seats := 65536 }) = false := by
  decide
theorem test_wf_room_group :
    Instr.wellFormed (.writeRoom 0 { roomWrite true 1 with airGroup := some 256 }) = false := by decide
theorem test_wf_room_facades :
    Instr.wellFormed (.writeRoom 0 { roomWrite true 1 with facades := .fill 2 256 }) = false := by decide
theorem test_wf_room_travels :
    Instr.wellFormed (.writeRoom 0 { roomWrite true 1 with travels := .fill 2 65536 }) = false := by decide
theorem test_wf_profile_byte : Instr.wellFormed (.writeProfile 0 { profileWrite with lead := 256 }) = false := by
  decide
theorem test_wf_profile_word :
    Instr.wellFormed (.writeProfile 0 { profileWrite with minDim := 65536 }) = false := by decide
theorem test_wf_profile_band :
    Instr.wellFormed (.writeProfile 0 { profileWrite with band := ⟨40000, 0⟩ }) = false := by decide
theorem test_wf_members : Instr.wellFormed (.writePartition 0 [1, 256]) = false := by decide
theorem test_wf_calibration_gain :
    Instr.wellFormed (.writeCalibration 0 { neutralCalibration with co2Gain := 65536 }) = false := by decide
theorem test_wf_calibration_offset :
    Instr.wellFormed (.writeCalibration 0 { neutralCalibration with tempOffset := 32768 }) = false := by decide
theorem test_wf_booking_number : Instr.wellFormed (.createBooking { lecture with number := 128 }) = false := by decide
theorem test_wf_booking_skips :
    Instr.wellFormed (.createBooking { lecture with skips := .fill 4 256 }) = false := by decide
theorem test_wf_booking_stop : Instr.wellFormed (.createBooking { lecture with stop := 65536 }) = false := by decide
theorem test_wf_cursor : Instr.wellFormed (.listRoomBookings 0 (some 65536)) = false := by decide
theorem test_wf_hold : Instr.wellFormed (.holdRoom 0 { holdFields with flow := 65536 }) = false := by decide
theorem test_wf_hold_blinds : Instr.wellFormed (.holdRoom 0 { holdFields with blinds := .two 0 256 }) = false := by
  decide
theorem test_wf_window : Instr.wellFormed (.sceneWindow { windowFields with lastScene := 256 }) = false := by decide
theorem test_wf_levels_count : Instr.wellFormed (.sceneWriteStart 1 [100]) = false := by decide
theorem test_wf_levels_word : Instr.wellFormed (.sceneWriteContinue 16 (List.replicate 16 65536)) = false := by decide
theorem test_wf_reply_empty : Instr.wellFormed (.reportReceived ⟨[], true⟩) = false := by decide
theorem test_wf_reply_long : Instr.wellFormed (.reportReceived ⟨List.replicate 65 0, true⟩) = false := by decide
theorem test_wf_accepts : Instr.wellFormed (.amendBooking ⟨4095, 15⟩ lecture) = true := by decide

/-! ## Select periods (R188, R202, R205, R207) -/

/-- The bytes of a select period: the first with SEL low, the others with SEL high. -/
def period : List Byte → List Shifted
  | [] => []
  | b :: rest => ⟨false, b⟩ :: rest.map fun x => ⟨true, x⟩

theorem test_period_unknown : framePeriod (period [0x7F]) = .unknown 0x7F := by decide
theorem test_period_malformed : framePeriod (period [0x42, 2]) = .malformed 0x42 := by decide
theorem test_period_extra_ignored : framePeriod (period [0x42, 2, 1, 9]) = .command 0x42 [2, 1] := by decide
theorem test_period_sel_high : framePeriod [⟨true, 0x00⟩] = .noCommand := by decide
theorem test_decode_cancel : decodePeriod (period [0x32, 0x28, 0x30]) = some (.cancelBooking ⟨40, 3⟩) := by decide
theorem test_decode_create :
    decodePeriod (period [0x30, 3, 1, 1, 2, 10, 0, 0, 0, 0, 0, 0x58, 0x02, 0x76, 0x02, 1, 20, 0]) =
      some (.createBooking lecture) := by decide
theorem test_decode_list_all : decodePeriod (period [0x36, 7, 0xFF, 0xFF]) = some (.listRoomBookings 7 none) := by decide
/-- R205: every code with its count of parameter bytes is a command of that code. -/
theorem test_every_code_decodes :
    (commandCodes.all fun p => ((commandOf (BitVec.ofNat 8 p.1) (List.replicate p.2 0)).map Instr.code) ==
      some (BitVec.ofNat 8 p.1)) = true := by decide +kernel
theorem test_decode_hold :
    decodePeriod (period [0x50, 3, 1, 30, 100, 100, 0, 200, 0, 230, 0, 1, 0]) = some (.holdRoom 3 holdFields) := by
  decide +kernel
theorem test_decode_partition :
    decodePeriod (period [0x16, 0, 2, 3, 4, 0]) = some (.writePartition 0 [3, 4]) := by decide +kernel
theorem test_command_codes_distinct : (commandCodes.map (·.1)).Nodup := by decide

/-! ## Worked examples -/

/-- R171: the nine bytes of "123456789" give 29B1. -/
theorem test_crc : crc [0x31, 0x32, 0x33, 0x34, 0x35, 0x36, 0x37, 0x38, 0x39] = 0x29B1 := by decide +kernel

/-- R112, "calibrating one report". -/
theorem test_calibration : calibrate 5000 840 1100 (-25) = 877 ∧ calibrate 20000 18500 1200 0 = 20000 := by decide

/-- R24: times are rounded outwards to whole steps of 5, and the attendance is clamped. -/
theorem test_times_rounded :
    adjustTimes 542 628 501 = some { start := 540, stop := 630, attendance := 500, clamped := true } := by decide
theorem test_times_too_short : adjustTimes 600 610 1 = none := by decide

/-- "A room write refused, then accepted": clamped fields, then the order of the flows. -/
theorem test_room_write_refused :
    passes (wing.roomChecks 7 { roomWrite true 8 with seats := 620, vminUn := 120, vminOcc := 100, vmax := 3500 })
      = false := by decide +kernel
theorem test_room_write_accepted :
    ((wing.roomChecks 7 { roomWrite true 8 with seats := 620, vminUn := 80, vminOcc := 100, vmax := 3500 }).toOption.map
      fun c => (c.seats, c.vmax, c.tallyLimit)) = some (500, 3000, 625) := by decide +kernel

/-- "Four rooms on one air handler": the members of the pass. -/
def airExample : List PassMember :=
  [⟨3, 1, 604, 150, 0⟩, ⟨4, 1, 332, 80, 0⟩, ⟨5, 2, 765, 180, 0⟩, ⟨6, 3, 40, 40, 0⟩]

theorem test_pass_remainder :
    ((runPass 1500 .none airExample).members.map (·.grant), (runPass 1500 .none airExample).unallocated,
      (runPass 1500 .none airExample).flags) = ([604, 332, 523, 40], 1, ⟨false, false, true, false⟩) := by decide
theorem test_pass_floor_short :
    ((runPass 300 .none airExample).members.map (·.grant), (runPass 300 .none airExample).unallocated,
      (runPass 300 .none airExample).flags) = ([99, 53, 119, 26], 3, ⟨true, false, false, false⟩) := by decide
theorem test_pass_station_lost :
    ((runPass 1500 .none [⟨3, 1, 604, 150, 0⟩, ⟨4, 1, 80, 80, 0⟩, ⟨5, 2, 765, 180, 0⟩, ⟨6, 3, 40, 40, 0⟩]).members.map
      (·.grant)) = [604, 80, 765, 40] := by decide

/-- "Loading two scenes": 4 levels stored, 3 dropped, the pointer past the end on cell (2, 1). -/
theorem test_scene_load :
    (let q := ({ State.reset with window := (windowOf windowFields).getD .reset } : State).takeLevels
       [500, 500, 800, 1200, 600, 300, 900]
     (q.2, q.1.window.pastEnd, q.1.window.scene, q.1.window.channel, (q.1.readLevels 2 q.1.window).2,
       q.1.cell 1 1)) = (⟨4, 3, true⟩, true, 2, 1, [300, 300], 1000) := by decide +kernel

/-- "One channel through the four steps". -/
theorem test_light_steps :
    dim 800 300 500 100 = 320 ∧ capped .on 600 (trimmed 800 (dim 800 300 500 100) 100) = 420 ∧
      trimmed 800 (dim 800 620 500 100) 100 = 200 := by decide

/-- "A reversal across a failed exchange": the blind before instant 0.0. -/
def reversal0 : Blind :=
  { Blind.reset with position := some 200, target := some 200, unitToken := some 1, moves := 5 }
/-- The blind after the report at instant 2.4. -/
def reversal1 : Blind := (reversal0.handTarget 400 false (some 1000)).reported 400 0 300
/-- The blind once the new target has come at instant 12.0. -/
def reversal2 : Blind := (reversal1.cycles 314573).handTarget 400 false (some 300)

theorem test_blind_planned :
    ((reversal0.handTarget 400 false (some 1000)).cmd.map fun c => (c.token, c.dir, c.run)) = some (0, .down, 320) := by
  decide
theorem test_blind_rebased : (reversal1.elapsedNow, reversal1.modelled) = (20, some 250) := by decide
theorem test_blind_reversal :
    (reversal2.motion, reversal2.pending, reversal2.cmd.map fun c => (c.token, c.run)) =
      (.stopping, some 300, some (1, 0)) := by decide
theorem test_blind_stopped :
    (let b := (reversal2.cycles 9831).reported 400 1 0
     (b.position, b.motion)) = (some 497, .pausing) := by decide

/-- R142's example in use: base ventilation and trim of "four rooms on one air handler". -/
theorem test_demand_figures :
    baseVentilation 62 80 120 30 = 532 ∧ baseVentilation 90 80 150 30 = 765 ∧ co2Trim ⟨1180, true⟩ 1000 40 = 72 ∧
      co2Trim ⟨950, true⟩ 1000 40 = 0 := by decide

/-! ## One step -/

theorem test_power_on_attention : State.reset.port.attentionBytes = [0x00, 0x04, 0x01, 0x04, 0x00, 0x00] := by decide
theorem test_poll_after_reset : State.reset.port.pollBytes = [0x00, 0x00, 0x04, 0x01, 0x00] := by decide
theorem test_clock_read :
    (after .readClock wing).port.slot = .done ⟨.ok, 0x41, false, .clock true ⟨2, 1⟩ 540 0 false false⟩ := by
  decide +kernel
theorem test_late_discarded :
    (after .readWing (performsFor (.createBooking lecture) wing)).port.slot = .executing (.createBooking lecture) true := by
  decide +kernel
theorem test_create_placed :
    ((after .storeOperationComplete (performsFor (.createBooking lecture) wing)).room 3).agenda.map
      (fun e => (e.handle, e.start, e.curEnd, e.state)) = [(hLecture, 600, 630, .waiting)] := by decide +kernel
theorem test_cancel_advances :
    (after .storeOperationComplete (performsFor (.cancelBooking hLecture) waiting)).store.slots.get 0 = ⟨1, none⟩ := by
  decide +kernel
theorem test_extension_moves :
    ((after (.extensionRequestServed 3) (performs (.room 3 (.extend hLecture 15)) taught)).room 3).agenda.map
      (fun e => (e.curEnd, e.ext)) = [(645, 15)] := by decide +kernel
theorem test_minute_starts :
    ((after .minuteEvent { waiting with cal := { waiting.cal with minute := 599, minuteDue := true } }).room 3).agenda.map
      (fun e => (e.state, e.timer.map (·.left))) = [(.started, some 900)] := by decide +kernel
theorem test_station_lost :
    (let s := (wing.modifyRoom 3 fun x => { x with station := some { Station.joining 4 with health := 248 } })
     let t := after .noReply { s with loop := { s.loop with exchange := some ⟨3, 4, .setpoint, [], false⟩ } }
     ((t.room 3).ctx.safe, (t.room 3).station.map (·.state))) = (true, some .off) := by decide +kernel

/-! ## Witnesses: states and operands that meet the hypotheses of the statements -/

/-- `wing` with the slot EXECUTING. -/
def busy : State := performsFor (.createBooking lecture) wing

/-- `wing` with an exchange in progress with room 3's station. -/
def exchanging (kind : ExchangeKind) (st : Station) : State :=
  { wing.modifyRoom 3 (fun x => { x with station := some st }) with
    loop := { wing.loop with exchange := some ⟨3, 4, kind, [], false⟩ } }

/-- A REPORT of room 3's station that passes every check. -/
def goodReply : Reply :=
  ⟨frameOf ([4, 0x41, 20, 0, 0, 0] ++ bytes2 700 ++ bytes2 210 ++ bytes2 300 ++ [20, 0, 0, 0, 0] ++ bytes2 0 ++ [0]
     ++ bytes2 0 ++ [0]), true⟩

/-- A blind group carrying out a lowering move of run 10 from 0 to 1000, echoed, its timer at the run. -/
def travelled : Blind :=
  { Blind.reset with
    position := some 0, motion := .lowering, target := some 1000, unitToken := some 0, timer := .at 10
    cmd := some ⟨0, .down, 10, some 0, some 1000, false, true⟩ }

/-- `wing` with rooms 3 and 4 in partition group 0. -/
def paired (c : Contact) : State :=
  { wing with groups := wing.groups.set 0 (some ⟨3, [(4, c)], .split, .reset⟩) }

/-- The estimate of room 3 replaced. -/
def estimated (e : Estimate) : State := wing.modifyRoom 3 fun x => { x with oce := { x.oce with est := e } }

/-- The wing at a minute whose 59 seconds have passed. -/
def atMinute (s : State) (week weekday minute : Nat) : State :=
  { s with cal := { s.cal with week := week, weekday := weekday, minute := minute, second := 59, minuteDue := true } }

theorem witness_step_runs_front : ({ wing with pending := [.poll, .readWing] } : State).pending = .poll :: [.readWing] :=
  rfl

theorem witness_idle_step :
    (wing.pending = [] ∧ wing.divider + 1 < 32768) ∧
      ({ wing with divider := 32766 } : State).pending = [] ∧ ({ wing with divider := 32766 } : State).divider + 1 < 32768 := by
  decide +kernel

theorem witness_warm_reset :
    ((Instr.resetLine = .resetLine ∧ ResetCause.resetLine = .resetLine) ∨ (Instr.resetLine = .restart ∧ ResetCause.resetLine = .restart)) ∧
      ((Instr.restart = .resetLine ∧ ResetCause.restart = .resetLine) ∨ (Instr.restart = .restart ∧ ResetCause.restart = .restart)) := by
  decide

theorem witness_executing_slot :
    busy.port.slot = .executing (.createBooking lecture) false ∧ isQueued .readWing = true ∧
      isQueued (.malformed 0x10) = true ∧ isQueued (.createBooking lecture) = true := by decide +kernel

theorem witness_slot_open :
    wing.slotOpen = true ∧ busy.slotOpen = false ∧ (after .readWing wing).slotOpen = true := by decide +kernel

theorem witness_numbers :
    asRoom 47 = some 47 ∧ asRoom 48 = none ∧ asIndex 8 7 = some 7 ∧ asIndex 8 8 = none ∧ asIndex 4 3 = some 3 ∧
      asIndex 4 4 = none ∧ asIndex 6 5 = some 5 ∧ asIndex 6 6 = none := by decide

theorem witness_room_enabled :
    wing.slotOpen = true ∧ asRoom 47 = some 47 ∧ (wing.room 47).cfg.enabled = false ∧
      ((wing.roomChecks 47 (roomWrite true 62)).toOption.map (·.enabled)) = some true := by decide +kernel

theorem witness_room_disabled :
    waiting.ready ∧ asRoom 3 = some 3 ∧ (waiting.room 3).cfg.enabled = true ∧ waiting.roomBooked 3 = true ∧
      ((waiting.roomChecks 3 (roomWrite false 4)).toOption.map (·.enabled)) = some false ∧ wing.ready ∧
      (wing.room 3).cfg.enabled = true ∧ wing.roomBooked 3 = false ∧
      ((wing.roomChecks 3 (roomWrite false 4)).toOption.map (·.enabled)) = some false := by decide +kernel

theorem witness_room_stored :
    ((wing.roomChecks 3 (roomWrite true 4)).toOption.map (fun c => (c.enabled, c.station))) = some (true, 4) ∧
      ((wing.roomChecks 3 (roomWrite true 9)).toOption.map (fun c => (c.enabled, c.station))) = some (true, 9) ∧
      (wing.room 3).cfg.station = 4 ∧
      ((wing.roomChecks 9 (roomWrite false 10)).toOption.map (·.enabled)) = some false ∧
      (wing.room 9).cfg.enabled = false := by decide +kernel

theorem witness_room_refused :
    roomRecOf (clampRoom { roomWrite true 4 with airGroup := some 4 }) = none ∧
      passes (wing.roomChecks 9 (roomWrite true 4)) = false ∧
      passes (wing.roomChecks 9 { roomWrite true 10 with vminUn := 91 }) = false ∧
      passes ((paired .fresh).roomChecks 3 (roomWrite false 4)) = false ∧ ((paired .fresh).groupOf 3).isSome = true := by
  decide +kernel

theorem witness_records_written :
    profileOf (clampProfile { profileWrite with band := ⟨200, 209⟩ }) = none ∧
      (profileOf (clampProfile { profileWrite with band := ⟨200, 210⟩ })).isSome = true ∧
      bandOrdered (clampBand ⟨200, 209⟩) = false ∧ bandOrdered (clampBand ⟨200, 210⟩) = true ∧
      roundUp5 (min 30 10) ≤ wing.cal.gap ∧ wing.cal.gap < roundUp5 (min 30 11) ∧ wing.ready ∧
      wing.gapCheck wing.instant 15 = none := by decide +kernel

/-- Two lectures in room 3 with 15 minutes between them. -/
def closeTo : State :=
  { wing with store := { wing.store with
    slots := (wing.store.slots.set 0 ⟨0, some lectureRec⟩).set 1 ⟨0, some { lectureRec with start := 645, stop := 660 }⟩ } }

theorem witness_gap_conflict :
    closeTo.ready ∧ closeTo.cal.gap < 20 ∧ (closeTo.gapCheck closeTo.instant 20).isSome = true := by decide +kernel

theorem witness_partition_written :
    wing.ready ∧ asIndex 8 7 = some 7 ∧ passes (wing.partitionChecks 7 [4, 3]) = true ∧
      passes (wing.partitionChecks 7 [4, 5]) = false ∧ wing.groups.get 7 = none ∧ (paired .fresh).ready ∧
      ((paired .fresh).groups.get 0).isSome = true ∧ (paired .fresh).groupBooked 0 = false ∧
      (paired .fresh).roomBooked 3 = false ∧ (paired .fresh).roomBooked 4 = false := by decide +kernel

/-- The pair with a booking of the group, and with a booking of a member. -/
def pairBooked (t : Target) : State :=
  { paired .fresh with
    store := { wing.store with slots := wing.store.slots.set 0 ⟨0, some { lectureRec with target := t }⟩ } }

theorem witness_partition_booked :
    (pairBooked (.group 0)).ready ∧ (pairBooked (.group 0)).groupBooked 0 = true ∧ (pairBooked (.room 4)).ready ∧
      (pairBooked (.room 4)).groupBooked 0 = false ∧ (pairBooked (.room 4)).roomBooked 4 = true := by decide +kernel

theorem witness_store_commands_taken :
    wing.slotOpen = true ∧ isStoreCommand (.createBooking lecture) = true ∧ wing.arbiterFree = true ∧
      (performs (.step .retire) wing).slotOpen = true ∧
      (performs (.step .retire) wing).store.running.isSome = true := by decide +kernel

theorem witness_booking_created :
    wing.ready ∧ recordOf lecture = some (lectureRec, false) ∧ inPast wing.instant lectureRec 630 = false ∧
      wing.targetReady (.room 3) = true ∧ wing.lowestFree = some 0 ∧
      wing.crowded wing.instant { self := none, record := lectureRec, ext := 0 } = none ∧
      (wing.cal.valid && wing.occurs lectureRec wing.today && wing.cal.minute < 630) = true := by decide +kernel

theorem witness_booking_created_later :
    recordOf { lecture with firstWeek := 3 } = some ({ lectureRec with firstWeek := 3 }, false) ∧
      inPast wing.instant { lectureRec with firstWeek := 3 } 630 = false ∧
      wing.crowded wing.instant { self := none, record := { lectureRec with firstWeek := 3 }, ext := 0 } = none ∧
      wing.occurs { lectureRec with firstWeek := 3 } wing.today = false := by decide +kernel

theorem witness_booking_amended :
    taught.ready ∧ taught.resolve hLecture = .live 0 lectureRec ∧
      recordOf { lecture with stop := 635 } = some ({ lectureRec with stop := 635 }, false) ∧
      taught.liveEntry taught.instant hLecture = true ∧
      inPast taught.instant { lectureRec with stop := 635 } (635 + taught.extOf hLecture) = false ∧
      liveTest taught.instant true (taught.extOf hLecture) lectureRec { lectureRec with stop := 635 } = none ∧
      taught.crowded taught.instant { self := some hLecture, record := { lectureRec with stop := 635 }, ext := 0 } = none ∧
      taught.extOf hLecture = 0 := by decide +kernel

theorem witness_suspended_amended :
    waiting.ready ∧ waiting.resolve hPaused = .live 1 pausedRec ∧ pausedRec.state ≠ .active ∧
      waiting.liveEntry waiting.instant hPaused = false ∧
      recordOf { lecture with start := 705, stop := 730 } =
        some ({ lectureRec with start := 705, stop := 730 }, false) ∧
      inPast waiting.instant { pausedRec with start := 705 } 730 = false ∧
      liveTest waiting.instant false 0 pausedRec { pausedRec with start := 705 } = none := by decide +kernel

theorem witness_booking_resumed :
    waiting.resolve hPaused = .live 1 pausedRec ∧
      inPast waiting.instant { pausedRec with state := .active, noShows := 0 } 730 = false ∧
      waiting.crowded waiting.instant
        { self := some hPaused, record := { pausedRec with state := .active, noShows := 0 }, ext := 0 } = none ∧
      (waiting.cal.valid && waiting.occurs pausedRec waiting.today && waiting.cal.minute < 730) = true := by
  decide +kernel

theorem witness_store_refusals :
    waiting.ready ∧ waiting.resolve hFree = .refused .notFound ∧ waiting.resolve ⟨0, 1⟩ = .refused .stale ∧
      waiting.resolve ⟨512, 0⟩ = .refused .range ∧ recordOf { lecture with cls := 0 } = none ∧
      inPast waiting.instant { lectureRec with firstWeek := 2, lastWeek := 2, start := 500, stop := 540 } 540 = true ∧
      waiting.targetReady (.room 5) = false ∧
      waiting.collision waiting.instant { self := none, record := lectureRec, ext := 0 } = some hLecture := by
  decide +kernel

/-- R21, R27: a record amended to another room keeps its entry in the old one, and collides with nothing there. -/
theorem test_kept_entry_no_collision :
    (let s := booked .ended none
     let p : Proposal := { self := none, record := lectureRec, ext := 0 }
     (s.collision s.instant p,
       ({ s with store := { s.store with
          slots := s.store.slots.set 0 ⟨0, some { lectureRec with target := .room 4 }⟩ } } : State).collision s.instant p))
      = (some hLecture, none) := by decide +kernel

/-- R197, R204: SET_ATTENTION's result, an enable mask and a line mask. -/
theorem test_attention_result : (Result.attention 0x405#11 0x001#11).bytes 0x06 = [0x05, 0x04, 0x01, 0x00] := by decide

/-- R157: SET_ECONOMY with a cap below its range shows the value stored. -/
theorem test_economy_clamped :
    (after (.setEconomy (some .on) 50) wing).port.slot = .done ⟨.okClamped, 0x6D, false, .economy .on 100⟩ := by
  decide +kernel

/-- Every slot live. -/
def fullStore : State := { wing with store := { wing.store with slots := .fill 512 ⟨0, some lectureRec⟩ } }

theorem witness_store_full : fullStore.ready ∧ fullStore.lowestFree = none := by decide +kernel

/-- Sixteen short bookings in room 3 on the day. -/
def dayFull : State :=
  { wing with store := { wing.store with slots := .ofFn fun k =>
    if k.val < 16 then ⟨0, some { lectureRec with start := 600 + 30 * k.val, stop := 615 + 30 * k.val }⟩
    else ⟨0, none⟩ } }

theorem witness_day_full :
    dayFull.ready ∧ dayFull.lowestFree = some 16 ∧
      dayFull.collision dayFull.instant { self := none, record := { lectureRec with start := 1200, stop := 1230 }, ext := 0 }
        = none ∧
      dayFull.dayFull dayFull.instant { self := none, record := { lectureRec with start := 1200, stop := 1230 }, ext := 0 }
        = some (⟨2, 1⟩, 3) := by decide +kernel

theorem witness_stale_note :
    (performs (.room 3 (.note .release hFree)) waiting).performing (.room 3 (.note .release hFree)) waiting.instant ∧
      waiting.resolve hFree = .refused .notFound ∧ waiting.resolve hPaused = .live 1 pausedRec ∧
      pausedRec.state ≠ .active ∧ waiting.requestRoom = none := by decide +kernel

theorem witness_note_served :
    waiting.resolve hLecture = .live 0 lectureRec ∧ lectureRec.state = .active ∧
      (performs (.room 3 (.note .confirm hLecture)) waiting).performing (.room 3 (.note .confirm hLecture)) waiting.instant ∧
      (waiting.profiles.get lectureRec.cls).reclaim = 0 := by decide +kernel

theorem witness_note_reclaims :
    (({ waiting with profiles := .fill 8 { Profile.reset with reclaim := 1 } } : State).profiles.get lectureRec.cls).reclaim
      ≤ min 15 (lectureRec.noShows + 1) ∧ lectureRec.pattern = .weekly := by decide +kernel

theorem witness_extension_served :
    (performs (.room 3 (.extend hLecture 15)) taught).performing (.room 3 (.extend hLecture 15)) taught.instant ∧
      taught.extendChecks taught.instant 3 hLecture 15 = .granted 645 15 ∧
      taught.extendChecks taught.instant 3 hLecture 31 = .refused .range .none := by decide +kernel

theorem witness_extension_for_host :
    taught.ready ∧ (taught.room 3).cfg.enabled = true ∧ taught.base 3 = .inUse ∧ taught.govHandle 3 = some hLecture ∧
      (taught.govProfile 3).extStep = 15 ∧ taught.govRoom 3 = 3 ∧ taught.base 4 = .setback ∧
      (taught.room 5).cfg.enabled = false := by decide +kernel

theorem witness_retirement :
    (performs (.step .retire) waiting).performing (.step .retire) waiting.instant ∧
      (waiting.toRetire ⟨2, 1⟩).map (·.1) = [2] ∧ (waiting.toRetire ⟨1, 1⟩) = [] := by decide +kernel

theorem witness_agenda_build :
    (performs (.step (.build 3)) waiting).performing (.step (.build 3)) waiting.instant ∧
      waiting.store.steps.any CalStep.isBuild = false ∧
      ({ waiting with store := { waiting.store with steps := [.build 4] } } : State).store.steps.any CalStep.isBuild = true := by
  decide +kernel

theorem witness_service_derived :
    (waiting.room 5).cfg.enabled = false ∧ (waiting.room 3).cfg.enabled = true ∧ waiting.closed 3 = false ∧
      ({ waiting with openFirst := 4 } : State).closed 3 = true ∧
      (activeEntry (taught.room 3).agenda).map (·.state) = some .confirmed ∧
      (activeEntry ((booked .started none).room 3).agenda).map (·.state) = some .started ∧
      activeEntry (waiting.room 3).agenda = none ∧ firstPrecond (waiting.room 3).agenda = none ∧
      (firstPrecond ((booked .preconditioning none).room 3).agenda).isSome = true := by decide +kernel

theorem witness_clock_set :
    waiting.ready ∧ ¬ (64 ≤ 63) ∧ waiting.cal.valid = true ∧ waiting.today = ⟨2, 1⟩ ∧ waiting.today ≠ ⟨63, 6⟩ ∧
      (1439 : Nat) ≤ 1439 ∧ ¬ ((1440 : Nat) ≤ 1439) := by decide +kernel

/-- The wing with a list of closures. -/
def shut (l : List Date) : State := { waiting with cal := { waiting.cal with closures := l } }

theorem witness_closures :
    (shut [⟨2, 1⟩]).ready ∧ (⟨2, 1⟩ : Date) ∈ (shut [⟨2, 1⟩]).cal.closures ∧ (⟨2, 1⟩ : Date) ∉ (shut []).cal.closures ∧
      (shut [⟨2, 1⟩]).today = ⟨2, 1⟩ ∧ (shut (List.replicate 24 ⟨3, 0⟩)).ready ∧
      24 ≤ (shut (List.replicate 24 ⟨3, 0⟩)).cal.closures.length ∧
      (shut (List.replicate 23 ⟨3, 0⟩)).cal.closures.length < 24 := by decide +kernel

/-- The wing with the cycles of its second counted. -/
def secondOver : State := (wing.cycles (32768 - wing.divider)).wrapDivider

theorem secondOver_drainRoom (r : RoomId) : secondOver.drainRoom r = secondOver := by
  have h1 : ∀ r, secondOver.dueHandle r = none := by decide +kernel
  have h2 : ∀ r, (secondOver.estimate r).absenceDue secondOver.oceNow = false := by decide +kernel
  have h3 : ∀ r, (secondOver.estimate r).quietDue = false := by decide +kernel
  have h4 : ∀ r, secondOver.settleDue r = false := by decide +kernel
  have h5 : ∀ r, secondOver.holdDue r = false := by decide +kernel
  have h6 : ∀ r b, ((secondOver.room r).blinds.get b).travelDue = false := by decide +kernel
  have h7 : ∀ r b, ((secondOver.room r).blinds.get b).pauseDue = false := by decide +kernel
  simp [State.drainRoom, State.noShowExpiry, State.absenceEvent, State.quietEvent, State.settleEvent, State.holdEvent,
    State.travelEvent, State.pauseEvent, h1, h2, h3, h4, h5, h6, h7]

/-- Nothing was left due, so SECOND_EVENT counts the second and nothing else. -/
theorem witness_second : secondOver.drain = secondOver := by
  have h1 : secondOver.minuteReady = false := by decide +kernel
  have h2 : secondOver.cal.work.isEmpty = true := by decide +kernel
  have h3 : ∀ g, (secondOver.airs.get g).periodDue = false := by decide +kernel
  have h4 : secondOver.silenceExpiry = secondOver := by
    unfold State.silenceExpiry; exact if_neg (by decide +kernel)
  have h5 : allRooms.foldl State.drainRoom secondOver = secondOver :=
    List.foldl_fixed' secondOver_drainRoom allRooms
  have h6 : ∀ g, secondOver.periodEvent g = secondOver := fun g => by simp [State.periodEvent, h3 g]
  simp [State.drain, State.minuteEvent, State.rolloverEvent, State.termEnd, State.minuteEventDue, State.rolloverDue,
    State.termEndDue, h1, h2, h4, h5, List.foldl_fixed' h6]

theorem witness_second_cases :
    wing.cal.valid = true ∧ wing.settingClock = false ∧ wing.cal.second < 59 ∧ State.reset.cal.valid = false := by
  decide +kernel

theorem witness_second_ends_minute :
    59 ≤ ({ wing with cal := { wing.cal with second := 59 } } : State).cal.second ∧
      ({ wing with cal := { wing.cal with second := 59 } } : State).settingClock = false := by decide +kernel

theorem witness_minute :
    (atMinute waiting 2 1 1438).minuteEventDue = true ∧ (atMinute waiting 2 1 1438).store.running = none ∧
      (atMinute (performs (.step (.build 3)) waiting) 2 1 0).minuteEventDue = true := by decide +kernel

/-- The clauses on entries have an entry each: the lecture at its start, a lead before it, and at its end. -/
theorem witness_entry_evaluation :
    EntryState.ended.terminal = true ∧ (newEntry hLecture lectureRec).curEnd ≤ 630 ∧
      (newEntry hLecture lectureRec).start ≤ 600 ∧ 600 < (newEntry hLecture lectureRec).curEnd ∧
      585 < (newEntry hLecture lectureRec).start ∧ (newEntry hLecture lectureRec).start ≤ 585 + 15 ∧
      584 + 15 < (newEntry hLecture lectureRec).start := by decide

theorem witness_rollover :
    (atMinute waiting 2 6 1439).rolloverDue = true ∧ (atMinute waiting 63 5 1439).rolloverDue = true ∧
      (atMinute waiting 2 6 1439).store.running = none ∧ (atMinute waiting 2 6 1439).store.steps = [] := by decide +kernel

theorem witness_term_end :
    (atMinute waiting 63 6 1439).termEndDue = true ∧ (atMinute waiting 63 6 1439).store.running = none ∧
      (atMinute waiting 63 6 1439).store.steps = [] ∧
      (performs (.step .termEnd) waiting).performing (.step .termEnd) waiting.instant := by decide +kernel

/-- The lecture STARTED, its no-show timer run out. -/
def noShow : State := booked .started (some ⟨0, false⟩)

theorem witness_no_show :
    noShow.arbiterFree = true ∧ noShow.dueHandle 3 = some hLecture ∧ noShow.expiryDue hLecture = true ∧
      noShow.timerRoom hLecture = some 3 := by decide +kernel

/-- The lecture STARTED in room 3 and SKIPPED in room 4, which is CLOSED. -/
def noShowBeside : State :=
  { noShow with openLast := 3 }.modifyRoom 4 fun x => { x with agenda := [{ newEntry hLecture lectureRec with state := .skipped }] }

/-- R54: each room whose agenda holds an entry of the handle enters the room change set, a SKIPPED one's too. -/
theorem test_expiry_reports_holders :
    (noShowBeside.expire hLecture).port.roomChanges.get 4 = true ∧ stateIn ((noShowBeside.expire hLecture).room 4).agenda hLecture = some .skipped ∧
      (noShowBeside.expire hLecture).port.roomChanges.get 5 = false := by decide +kernel

/-- R56: where a lower member starts at a minute event, the handle's timer moves to it with its remaining time. -/
theorem test_timer_moves_down :
    let s := (waiting.modifyRoom 4 fun x =>
      { x with agenda := [{ newEntry hLecture lectureRec with state := .started, timer := some ⟨500, false⟩ }] }).evalAgendas 600
    ((s.room 3).agenda.map (·.timer), (s.room 4).agenda.map (·.timer)) = ([some ⟨500, false⟩], [none]) := by decide +kernel

/-- R55: a timer pauses with the room whose agenda holds it, also where the record now claims another room. -/
theorem test_pause_after_amendment :
    let s := booked .started (some ⟨9, false⟩)
    let t := { s with store := { s.store with slots := s.store.slots.set 0 ⟨0, some { lectureRec with target := .room 4 }⟩ } }
    (((t.modifyCtx 3 fun c => { c with safe := true }).refreshPauses.room 3).agenda.map (·.timer)) = [some ⟨9, true⟩] := by
  decide +kernel

/-- Requests waiting in the calendar's hands. -/
def asked : State := { booked .started none with cal := { wing.cal with work := [.confirm 3 hLecture, .endNow 3 hLecture false] } }

theorem witness_requests :
    asked.store.running = none ∧ asked.cal.work.find? (CalWork.isConfirmOf 3) = some (.confirm 3 hLecture) ∧
      asked.cal.work.find? (CalWork.isEndNowOf 3) = some (.endNow 3 hLecture false) ∧
      stateIn (asked.room 3).agenda hLecture = some .started ∧
      stateIn (taught.room 3).agenda hLecture = some .confirmed ∧ stateIn (waiting.room 3).agenda hLecture = some .waiting ∧
      taught.slotOpen = true ∧ taught.store.running = none ∧ taught.cal.work = [] := by decide +kernel

/-- An estimate in a presence state, with evidence at second 0. -/
def sensed : Estimate := { Estimate.reset with presence := .sensed, sensedSince := some 0, lastEvidence := some 0 }

theorem witness_room_timers :
    ({ estimated sensed with oceNow := 70000 } : State).estimate 3 = sensed ∧
      sensed.absenceDue 70000 = true ∧
      ({ Estimate.reset with presence := .quiet, quiet := some 0 } : Estimate).quietDue = true ∧
      (paired ⟨.opened, false, some 0⟩).groupOf 4 =
        some (0, ⟨3, [(4, ⟨.opened, false, some 0⟩)], .split, .reset⟩) := by decide +kernel

/-- A hold whose time has run out. -/
def heldOut : Hold := ⟨1, .two 30 100, 100, ⟨200, 230⟩, 1, 0⟩

theorem witness_holds :
    wing.slotOpen = true ∧ (wing.room 3).cfg.enabled = true ∧ (wing.room 5).cfg.enabled = false ∧
      15 < ({ holdFields with scene := 16 } : HoldFields).scene ∧
      (clampHold holdFields).band.heat + 10 ≤ (clampHold holdFields).band.cool ∧
      ((wing.modifyRoom 3 fun x => { x with ctx := { x.ctx with hold := some heldOut } }).room 3).ctx.hold = some heldOut ∧
      0 < heldOut.expiry ∧ heldOut.remaining = 0 := by decide +kernel

theorem witness_open_range :
    wing.slotOpen = true ∧ wing.store.running = none ∧ wing.inOpenRange 3 = true ∧ (wing.room 3).cfg.enabled = true ∧
      ({ wing with openFirst := 4, openLast := 2 } : State).inOpenRange 3 = false := by decide +kernel

theorem witness_host_absence :
    let s := { wing with port := { wing.port with silenceTime := 1, silenceTimer := 60 } }
    s.port.present = true ∧ 0 < s.port.silenceTime ∧ s.port.silenceTime * 60 ≤ s.port.silenceTimer := by decide +kernel

theorem witness_triggers :
    wing.slotOpen = true ∧ (wing.airs.get 0).mask.capacityWrite = true ∧ (wing.airs.get 0).mask.hostRequest = true ∧
      (wing.airs.get 0).running = none ∧
      (((after (.requestAllocation 0) wing).airs.get 0).running).isSome = true := by decide +kernel

theorem witness_period :
    let a : AirGroup := { AirGroup.reset with period := 1, timer := 1 }
    0 < a.period ∧ a.timer = a.period := by decide

theorem witness_floor_short :
    450 ≤ (airExample.map (·.f)).sum ∧ (0 : Nat) ≤ (airExample.map (·.f)).sum ∧ ¬ (451 ≤ (airExample.map (·.f)).sum) := by
  decide

theorem witness_pass_members : (∀ m ∈ airExample, m.f ≤ m.d ∧ 1 ≤ m.tier ∧ m.tier ≤ 3) ∧ (airExample.map (·.f)).sum < 451 := by
  decide

/-- Room 3 in use with CO2 above target. -/
def stuffy : State := taught.modifyRoom 3 fun x => { x with oce := { x.oce with co2 := ⟨1180, true⟩ } }

theorem witness_demand :
    stuffy.effective 3 = .service .inUse ∧ ((stuffy.govProfile 3).co2Target : Int) < ((stuffy.room 3).oce.co2).value ∧
      (stuffy.room 3).oce.co2.valid = true ∧ stuffy.effective 4 = .service .setback ∧
      ({ wing with openFirst := 5 } : State).effective 3 = .closed := by decide +kernel

theorem witness_scenes :
    windowOf { windowFields with lastScene := 16 } = none ∧
      (windowOf { windowFields with firstScene := 2, lastScene := 15 }).isSome = true ∧ ¬ (1 ≤ 0 ∧ 0 ≤ 16) ∧
      ¬ (1 ≤ 17 ∧ 17 ≤ 16) ∧ ({ Window.reset with pastEnd := true } : Window).pastEnd = true ∧ Window.reset.scene = 0 := by
  decide

theorem witness_blinds :
    ∃ c, travelled.cmd = some c ∧ c.echoed = true ∧ c.dir ≠ .stop ∧ c.run ≤ travelled.timer.elapsed c.run ∧
      c.dest.isSome = true := ⟨⟨0, .down, 10, some 0, some 1000, false, true⟩, by decide⟩

theorem witness_pause : ({ Blind.reset with motion := .pausing, pause := some 19661 } : Blind).pause = some 19661 := rfl

theorem witness_stations :
    wing.slotOpen = true ∧ wing.stationAt 4 = some (3, .joining 4) ∧ wing.stationAt 62 = none ∧ wing.stationAt 1 = none := by
  decide +kernel

theorem witness_rounds :
    State.reset.loop.active = false ∧ State.reset.loop.firstRound = true ∧
      ({ wing with loop := { wing.loop with active := true } } : State).nextDue = some (3, .joining 4) ∧
      ({ wing with loop := { wing.loop with active := true, lastAddress := 5 } } : State).nextDue = none ∧
      16384 ≤ ({ wing.loop with firstRound := false, roundTimer := 16384 } : Loop).roundTimer := by decide +kernel

theorem witness_exchange_fails :
    let s := exchanging .setpoint { Station.joining 4 with health := 247 }
    s.loop.exchange = some ⟨3, 4, .setpoint, [], false⟩ ∧
      (s.room 3).station = some { Station.joining 4 with health := 247 } ∧ 247 + 8 < 256 ∧ 256 ≤ 248 + 8 ∧
      passes (judge 5 goodReply) = false := by decide +kernel

theorem witness_good_report :
    let s := exchanging .probe { Station.joining 4 with state := .off, goodProbes := 7 }
    s.loop.exchange = some ⟨3, 4, .probe, [], false⟩ ∧ passes (judge 4 goodReply) = true ∧
      (s.room 3).station.map (·.goodProbes) = some 7 ∧ ((exchanging .setpoint (.joining 4)).room 3).ctx.safe = false := by
  decide +kernel

/-! ## Witnesses of the clauses on what lies behind the commands -/

theorem witness_blind_counts :
    travelled.travelling = true ∧ Blind.reset.travelling = false ∧ (∃ c, travelled.cmd = some c ∧ c.echoed = true ∧ c.dir ≠ .stop) ∧
      ({ travelled with stopped := some ⟨0, some 0, some 1000, 10, true⟩ } : Blind).travelling = true := by
  refine ⟨by decide, by decide, ⟨⟨0, .down, 10, some 0, some 1000, false, true⟩, by decide⟩, by decide⟩

theorem witness_data_out :
    decodePeriod (period [0x00, 0, 0]) = some .poll ∧ (wing.immediateOut .poll).isSome = true ∧
      decodePeriod (period [0x03, 4, 5, 0]) = some (.ackAttention 0x0504) ∧
      (wing.immediateOut (.ackAttention 0x0504)).isSome = true := by decide +kernel

/-- R188, R189: the code byte's time carries a zero, then POLL's five bytes, then zeros. -/
theorem test_data_out :
    State.reset.dataOut (period [0x00, 9, 9, 9, 9, 9, 9, 9]) = [0, 0x00, 0x00, 0x04, 0x01, 0x00, 0, 0] := by decide +kernel

/-- R202: READ_ROOM of a room in no air group and no partition group, READ_STATION with no event taken, READ_ROOM_AIR in
no group, and a group that is not defined, are filled with 0xFF; an answer that names a handle has its two bytes. -/
theorem test_fill :
    (Result.room 3 (RoomRec.reset 3) none).pieces = [.unstated, .stated [0xFF], .unstated, .stated [0xFF]] ∧
      (Result.station 3 (.joining 9) 0).pieces.getD 2 .unstated = .stated [0xFF] ∧
      (Result.roomAir ⟨3, none, .reset, none⟩).pieces = [.stated [0xFF], .unstated, .stated [0xFF, 0xFF, 0xFF, 0xFF, 0xFF]] ∧
      (Result.partition 0 none).pieces.drop 1 =
        [.stated [0xFF, 0xFF, 0xFF], .stated [0xFF], .stated [0xFF], .stated [0xFF], .stated [0xFF]] ∧
      (Result.ended ⟨0x123, 4⟩ 610).pieces = [.stated [0x23, 0x41], .unstated] := by decide +kernel

/-- R188: of a period cut by SEL low, only the code byte and the parameters before the cut carry zeros. -/
theorem test_head_of_malformed :
    headCount [⟨false, 0x42⟩, ⟨true, 2⟩, ⟨false, 1⟩, ⟨true, 1⟩] = 2 ∧ headCount (period [0x42, 2]) = 2 ∧
      headCount (period [0x42, 2, 1, 9]) = 3 := by decide +kernel

/-- Rooms 3 and 4 MERGED: 3 in use under the lecture, 4 SETBACK, the group PRESENT with tally 20. -/
def mergedPair : State :=
  { taught with groups := taught.groups.set 0 (some
      ⟨3, [(4, ⟨.opened, true, none⟩)], .merged, { Estimate.reset with presence := .present, tally := 20 }⟩)
                store := wing.store }

theorem witness_partition_merged :
    mergedPair.ready ∧ ((mergedPair.groups.get 0).map fun p => (p.state, p.members)) = some (.merged, [3, 4]) ∧
      passes (mergedPair.partitionChecks 0 [4, 3]) = true ∧ mergedPair.groupBooked 0 = false ∧
      mergedPair.roomBooked 3 = false ∧ mergedPair.roomBooked 4 = false ∧
      (mergedPair.groups.get 0).map mergedPair.governor = some 3 ∧ (mergedPair.room 4).ctx.gov = none ∧
      (mergedPair.room 3).ctx.gov = some hLecture ∧ (mergedPair.groups.get 1) = none := by decide +kernel

/-- R103: the split of a tally of 20 over areas 60 and 60. -/
theorem test_split_by_area :
    ((mergedPair.groups.get 0).map fun p => [3, 4].map fun m =>
      (({ mergedPair with rooms := mergedPair.rooms.mapIdx fun _ x => { x with cfg := { x.cfg with doorCounting := true } } }
        : State).split 0 p .split).room m |>.oce.est.tally) = some [10, 10] := by decide +kernel

theorem witness_amended_waiting :
    waiting.liveEntry waiting.instant hLecture = false ∧
      ((waiting.room 3).agenda.map fun e => (e.handle, e.state)) = [(hLecture, .waiting)] ∧
      (((booked .skipped none).room 3).agenda.map fun e => (e.handle, e.state)) = [(hLecture, .skipped)] ∧
      (booked .skipped none).liveEntry wing.instant hLecture = false ∧
      (wing.room 3).agenda = [] ∧ lectureRec.state = .active ∧ waiting.cal.valid = true ∧
      waiting.targetReady (.room 3) = true ∧
      waiting.crowded waiting.instant { self := some hLecture, record := { lectureRec with stop := 635 }, ext := 0 } = none ∧
      liveTest waiting.instant false 0 lectureRec { lectureRec with stop := 635 } = none := by decide +kernel

theorem witness_list :
    (dayFull.room 3).cfg.enabled = true ∧ (dayFull.recordAt ⟨15, 0⟩).isSome = true ∧
      (match (dayFull.listRoomBookings 3 none).2 with
        | .bookingList hs more => (hs.map (·.slot), more)
        | _ => ([], false)) = ([0, 1, 2, 3, 4, 5, 6, 7], true) ∧
      (match (dayFull.listRoomBookings 3 (some 7)).2 with
        | .bookingList hs more => (hs.map (·.slot), more)
        | _ => ([], false)) = ([8, 9, 10, 11, 12, 13, 14, 15], false) ∧
      dayFull.listRoomBookings 3 (some 511) = (.ok, .bookingList [] false) ∧
      dayFull.listRoomBookings 3 (some 512) = (.range, .none) := by decide +kernel

theorem witness_search :
    (adjustTimes 600 630 20).isSome = true ∧ adjustTimes 600 610 20 = none ∧
      (⟨2, 1⟩ : Date) ∉ wing.cal.closures ∧ (⟨2, 1⟩ : Date) ∈ (shut [⟨2, 1⟩]).cal.closures ∧
      wing.findFreeRoom wing.instant 2 1 600 630 20 true =
        (.ok, .candidates [⟨.room 3, 10⟩, ⟨.room 4, 10⟩]) ∧
      wing.findFreeRoom wing.instant 64 1 600 630 20 true = (.range, .none) := by decide +kernel

theorem witness_amend_refused :
    taught.ready ∧ taught.liveEntry taught.instant hLecture = true ∧ lectureRec.state = .active ∧
      inPast taught.instant { lectureRec with lastWeek := 2, stop := 605 } 605 = true ∧
      (let late : State := { taught with cal := { taught.cal with minute := 620 } }
       late.liveEntry late.instant hLecture = true ∧ inPast late.instant { lectureRec with stop := 615 } 615 = false ∧
         615 ≤ late.cal.minute ∧ (recordOf { lecture with stop := 615 }).isSome = true) ∧
      recordOf { lecture with stop := 615, start := 595 } = some ({ lectureRec with start := 595, stop := 615 }, false) ∧
      inPast taught.instant { lectureRec with start := 595, stop := 615 } 615 = false ∧
      taught.targetReady (.room 3) = true ∧ taught.targetReady (.room 5) = false ∧
      recordOf { lecture with stop := 1440 } = some ({ lectureRec with stop := 1440 }, false) ∧
      (taught.mapHandle hLecture fun e => { e with ext := 15 }).extOf hLecture = 15 ∧ 1440 < 1440 + 15 := by decide +kernel

/-- The lecture and a second class of the day in the same room, both not begun. -/
def twoClasses : State :=
  { waiting with store := { waiting.store with slots := waiting.store.slots.set 1 ⟨0, some { pausedRec with state := .active }⟩ } }

theorem witness_amend_conflict :
    twoClasses.ready ∧ twoClasses.resolve hLecture = .live 0 lectureRec ∧
      twoClasses.liveEntry twoClasses.instant hLecture = false ∧
      twoClasses.collision twoClasses.instant
        { self := some hLecture, record := { lectureRec with stop := 720 }, ext := 0 } = some hPaused ∧
      twoClasses.collision twoClasses.instant
        { self := some hLecture, record := { lectureRec with stop := 640 }, ext := 0 } = none := by decide +kernel

/-- A day with sixteen short bookings in room 3, and a seventeenth record that is SUSPENDED. -/
def dayFullPaused : State :=
  { dayFull with store := { dayFull.store with
    slots := dayFull.store.slots.set 16 ⟨0, some { lectureRec with start := 1200, stop := 1230, state := .suspended .host }⟩ } }

theorem witness_resume_day_full :
    (let b : Record := { lectureRec with start := 1200, stop := 1230 }
     dayFullPaused.ready ∧ dayFullPaused.resolve ⟨16, 0⟩ = .live 16 { b with state := .suspended .host } ∧
      inPast dayFullPaused.instant b 1230 = false ∧
      dayFullPaused.collision dayFullPaused.instant { self := some ⟨16, 0⟩, record := b, ext := 0 } = none ∧
      dayFullPaused.dayFull dayFullPaused.instant { self := some ⟨16, 0⟩, record := b, ext := 0 } = some (⟨2, 1⟩, 3)) ∧
      dayFullPaused.collision dayFullPaused.instant { self := some ⟨16, 0⟩, record := lectureRec, ext := 0 } = some ⟨0, 0⟩ := by
  decide +kernel

/-- An amendment that moves a record of another day into the full one. -/
theorem witness_amend_day_full :
    (let s : State := { dayFull with store := { dayFull.store with
       slots := dayFull.store.slots.set 16 ⟨0, some { lectureRec with weekday := 2, start := 1200, stop := 1230 }⟩ } }
     let b : Record := { lectureRec with start := 1200, stop := 1230 }
     s.liveEntry s.instant ⟨16, 0⟩ = false ∧ s.collision s.instant { self := some ⟨16, 0⟩, record := b, ext := 0 } = none ∧
       s.dayFull s.instant { self := some ⟨16, 0⟩, record := b, ext := 0 } = some (⟨2, 1⟩, 3)) := by decide +kernel

/-- A stale note served in a state whose outputs follow their inputs, with nothing waiting behind it. -/
def settledNote : State := performs (.room 3 (.note .release hFree)) State.reset.follow

theorem witness_stale_outputs :
    settledNote.performing (.room 3 (.note .release hFree)) settledNote.instant ∧
      settledNote.resolve hFree = .refused .notFound ∧ settledNote.aim = settledNote ∧
      settledNote.requestRoom = none ∧ settledNote.store.steps = [] ∧ settledNote.store.hostWait = none ∧
      ∀ g, (settledNote.airs.get g).pending = false := by decide +kernel

theorem witness_stale_outputs_follow : OutputsFollow settledNote := by unfold OutputsFollow; decide +kernel

/-! ### The service state -/

/-- Room 3 with its lecture's entry, service state, governing entry and presence as given. -/
def roomIn (st : EntryState) (svc : Service) (gov : Option Handle) (p : Presence) : State :=
  (booked st none).modifyRoom 3 fun x =>
    { x with ctx := { x.ctx with service := svc, gov := gov }, oce := { x.oce with est := { x.oce.est with presence := p } } }

theorem witness_panel :
    (∃ svc, taught.effective 3 = .service svc ∧ svc ≠ .unconfigured) ∧ taught.effective 5 = .service .unconfigured ∧
      (taught.room 3).ctx.extPending = false ∧ (taught.room 3).ctx.gov = some hLecture ∧ taught.govRoom 3 = 3 ∧
      taught.mergedOf 3 = none ∧ (mergedPair.mergedOf 3).isSome = true ∧
      (mergedPair.modifyCtx 4 fun c => { c with safe := true }).effective 4 = .safe ∧
      (mergedPair.modifyCtx 4 fun c => { c with safe := true }).govRoom 4 = 3 ∧
      (∃ svc, taught.effective 4 = .service svc ∧ svc ≠ .unconfigured) ∧ (taught.room 4).ctx.service = .setback ∧
      (1 : BlindId).val < (taught.room 3).cfg.blindCount ∧ (wing.room 9).cfg.blindCount ≤ (0 : BlindId).val :=
  ⟨⟨.inUse, by decide +kernel⟩, by decide +kernel, by decide +kernel, by decide +kernel, by decide +kernel,
    by decide +kernel, by decide +kernel, by decide +kernel, by decide +kernel, ⟨.setback, by decide +kernel⟩,
    by decide +kernel, by decide +kernel, by decide +kernel⟩

theorem witness_grant_runs :
    ∀ q, (∃ e ∈ (taught.room q).agenda, e.handle = hLecture ∧ e.state.terminal = false) →
      (taught.room q).cfg.enabled = true ∧ taught.closed q = false ∧ (taught.room q).ctx.gov = some hLecture ∧
        stateIn (taught.room q).agenda hLecture = some .confirmed ∧ (taught.room q).ctx.service = .inUse := by
  decide +kernel

/-- The lines of R70 at room 3, in their order, with the states that decide them. -/
theorem witness_report_lines :
    (let own (s : State) := ((s.ownEntry 3).map (·.state), (activeEntry (s.room 3).agenda).isSome)
     own (roomIn .started .awaiting (some hLecture) .empty) = (some .started, true) ∧
     own (roomIn .confirmed .awaiting (some hLecture) .empty) = (some .confirmed, true) ∧
     own (roomIn .confirmed .inUse (some hLecture) .present) = (some .confirmed, true) ∧
     own (roomIn .started .setback none .empty) = (none, true) ∧
     own (roomIn .released .awaiting (some hLecture) .empty) = (some .released, false) ∧
     own (roomIn .ended .inUse (some hLecture) .present) = (some .ended, false) ∧
     own (roomIn .ended .awaiting (some hLecture) .empty) = (some .ended, false) ∧
     own (roomIn .skipped .precondition (some hLecture) .empty) = (some .skipped, false) ∧
     own (roomIn .waiting .precondition (some hLecture) .empty) = (some .waiting, false) ∧
     own (roomIn .preconditioning .setback none .empty) = (none, false)) ∧
      (roomIn .ended .inUse (some hLecture) .present).occupied 3 = true ∧
      (roomIn .ended .inUse (some hLecture) .empty).occupied 3 = false ∧
      (wing.profiles.get lectureRec.cls).overrunLimit ≠ 0 ∧
      (({ wing with profiles := .fill 8 { Profile.reset with overrunLimit := 0 } } : State).profiles.get
        lectureRec.cls).overrunLimit = 0 := by decide +kernel

theorem witness_presence_moves :
    Presence.empty.confirmed = false ∧ Presence.present.confirmed = true ∧ Presence.quiet ≠ Presence.empty ∧
      (∀ e ∈ (wing.room 3).agenda, e.state.live = false) ∧ wing.closed 3 = false ∧
      ((roomIn .started .awaiting (some hLecture) .empty).ownEntry 3).map (·.state) = some .started ∧
      ((roomIn .started .awaiting (some hLecture) .empty).room 3).ctx.outConfirm = none ∧
      ((roomIn .ended .overrun (some hLecture) .present).room 3).ctx.service = .overrun ∧
      firstPrecond ((roomIn .ended .overrun (some hLecture) .present).room 3).agenda = none := by decide +kernel

/-- R76: an overrun that began at 1430 has run 40 minutes at 30 of the next day; one that began at 10 has run 20. -/
theorem witness_overrun :
    (30 + 1440 - 1430 : Nat) = 40 ∧ (30 : Nat) ≤ 40 ∧
      (let s := { (roomIn .ended .overrun (some hLecture) .present).modifyCtx 3
        (fun c => { c with overrunStart := some 1430 }) with cal := { wing.cal with minute := 30 } }
       (s.ownProfile 3).overrunLimit = 30 ∧ (s.room 3).ctx.overrunStart = some 1430 ∧ (30 - 10 : Nat) < 30) := by
  decide +kernel

theorem witness_clearing :
    (mergedPair.mergedOf 3).isSome = true ∧
      mergedPair.govHandle 3 ≠ (mergedPair.setService 3 .setback none).govHandle 3 ∧
      mergedPair.base 3 ≠ .setback ∧ (mergedPair.setService 3 .setback none).base 3 = .setback ∧
      mergedPair.govHandle 3 = (mergedPair.setService 4 .adHoc none).govHandle 3 ∧ taught.mergedOf 3 = none := by decide +kernel

/-! ### Estimates, groups and reports -/

theorem witness_observe :
    Estimate.reset.presence = .empty ∧ sensed.presence = .sensed ∧ sensed.sensedSince = some 0 ∧
      (Estimate.reset.observe 40 ⟨120, 600, 20⟩ 0 0 0 50).tally = 0 ∧
      (Estimate.reset.observe 40 ⟨120, 600, 20⟩ 0 3 0 50).tally = 3 ∧
      (sensed.observe 40 ⟨120, 600, 20⟩ 1 0 0 119).tally = 0 ∧ (119 - 0 : Nat) < 120 ∧ (120 : Nat) ≤ 120 - 0 ∧
      (({ Estimate.reset with tally := 2 } : Estimate).observe 40 ⟨120, 600, 20⟩ 0 0 2 50).tally = 0 := by decide

theorem witness_contact :
    (paired ⟨.closed, true, none⟩).groupOf 4 = some (0, ⟨3, [(4, ⟨.closed, true, none⟩)], .split, .reset⟩) ∧
      (⟨3, [(4, ⟨.closed, true, none⟩)], .split, .reset⟩ : PartGroup).contactOf 4 = some ⟨.closed, true, none⟩ ∧
      (⟨3, [(4, ⟨.closed, true, none⟩)], .split, .reset⟩ : PartGroup).contactOf 3 = none ∧
      (paired .fresh).groupOf 5 = none := by decide +kernel

/-- A pair whose open contact settles merges. -/
theorem witness_merge :
    (let p : PartGroup := ⟨3, [(4, ⟨.opened, false, some 0⟩)], .split, .reset⟩
     let s := paired ⟨.opened, false, some 0⟩
     s.groups.get 0 = some p ∧ p.state ≠ .merged ∧ p.members.Nodup ∧ (∀ m ∈ p.members, s.groupOf m = some (0, p)) ∧
      (∀ m ∈ p.members, (s.room m).ctx.service = .setback → (s.room m).ctx.gov = none) ∧
      s.groupStateOf (p.modifyContact 4 fun c => { c with settled := true, timer := none }) = .merged ∧
      s.groupStateOf p ≠ .merged) ∧
      wing.groupStateOf ⟨3, [(4, ⟨.closed, true, none⟩)], .partly, .reset⟩ = .split := by decide +kernel

theorem witness_good_setpoint :
    (let s := exchanging .setpoint (.joining 4)
     (s.room 3).cfg.enabled = true ∧ (s.room 3).ctx.safe = false ∧ s.groupOf 3 = none ∧
      (match judge 4 goodReply with
        | .ok rep => some (rep.eventCode, rep.co2, rep.flags.restarted, rep.contactOpen)
        | .error _ => none) = some (0, 700, false, false)) ∧
      ((mergedPair.groups.get 0).bind fun p => p.contactOf 3) = none ∧ (mergedPair.mergedOf 3).isSome = true ∧
      ((mergedPair.groups.get 0).bind fun p => p.contactOf 4).map (·.reading) = some .opened ∧
      ((mergedPair.groups.get 0).map fun p => decide p.members.Nodup) = some true ∧
      (Station.joining 4).lastEvent ≠ some 3 := by
  decide +kernel

theorem witness_pass_elsewhere :
    (1 : AirId) ≠ 0 ∧ (wing.airs.get 1).pending = false ∧
      ((after (.requestAllocation 0) wing).airs.get 0).running.isSome = true := by decide +kernel

/-! ### Air, light, blinds and frames -/

/-- Room 3 under a hold, and SAFE. -/
def heldRoom : State := taught.modifyCtx 3 fun c => { c with hold := some heldOut }
/-- See `heldRoom`. -/
def safeRoom : State := taught.modifyCtx 3 fun c => { c with safe := true }

theorem witness_effective_states :
    heldRoom.effective 3 = .hold ∧ (heldRoom.room 3).ctx.hold = some heldOut ∧ safeRoom.effective 3 = .safe ∧
      wing.effective 5 = .service .unconfigured ∧ (wing.room 3).cfg.vminOcc ≤ (wing.room 3).cfg.vmax ∧
      (wing.room 3).cfg.vminUn ≤ (wing.room 3).cfg.vmax ∧
      (roomIn .preconditioning .precondition (some hLecture) .empty).effective 3 = .service .precondition ∧
      (roomIn .started .awaiting (some hLecture) .empty).effective 3 = .service .awaiting ∧
      (roomIn .confirmed .vacated (some hLecture) .empty).effective 3 = .service .vacated ∧
      (roomIn .ended .overrun (some hLecture) .present).effective 3 = .service .overrun ∧
      (roomIn .skipped .adHoc none .present).effective 3 = .service .adHoc ∧
      (roomIn .skipped .adHoc none .present).govHandle 3 = none ∧ (0 : ChannelId).val < (wing.room 3).cfg.channels ∧
      (wing.room 3).cfg.channels ≤ (2 : ChannelId).val ∧ (∀ ch, wing.cell 0 ch = 0) := by decide +kernel

theorem witness_blind_targets :
    Service.inUse.occupiedClass = true ∧ (taught.room 3).ctx.overrides.get 0 = .none ∧
      (taught.facades.get 0).retract = .off ∧ (taught.govProfile 3).policy = .fixed ∧
      ((State.reset.facades.set 0 ⟨.glare, .cooling, .on⟩).get 0).retract = .on := by decide +kernel

/-- A window over scenes 2 to 4 and channels 1 to 2, at a cell. -/
def windowAt (o : ScanOrder) (w : Switch) (sc : SceneId) (ch : ChannelId) : Window :=
  { firstScene := 2, lastScene := 4, firstChannel := 1, lastChannel := 2, order := o, wrap := w, scene := sc, channel := ch,
    pastEnd := false }

/-- R150: the steps of both orders, and the end with wrap ON and OFF. -/
theorem test_window_steps :
    (windowAt .sceneMajor .off 2 1).step = windowAt .sceneMajor .off 2 2 ∧
      (windowAt .sceneMajor .off 2 2).step = windowAt .sceneMajor .off 3 1 ∧
      (windowAt .channelMajor .on 2 1).step = windowAt .channelMajor .on 3 1 ∧
      (windowAt .channelMajor .on 4 1).step = windowAt .channelMajor .on 2 2 ∧
      (windowAt .channelMajor .on 4 2).step = windowAt .channelMajor .on 2 1 ∧
      (windowAt .sceneMajor .off 4 2).step = { windowAt .sceneMajor .off 4 2 with pastEnd := true } := by decide

/-- A blind at rest below its top with a target. -/
def resting : Blind := { Blind.reset with position := some 200, target := some 900, unitToken := some 0, moves := 20 }

theorem witness_blind_plans :
    resting.motion = .still ∧ resting.cmd = none ∧ resting.unitToken = some 0 ∧ resting.target = some 900 ∧
      resting.position = some 200 ∧ (200 : Nat) ≠ 900 ∧
      ({ resting with position := none } : Blind).position = none ∧ ([] : List Token).length ≤ 2 ∧
      (resting.plan 300).motion = .lowering ∧ ((resting.plan 300).cmd.map (·.echoed)) = some false := by decide

/-- A lowering move from 0 to 1000 half done, and the same being stopped. -/
def halfway : Blind := { travelled with timer := .at 5 }
/-- See `halfway`. -/
def stopping : Blind := halfway.newTarget 300 100

theorem witness_blind_retargets :
    halfway.motion = .lowering ∧ halfway.modelled = some 500 ∧ (900 : Nat) ≠ 1000 ∧ (500 : Nat) < 900 ∧
      ¬ ((500 : Nat) < 100) ∧ stopping.motion = .stopping ∧ (stopping.stopped.map (·.echoed)) = some true ∧
      (stopping.cmd.map fun c => (c.dir, c.token)) = some (.stop, 1) ∧
      (stopping.reported 300 1 0).motion = .pausing ∧ (stopping.reported 300 1 0).position = some 500 ∧
      (resting.plan 300).pending = none ∧ (halfway.cmd.map (·.dir)) = some .down ∧
      ((resting.plan 300).cmd.map fun c => (c.dir, c.token)) = some (.down, 1) := by decide

theorem witness_frame :
    (taught.band 3).isSome = true ∧ (1 : BlindId).val < (taught.room 3).cfg.blindCount ∧
      ((taught.modifyBlind 3 1 fun _ => travelled).room 3).blinds.get 1 = travelled ∧ travelled.cmd.isSome = true ∧
      ((taught.room 3).blinds.get 0).cmd = none := by decide +kernel

theorem witness_handle_slot :
    asRoom 3 = some 3 ∧ (taught.room 3).cfg.enabled = true ∧ (512 : Nat) ≤ (⟨512, 0⟩ : Handle).slot ∧
      (⟨511, 0⟩ : Handle).slot < 512 := by decide +kernel

/-! ## Witnesses of the invariants, on `wing` -/

theorem witness_scenes_ok : ScenesOk wing := by unfold ScenesOk; decide +kernel

theorem witness_air_ok : AirOk wing := by
  refine ⟨by decide +kernel, fun g => ⟨?_, ?_⟩⟩
  · unfold PassOk; revert g; decide +kernel
  · intro p h
    have : ∀ g, (wing.airs.get g).running = none := by decide +kernel
    rw [this g] at h; cases h

theorem witness_stations_ok : StationsOk wing := by
  refine ⟨by decide +kernel, ?_, ?_, ?_⟩
  · intro r st h
    exact (by decide +kernel : ∀ r : RoomId, ∀ st ∈ (wing.room r).station,
      st.health ≤ 255 ∧ ((wing.room r).ctx.safe = true ↔ st.state = .off)) r st h
  · decide +kernel
  · intro x h
    have : wing.loop.exchange = none := by decide +kernel
    rw [this] at h; cases h

theorem witness_clock_ok : ClockOk wing := by unfold ClockOk; decide +kernel

theorem witness_records_ok : RecordsOk wing := by
  intro k
  have : ∀ k, wing.store.slots.get k = ⟨0, none⟩ := by decide +kernel
  rw [this k]
  exact ⟨by decide, fun b h => by cases h⟩

theorem witness_changes_ok : ChangesOk wing := by unfold ChangesOk; decide +kernel

theorem witness_outputs_ok : OutputsFollow State.reset.follow := by unfold OutputsFollow; decide +kernel

end Sys2Proof.Tests
end

section
/-! PROOFS. How a queued command runs: taken by an open slot, answered at once or performed as a store operation, and
what follows its effect (R42, R43, R52, R190, R191, R193). -/
namespace Sys2Proof.Machine

/-! ## A command that the slot takes -/

theorem arrive_of_slotOpen {s : State} (h : s.slotOpen = true) (act : State → State) : s.arrive act = act s := by
  unfold State.slotOpen at h
  unfold State.arrive
  split <;> simp_all

/-- That the host has just been heard does not close the slot. -/
theorem arrive_hostHeard {s : State} (h : s.slotOpen = true) (act : State → State) :
    s.hostHeard.arrive act = act s.hostHeard :=
  arrive_of_slotOpen (s := s.hostHeard) h act

theorem queued_of_slotOpen {s u : State} {cmd : Instr} {act : State → State × Status × Result} {e : Status} {x : Result}
    (h : s.slotOpen = true) (ha : act s.hostHeard = (u, e, x)) : s.queued cmd act = u.respond cmd false e x := by
  simp only [State.queued, arrive_hostHeard h, ha]

theorem queuedRead_of_slotOpen {s : State} {cmd : Instr} {answer : State → Status × Result} {e : Status} {x : Result}
    (h : s.slotOpen = true) (ha : answer s.hostHeard = (e, x)) : s.queuedRead cmd answer = s.answered cmd e x :=
  queued_of_slotOpen h (by rw [ha])

theorem queuedEffect_accepted {s u : State} {cmd : Instr} {act : State → State × Status × Result} {e : Status}
    {x : Result} (h : s.slotOpen = true) (ha : act s.hostHeard = (u, e, x)) (he : e.accepted = true) :
    s.queuedEffect cmd act = (u.finish s.hostHeard).respond cmd false e x := by
  unfold State.queuedEffect State.queuedTouching
  exact queued_of_slotOpen h (by simp [ha, he, State.finish])

theorem queuedEffect_refused {s : State} {cmd : Instr} {act : State → State × Status × Result} {e : Status}
    {x : Result} (h : s.slotOpen = true) (ha : act s.hostHeard = (s.hostHeard, e, x)) (he : e.accepted = false) :
    s.queuedEffect cmd act = s.answered cmd e x := by
  unfold State.queuedEffect State.queuedTouching
  exact queued_of_slotOpen h (by simp [ha, he])

theorem queuedEither_accepted {s u : State} {cmd : Instr} {act : State → (State × Status × Result) ⊕ HostOp}
    {e : Status} {x : Result} (h : s.slotOpen = true) (ha : act s.hostHeard = .inl (u, e, x)) (he : e.accepted = true) :
    s.queuedEither cmd act = (u.finish s.hostHeard).respond cmd false e x := by
  simp only [State.queuedEither, arrive_hostHeard h, ha, he, if_true]

theorem queuedEither_refused {s : State} {cmd : Instr} {act : State → (State × Status × Result) ⊕ HostOp}
    {e : Status} {x : Result} (h : s.slotOpen = true) (ha : act s.hostHeard = .inl (s.hostHeard, e, x))
    (he : e.accepted = false) : s.queuedEither cmd act = s.answered cmd e x := by
  simp only [State.queuedEither, arrive_hostHeard h, ha, he, Bool.false_eq_true, if_false, State.answered]

theorem queuedEither_operation {s : State} {cmd : Instr} {act : State → (State × Status × Result) ⊕ HostOp}
    {op : HostOp} (h : s.slotOpen = true) (ha : act s.hostHeard = .inr op) :
    s.queuedEither cmd act = (s.hostHeard.storeCommand cmd op).takeNext := by
  simp only [State.queuedEither, arrive_hostHeard h, ha]

theorem queuedOperation_of_slotOpen {s : State} {cmd : Instr} {op : HostOp} (h : s.slotOpen = true) :
    s.queuedOperation cmd op = (s.hostHeard.storeCommand cmd op).takeNext := by
  simp only [State.queuedOperation, arrive_hostHeard h]

@[simp] theorem okStatus_accepted (clamped : Bool) : (okStatus clamped).accepted = true := by cases clamped <;> rfl

/-- Responses to two states of which one follows the other follow each other. -/
theorem Follows.respond {s t : State} (h : Follows s t) (c : Instr) (l : Bool) (e : Status) (x : Result) :
    Follows (s.respond c l e x) (t.respond c l e x) :=
  { h with
    port := { h.port with }
    slot := rfl
    bookingChanges := h.bookingChanges
    rooms := h.rooms
    airs := h.airs }

/-- What follows an answer leaves the answer in the slot. -/
theorem Follows.answeredWith {s t : State} {c : Instr} {e : Status} {x : Result} (h : Follows s t)
    (hs : s.answeredWith c e x) : t.answeredWith c e x := h.slot.trans hs

theorem becomes_of_exec {c : Instr} {s u t : State} (hx : exec c s = .next t) (hf : Follows u t) : Becomes c s u :=
  ⟨t, hx, hf⟩

/-! ## A host command performed as a store operation -/

/-- The state in which the arbiter performs a host command that a ready part has just taken: the slot executes it, and
nothing else has changed but that the host has been heard. -/
def State.serving (s : State) (c : Instr) (op : HostOp) : State :=
  { s.hostHeard.takeCommand c with store := { s.store with running := some { op := .host op, at_ := s.instant } } }

theorem running_of_arbiterFree {s : State} (h : s.arbiterFree = true) : s.store.running = none := by
  simp only [State.arbiterFree, Bool.and_eq_true, Option.isNone_iff_eq_none] at h
  exact h.1.1

theorem steps_of_arbiterFree {s : State} (h : s.arbiterFree = true) : s.store.steps = [] := by
  simp only [State.arbiterFree, Bool.and_eq_true, List.isEmpty_iff] at h
  exact h.1.2

theorem requestRoom_of_arbiterFree {s : State} (h : s.arbiterFree = true) : s.requestRoom = none := by
  simp only [State.arbiterFree, Bool.and_eq_true, Option.isNone_iff_eq_none] at h
  exact h.2

/-- No room of a part whose arbiter is free has a request waiting. -/
theorem requests_of_arbiterFree {s : State} (h : s.arbiterFree = true) (r : RoomId) : (s.room r).ctx.requests = [] := by
  have empty := List.find?_eq_none.1 (requestRoom_of_arbiterFree h) r (List.mem_finRange r)
  simpa using empty

theorem running_of_ready {s : State} (h : s.ready) : s.store.running = none := by
  obtain ⟨-, free, -, -⟩ := h
  exact running_of_arbiterFree free

theorem work_of_ready {s : State} (h : s.ready) : s.cal.work = [] := by
  obtain ⟨-, -, -, work⟩ := h
  exact work

theorem requests_of_ready {s : State} (h : s.ready) (r : RoomId) : (s.room r).ctx.requests = [] := by
  obtain ⟨-, free, -, -⟩ := h
  exact requests_of_arbiterFree free r

/-- An arbiter with nothing else to do takes the host command that waits (R43). -/
theorem takeNext_host {t : State} {op : HostOp} (hrun : t.store.running = none) (hsteps : t.store.steps = [])
    (hreq : t.requestRoom = none) (hwait : t.store.hostWait = some op) :
    t.takeNext =
      { t with store := { t.store with hostWait := none, running := some { op := .host op, at_ := t.instant } } } := by
  unfold State.takeNext
  rw [if_neg (by simp [hrun])]
  split
  · simp_all
  · rw [hreq]
    dsimp only
    rw [hwait]
    rfl

theorem storeCommand_takeNext {s : State} (h : s.ready) (c : Instr) (op : HostOp) :
    (s.hostHeard.storeCommand c op).takeNext = s.serving c op := by
  obtain ⟨-, free, wait, -⟩ := h
  have waited : ({ s.store with hostWait := none } : Store) = s.store := by rw [← wait]
  rw [takeNext_host (t := s.hostHeard.storeCommand c op) (op := op) (running_of_arbiterFree free)
    (steps_of_arbiterFree free) (requestRoom_of_arbiterFree free) rfl]
  exact congrArg (fun st : Store => ({ s.hostHeard.takeCommand c with
    store := { st with running := some { op := .host op, at_ := s.instant } } } : State)) waited

/-- The operation of a served command completes: its effect, its response, the calendar's held work, and what
follows. -/
theorem completeOp_serving {s u : State} {c : Instr} {op : HostOp} {e : Status} {x : Result}
    (heff : (s.serving c op).hostEffect s.instant op = (u, e, x)) (hslot : u.port.slot = .executing c false) :
    (s.serving c op).completeOp =
      ((u.respond c false e x).releaseStore.applyHeld).finish (s.serving c op) := by
  have hrun : (s.serving c op).store.running = some { op := .host op, at_ := s.instant } := rfl
  simp only [State.completeOp, hrun, State.opEffect, heff, State.completeCommand, hslot]

theorem applyHeld_of_no_work {s : State} (h : s.cal.work = []) : s.applyHeld = s := by
  have same : ({ s with cal := { s.cal with work := [] } } : State) = s := by rw [← h]
  simp only [State.applyHeld, h, List.foldl_nil, same]

theorem release_respond_serving {v : State} (h : v.store.running = none) (c : Instr) (op : HostOp) (e : Status)
    (x : Result) : ((v.serving c op).respond c false e x).releaseStore = v.answered c e x := by
  have same : ({ v.store with running := none } : Store) = v.store := by rw [← h]
  unfold State.answered State.releaseStore State.serving State.respond State.takeCommand State.hostHeard
  simp only [same]

/-- A served command whose effect leaves port, arbiter and held work alone: the part ends as if the effect had been
made of the command at once, answered, and followed by what follows every effect. -/
theorem performed_of_effect {s v : State} {c : Instr} {op : HostOp} {e : Status} {x : Result} {q : State → Prop}
    (hready : s.ready) (hexec : exec c s = .next ((s.hostHeard.storeCommand c op).takeNext))
    (heff : (s.serving c op).hostEffect s.instant op = (v.serving c op, e, x)) (hrun : v.store.running = none)
    (hwork : v.cal.work = []) (hq : q ((v.answered c e x).finish (s.serving c op))) : Performed c s q := by
  refine ⟨s.serving c op, _, hexec.trans (by rw [storeCommand_takeNext hready]), ?_, hq⟩
  have done : (s.serving c op).completeOp = (v.answered c e x).finish (s.serving c op) := by
    rw [completeOp_serving heff rfl, release_respond_serving hrun, applyHeld_of_no_work (s := v.answered c e x) hwork]
  exact congrArg Host.Outcome.next done

/-- A served command that is refused changes nothing but the slot. -/
theorem performed_refused {s : State} {c : Instr} {op : HostOp} {e : Status} {x : Result} (hready : s.ready)
    (hexec : exec c s = .next ((s.hostHeard.storeCommand c op).takeNext))
    (heff : (s.serving c op).hostEffect s.instant op = (s.serving c op, e, x)) :
    Performed c s (Follows (s.answered c e x)) :=
  performed_of_effect hready hexec heff (running_of_ready hready) (work_of_ready hready) (.finish ..)

/-! ## What follows an effect -/

/-- Taking the next operation changes the arbiter and one room's waiting requests, and nothing else of a room. -/
theorem room_takeNext (s : State) (r : RoomId) :
    ∃ q, s.takeNext.room r = { s.room r with ctx := { (s.room r).ctx with requests := q } } := by
  have dropped (home : RoomId) (rest : List RoomReq) (op : StoreOp) :
      ∃ q, ((s.modifyCtx home fun c => { c with requests := rest }).beginOp op).room r =
        { s.room r with ctx := { (s.room r).ctx with requests := q } } := by
    have taken : ((s.modifyCtx home fun c => { c with requests := rest }).beginOp op).room r =
        (s.modifyRoom home fun x => { x with ctx := { x.ctx with requests := rest } }).room r := rfl
    rw [taken, room_modifyRoom]
    split
    · subst_vars; exact ⟨rest, rfl⟩
    · exact ⟨_, rfl⟩
  unfold State.takeNext
  split
  · exact ⟨_, rfl⟩
  · split
    · exact ⟨_, rfl⟩
    · split
      · split
        · exact dropped ..
        · exact ⟨_, rfl⟩
      · split <;> exact ⟨_, rfl⟩

theorem takeNext_port (s : State) : s.takeNext.port = s.port := by
  unfold State.takeNext
  repeat' split
  all_goals rfl

end Sys2Proof.Machine
end

section
/-! PROOFS. What the outputs of a room and the change set of the port hold after everything that follows an effect. -/
namespace Sys2Proof.Machine

/-! ## Outputs after an effect -/

/-- The parts of a room that nothing after the following of inputs touches. -/
theorem room_finish_outputs (s b : State) (r : RoomId) :
    ((s.finish b).room r).air = (s.follow.room r).air ∧ ((s.finish b).room r).light = (s.follow.room r).light ∧
      ((s.finish b).room r).blinds = (s.follow.room r).blinds := by
  obtain ⟨q, hq⟩ := room_takeNext
    ((s.follow.noteRooms (s.follow.roomMoved b)).fireMembers b fun _ => false).startPasses r
  have last : (s.finish b).room r =
      { s.follow.room r with ctx := { (s.follow.room r).ctx with requests := q } } := hq
  rw [last]
  exact ⟨rfl, rfl, rfl⟩

theorem room_finish_air (s b : State) (r : RoomId) :
    ((s.finish b).room r).air = (s.room r).air.take (s.room r).cfg (s.figures r) := by
  obtain ⟨air, -, -⟩ := room_finish_outputs s b r
  rw [air, room_follow_air]

/-- A blind group after an effect: it has been handed the target chosen for it. -/
theorem room_finish_blind (s b : State) (r : RoomId) (k : BlindId) :
    ((s.finish b).room r).blinds.get k = s.recompute.relight.aimBlind r k ((s.room r).blinds.get k) := by
  obtain ⟨-, -, blinds⟩ := room_finish_outputs s b r
  rw [blinds]
  simp [State.follow, State.aim, State.relight, State.recompute]

/-- A blind group of a room that is not enabled is left alone. -/
theorem room_finish_blind_disabled {s : State} {r : RoomId} (h : (s.room r).cfg.enabled = false) (b : State)
    (k : BlindId) : ((s.finish b).room r).blinds.get k = (s.room r).blinds.get k := by
  have off : (s.recompute.relight.room r).cfg.enabled = false := by simpa [State.relight, State.recompute] using h
  rw [room_finish_blind, State.aimBlind]
  simp [off]

/-! ### The position of a blind group that is handed a target -/

@[simp] theorem Blind.plan_position (b : Blind) (full : Nat) : (b.plan full).position = b.position := by
  unfold Blind.plan
  split
  · split
    · split
      · rfl
      · split
        · rfl
        · unfold Blind.planFrom; dsimp only; split <;> rfl
    · rfl
  · rfl

/-- A new target moves nothing of what the model knows of a blind that holds no command. -/
theorem Blind.newTarget_position {b : Blind} (h : b.cmd = none) (full target : Nat) :
    (b.newTarget full target).position = b.position := by
  unfold Blind.newTarget
  split
  · simp
  · rfl
  · rfl
  · rfl
  · simp_all

theorem Blind.handTarget_position {b : Blind} (h : b.cmd = none) (full : Nat) (retracted : Bool) (target : Option Nat) :
    (b.handTarget full retracted target).position = b.position := by
  have idle : (if retracted then b.unechoedLowering else none) = none := by simp [Blind.unechoedLowering, h]
  unfold Blind.handTarget
  cases target with
  | none => simp
  | some t =>
    simp only [idle]
    split
    · simp
    · simp [Blind.newTarget_position h]

/-- What follows an effect does not make the position of a blind group known, nor unknown, while no command is held. -/
theorem room_finish_position {s : State} {r : RoomId} {k : BlindId} (h : ((s.room r).blinds.get k).cmd = none)
    (b : State) : (((s.finish b).room r).blinds.get k).position = ((s.room r).blinds.get k).position := by
  rw [room_finish_blind, State.aimBlind]
  split
  · exact Blind.handTarget_position h ..
  · rfl

/-! ## The room change set after an effect -/

/-- All that follows an effect does to the port: the rooms that moved enter the room change set (R194). -/
theorem finish_port (s b : State) : (s.finish b).port = (s.follow.noteRooms (s.follow.roomMoved b)).port :=
  takeNext_port _

theorem raiseIf_roomChanges (p : Port) (b : Bool) (c : Cause) : (p.raiseIf b c).roomChanges = p.roomChanges := by
  unfold Port.raiseIf; split <;> rfl

theorem getLsbD_raise (p : Port) (c : Cause) : (p.raise c).flags.getLsbD c.index = true := by
  have own : c.mask.getLsbD c.index = true := by cases c <;> decide
  simp [Port.raise, own]

/-- A room that a step has moved stands in the room change set after it, and ROOMS_CHANGED is set (R194). -/
theorem roomChanged_of_moved {s b : State} {r : RoomId} (h : s.follow.roomMoved b r = true) :
    (s.finish b).port.roomChanges.get r = true ∧ (s.finish b).flagged .roomsChanged = true := by
  have noted : allRooms.any (s.follow.roomMoved b) = true := List.any_eq_true.2 ⟨r, List.mem_finRange r, h⟩
  refine ⟨?_, ?_⟩
  · simp [finish_port, State.noteRooms, raiseIf_roomChanges, h]
  · simp only [State.flagged, finish_port, State.noteRooms, noted, Port.raiseIf, if_true]
    exact getLsbD_raise ..

/-- A change of the state of a room's station moves the room (R194). -/
theorem roomMoved_of_station {s b : State} {r : RoomId} (h : (b.room r).stationState ≠ (s.room r).stationState) :
    s.roomMoved b r = true := by simp [State.roomMoved, h]

theorem stationState_follow (s : State) (r : RoomId) : (s.follow.room r).stationState = (s.room r).stationState := by
  simp only [Room.stationState, ((Follows.follow s).rooms r).station]

/-- A room whose station has joined, left or changed its state enters the room change set (R194). -/
theorem roomChanged_of_station {s b : State} {r : RoomId} (h : (b.room r).stationState ≠ (s.room r).stationState) :
    (s.finish b).port.roomChanges.get r = true ∧ (s.finish b).flagged .roomsChanged = true :=
  roomChanged_of_moved (roomMoved_of_station (by rwa [stationState_follow]))

theorem flagged_respond {s : State} {k : Cause} (h : s.flagged k = true) (c : Instr) (l : Bool) (e : Status)
    (x : Result) : (s.respond c l e x).flagged k = true := by
  have kept : s.port.flags.getLsbD k.index = true := h
  simp [State.flagged, State.respond, Port.raise, kept]

end Sys2Proof.Machine
end

section
/-! PROOFS. Power-on, the state after reset and the configuration reads. -/
namespace Sys2Proof.Machine

/-! ## The state after reset -/

@[simp] theorem room_reset (r : RoomId) : State.reset.room r = Room.reset r := Table.get_ofFn ..

@[simp] theorem groups_reset (g : GroupId) : State.reset.groups.get g = none := Table.get_fill ..

@[simp] theorem airs_reset (g : AirId) : State.reset.airs.get g = AirGroup.reset := Table.get_fill ..

@[simp] theorem profiles_reset (k : ProfileId) : State.reset.profiles.get k = Profile.reset := Table.get_fill ..

@[simp] theorem facades_reset (f : FacadeId) : State.reset.facades.get f = ⟨.none, .heating, .off⟩ := Table.get_fill ..

@[simp] theorem slots_reset (k : SlotId) : State.reset.store.slots.get k = ⟨0, none⟩ := Table.get_fill ..

@[simp] theorem cell_reset (sc : SceneId) (ch : ChannelId) : State.reset.cell sc ch = 0 := by
  simp [State.cell, State.reset]

/-- A room that is not enabled acts UNCONFIGURED. -/
theorem effective_of_disabled {s : State} {r : RoomId} (h : (s.room r).cfg.enabled = false) :
    s.effective r = .service .unconfigured := by simp [State.effective, h]

theorem litState_of_disabled {s : State} {r : RoomId} (h : (s.room r).cfg.enabled = false) :
    s.litState r = .service .unconfigured := by simp [State.litState, effective_of_disabled h]

/-- The demand record of a disabled room is empty, whatever it was (R125, R127). -/
theorem take_of_disabled {s : State} {r : RoomId} (h : (s.room r).cfg.enabled = false) (a : Demand) :
    a.take (s.room r).cfg (s.figures r) = Demand.reset := by
  simp [Demand.take, State.figures, effective_of_disabled h, serviceFigures, h, Demand.reset]

/-- A disabled room is dark (R154). -/
theorem formLight_of_disabled {s : State} {r : RoomId} (h : (s.room r).cfg.enabled = false) :
    s.formLight r = .dark := by simp [State.formLight, litState_of_disabled h]

theorem scenesOk_reset : ScenesOk State.reset :=
  ⟨fun ch => cell_reset 0 ch, fun sc ch => by simp, by decide, by decide, by decide, by decide⟩

theorem airOk_reset : AirOk State.reset := by
  refine ⟨fun r => ?_, fun g => ⟨?_, fun p hp => ?_⟩⟩
  · simp [Room.reset, Demand.reset]
  · simp [AirGroup.reset, PassRecord.empty, PassOk]
  · simp [AirGroup.reset] at hp

theorem stationsOk_reset : StationsOk State.reset := by
  refine ⟨fun r => ?_, fun r st h => ?_, fun r _ => ?_, fun x h => ?_⟩
  · simp [Room.reset, RoomRec.reset]
  · simp [Room.reset] at h
  · simp [Room.reset, Context.reset]
  · simp [State.reset, Loop.reset] at h

theorem clockOk_reset : ClockOk State.reset := by
  simp [ClockOk, State.reset, Calendar.reset]

theorem recordsOk_reset : RecordsOk State.reset := fun k => by simp

theorem changesOk_reset : ChangesOk State.reset := by
  simp [ChangesOk, State.reset, Port.reset]

/-- Every room is disabled after reset, so its demand is empty and its lights are dark. -/
theorem outputsFollow_reset : OutputsFollow State.reset := fun r => by
  have off : (State.reset.room r).cfg.enabled = false := by rw [room_reset]; rfl
  rw [take_of_disabled off, formLight_of_disabled off, room_reset]
  exact ⟨rfl, rfl⟩

/-- Settles O60: each invariant holds of the values after power-on. -/
theorem resetMeetsInvariants : Obligations.ResetMeetsInvariants :=
  ⟨scenesOk_reset, airOk_reset, stationsOk_reset, clockOk_reset, recordsOk_reset, changesOk_reset, outputsFollow_reset⟩

/-! ## Power-on -/

/-- Settles O3: the next state is the state after reset, with the queue kept. -/
theorem powerOnValues : Obligations.PowerOnValues := by
  intro s
  have rooms (r : RoomId) : s.powerOn.room r = Room.reset r := room_reset r
  refine ⟨s.powerOn, rfl, rfl, fun r => ?_, fun r => ?_, profiles_reset, rfl, rfl, rfl, groups_reset, fun g => ?_,
    slots_reset, rfl, rfl, rfl, rfl, rfl, rfl, rfl, rfl, cell_reset, rfl, rfl, facades_reset, rfl, rfl, rfl, rfl, rfl,
    rfl, rfl, rfl⟩
  · rw [rooms]; rfl
  · rw [rooms]; exact ⟨rfl, rfl, rfl⟩
  · have airs : s.powerOn.airs.get g = AirGroup.reset := airs_reset g
    rw [airs]; exact ⟨rfl, rfl, rfl, rfl⟩

/-! ## Configuration reads -/

/-- Settles O8: each read is answered at once, by the number where it takes one. -/
theorem configurationReads : Obligations.ConfigurationReads := by
  intro s n h
  refine ⟨?_, ?_, ?_, ?_, ?_, ?_⟩ <;> refine congrArg Host.Outcome.next ?_
  · cases asRoom n <;> exact queuedRead_of_slotOpen h rfl
  · cases asIndex 8 n <;> exact queuedRead_of_slotOpen h rfl
  · exact queuedRead_of_slotOpen h rfl
  · cases asIndex 8 n <;> exact queuedRead_of_slotOpen h rfl
  · cases asIndex 4 n <;> exact queuedRead_of_slotOpen h rfl
  · cases asRoom n <;> exact queuedRead_of_slotOpen h rfl

end Sys2Proof.Machine
end

section
/-! PROOFS. The warm reset, and the writes of profile, wing, air group and calibration records. -/
namespace Sys2Proof.Machine

/-! ## The warm reset -/

theorem follows_warmReset (s : State) (cause : ResetCause) : Follows (s.restarted cause) (s.warmReset cause) :=
  ((Follows.follow _).trans (.startPasses _)).trans (.takeNext _)

/-- What follows a warm reset leaves the whole port as the reset made it. -/
theorem warmReset_port (s : State) (cause : ResetCause) : (s.warmReset cause).port = s.port.restart cause :=
  takeNext_port _

theorem room_restarted (s : State) (cause : ResetCause) (r : RoomId) :
    (s.restarted cause).room r = (s.room r).restart := room_mapRooms ..

theorem members_restart (p : PartGroup) : p.restart.members = p.members := by
  simp [PartGroup.restart, PartGroup.members, Function.comp_def]

theorem groups_restarted (s : State) (cause : ResetCause) (g : GroupId) :
    (s.restarted cause).groups.get g = (s.groups.get g).map PartGroup.restart := Table.get_mapIdx ..

theorem airs_restarted (s : State) (cause : ResetCause) (g : AirId) :
    (s.restarted cause).airs.get g = (s.airs.get g).restart := Table.get_mapIdx ..

/-- Settles O4: each clause holds of the state that every block takes, and `Follows` carries it over what follows. -/
theorem warmResetKeeps : Obligations.WarmResetKeeps := by
  intro s c cause hc
  have hx : exec c s = .next (s.warmReset cause) := by
    obtain ⟨rfl, rfl⟩ | ⟨rfl, rfl⟩ := hc <;> rfl
  have f := follows_warmReset s cause
  have port := warmReset_port s cause
  refine ⟨s.warmReset cause, hx, f, f.slots, f.profiles, f.setback, f.scenes, f.economy, f.cap, f.facades, f.openFirst,
    f.openLast, f.cal, fun r => ?rooms, fun g => ?groups, fun g => ?airs, f.window, f.loop, ?port⟩
  case rooms =>
    have k := f.rooms r
    rw [room_restarted] at k
    exact ⟨k.cfg, k.hold, (congrArg Estimator.cal k.oce :), k.agenda, k.safe, (congrArg Estimator.est k.oce :),
      k.station⟩
  case groups =>
    rw [f.groups, groups_restarted]
    cases s.groups.get g with
    | none => rfl
    | some p => simp only [Option.map_some, members_restart]; rfl
  case airs =>
    have k := f.airs g
    rw [airs_restarted] at k
    exact ⟨k.fallback, k.period, k.mask, k.capacity, k.timer⟩
  case port =>
    rw [port]
    exact ⟨rfl, rfl, rfl, rfl, rfl, rfl, rfl, rfl, rfl⟩

/-! ## Profile, air group and calibration writes -/

theorem exec_writeProfile_refused {s : State} {n : Nat} {w : ProfileWrite} (hs : s.slotOpen = true)
    (h : asIndex 8 n = none ∨ profileOf (clampProfile w) = none) :
    exec (.writeProfile n w) s = .next (s.answered (.writeProfile n w) .range .none) := by
  refine congrArg Host.Outcome.next (queuedEffect_refused hs ?_ rfl)
  unfold State.writeProfile
  obtain h | h := h
  · rw [h]; rfl
  · rw [h]; cases asIndex 8 n <;> rfl

theorem becomes_writeProfile {s : State} {n : Nat} {w : ProfileWrite} {k : ProfileId} {p : Profile}
    (hs : s.slotOpen = true) (hk : asIndex 8 n = some k) (hp : profileOf (clampProfile w) = some p) :
    Becomes (.writeProfile n w) s (({ s with profiles := s.profiles.set k p } : State).answered (.writeProfile n w)
      (okStatus (clampProfile w ≠ w)) (.profile k p.shown)) := by
  have act : s.hostHeard.writeProfile n w =
      (({ s with profiles := s.profiles.set k p } : State).hostHeard, okStatus (clampProfile w ≠ w),
        .profile k p.shown) := by
    simp only [State.writeProfile, hk, hp]; rfl
  exact becomes_of_exec (congrArg Host.Outcome.next (queuedEffect_accepted hs act (okStatus_accepted _)))
    (.respond (.finish ..) ..)

theorem exec_writeAirGroup_refused {s : State} {n fallback period : Nat} {mask : TriggerMask} (hs : s.slotOpen = true)
    (hn : asIndex 4 n = none) :
    exec (.writeAirGroup n fallback period mask) s =
      .next (s.answered (.writeAirGroup n fallback period mask) .range .none) := by
  refine congrArg Host.Outcome.next (queued_of_slotOpen hs ?_)
  rw [State.writeAirGroup, hn]; rfl

/-- The record that the answer of a WRITE_AIR_GROUP carries is the one it has stored (R17). -/
theorem exec_writeAirGroup_stored {s : State} {n fallback period : Nat} {mask : TriggerMask} {g : AirId}
    (hs : s.slotOpen = true) (hn : asIndex 4 n = some g) :
    exec (.writeAirGroup n fallback period mask) s =
      .next ((s.modifyAirGroup g fun a => { a with fallback := min 20000 fallback, period := min 600 period,
                                                   mask := mask, timer := 0 }).answered
        (.writeAirGroup n fallback period mask) (okStatus (20000 < fallback || 600 < period))
        (.airGroup g (min 20000 fallback) (min 600 period) mask (s.airMembers g))) := by
  refine congrArg Host.Outcome.next (queued_of_slotOpen hs ?_)
  have members (u : State) (f : AirGroup → AirGroup) : (u.modifyAirGroup g f).airMembers g = u.airMembers g := rfl
  simp only [State.writeAirGroup, hn, State.airGroupResult, members]
  simp only [State.modifyAirGroup, Table.get_modify_self]
  rfl

theorem exec_writeCalibration_refused {s : State} {n : Nat} {c : Calibration} (hs : s.slotOpen = true)
    (hn : asRoom n = none) :
    exec (.writeCalibration n c) s = .next (s.answered (.writeCalibration n c) .range .none) := by
  refine congrArg Host.Outcome.next (queued_of_slotOpen hs ?_)
  rw [State.writeCalibration, hn]; rfl

theorem exec_writeCalibration_stored {s : State} {n : Nat} {c : Calibration} {r : RoomId} (hs : s.slotOpen = true)
    (hn : asRoom n = some r) :
    exec (.writeCalibration n c) s =
      .next ((s.modifyOce r fun o => { o with cal := clampCalibration c }).answered (.writeCalibration n c)
        (okStatus (clampCalibration c ≠ c)) (.calibration r (clampCalibration c))) := by
  refine congrArg Host.Outcome.next (queued_of_slotOpen hs ?_)
  rw [State.writeCalibration, hn]; rfl

/-! ## Wing writes -/

/-- The wing with its three parameters stored (R14). -/
def State.withWing (s : State) (gap : Nat) (b : Band) (silence : Nat) : State :=
  { s with cal := { s.cal with gap := gap }, setback := b, port := { s.port with silenceTime := silence } }

/-- Once the host has been heard, the silence timer stands at 0 under any silence time (R198). -/
theorem applyWing_hostHeard (s : State) (gap : Nat) (b : Band) (silence : Nat) :
    s.hostHeard.applyWing gap b silence = (s.withWing gap b silence).hostHeard := by
  have timer : (if silence = 0 then 0 else s.hostHeard.port.silenceTimer) = 0 := by split <;> rfl
  simp only [State.applyWing, timer]
  rfl

theorem applyWing_serving (s : State) (c : Instr) (op : HostOp) (gap : Nat) (b : Band) (silence : Nat) :
    (s.serving c op).applyWing gap b silence = (s.withWing gap b silence).serving c op := by
  have timer : (if silence = 0 then 0 else (s.serving c op).port.silenceTimer) = 0 := by split <;> rfl
  simp only [State.applyWing, timer]
  rfl

/-- What an accepted WRITE_WING answers (R14). -/
def wingStatus (gap : Nat) (b : Band) (silence : Nat) : Status :=
  okStatus (fitGap gap ≠ gap || clampBand b ≠ b || min 60 silence ≠ silence)

/-- WRITE_WING whose gap check finds nothing stores the three clamped parameters. -/
theorem writeWing_stored {s : State} {gap : Nat} {b : Band} {silence : Nat} {check : State → Nat → Option Result}
    (hb : bandOrdered (clampBand b) = true) (hcheck : check s (fitGap gap) = none) :
    s.writeWing gap b silence check =
      (s.applyWing (fitGap gap) (clampBand b) (min 60 silence), wingStatus gap b silence,
        .wing (fitGap gap) (clampBand b) (min 60 silence)) := by
  simp only [State.writeWing, hb, hcheck, wingStatus, bne, beq_eq_decide, ne_eq, decide_not, Bool.not_true,
    Bool.false_eq_true, if_false]

theorem exec_writeWing_refused {s : State} {gap : Nat} {b : Band} {silence : Nat} (hs : s.slotOpen = true)
    (hb : bandOrdered (clampBand b) = false) :
    exec (.writeWing gap b silence) s = .next (s.answered (.writeWing gap b silence) .range .none) := by
  refine congrArg Host.Outcome.next (queuedEither_refused hs ?_ rfl)
  simp [State.writeWingNow, State.writeWing, hb, State.refuse]

/-- A gap that is not raised is no store operation (R2, R14). -/
theorem becomes_writeWing {s : State} {gap : Nat} {b : Band} {silence : Nat} (hs : s.slotOpen = true)
    (hb : bandOrdered (clampBand b) = true) (hgap : fitGap gap ≤ s.cal.gap) :
    Becomes (.writeWing gap b silence) s ((s.withWing (fitGap gap) (clampBand b) (min 60 silence)).answered
      (.writeWing gap b silence) (wingStatus gap b silence) (.wing (fitGap gap) (clampBand b) (min 60 silence))) := by
  have low : ¬ s.cal.gap < fitGap gap := Nat.not_lt.2 hgap
  have act : s.hostHeard.writeWingNow gap b silence =
      .inl ((s.withWing (fitGap gap) (clampBand b) (min 60 silence)).hostHeard, wingStatus gap b silence,
        .wing (fitGap gap) (clampBand b) (min 60 silence)) := by
    rw [State.writeWingNow, if_neg (by simp [low]), writeWing_stored hb rfl, applyWing_hostHeard]
  exact becomes_of_exec (congrArg Host.Outcome.next (queuedEither_accepted hs act (okStatus_accepted _)))
    (.respond (.finish ..) ..)

theorem firstPair_serving (s : State) (c : Instr) (op : HostOp) (now : Instant) (gap : Nat)
    (l : List (Handle × Record)) : (s.serving c op).firstPair now gap l = s.firstPair now gap l := by
  induction l with
  | nil => rfl
  | cons p rest ih => rw [State.firstPair, State.firstPair, ih]; rfl

theorem gapCheck_serving (s : State) (c : Instr) (op : HostOp) (now : Instant) (gap : Nat) :
    (s.serving c op).gapCheck now gap = s.gapCheck now gap := by
  rw [State.gapCheck, firstPair_serving]; rfl

section Raised
variable {s : State} {gap : Nat} {b : Band} {silence : Nat}

/-- A raised gap makes the write a store operation (R2, R14). -/
theorem exec_writeWing_raised (hs : s.slotOpen = true) (hb : bandOrdered (clampBand b) = true)
    (hgap : s.cal.gap < fitGap gap) :
    exec (.writeWing gap b silence) s =
      .next ((s.hostHeard.storeCommand (.writeWing gap b silence) (.command (.writeWing gap b silence))).takeNext) := by
  refine congrArg Host.Outcome.next (queuedEither_operation hs ?_)
  rw [State.writeWingNow, if_pos (by simp [hb, hgap])]

theorem hostEffect_writeWing (s : State) (now : Instant) (gap : Nat) (b : Band) (silence : Nat) :
    s.hostEffect now (.command (.writeWing gap b silence)) =
      s.writeWing gap b silence (State.raisedGapCheck now) := rfl

/-- The gap check of the operation reads the records and agendas as they stood when the command came. -/
theorem raisedGapCheck_serving (hgap : s.cal.gap < fitGap gap) (c : Instr) (op : HostOp) :
    State.raisedGapCheck s.instant (s.serving c op) (fitGap gap) = s.gapCheck s.instant (fitGap gap) := by
  rw [State.raisedGapCheck, gapCheck_serving]
  exact if_pos hgap

theorem performed_writeWing_stored (hr : s.ready) (hb : bandOrdered (clampBand b) = true)
    (hgap : s.cal.gap < fitGap gap) (hcheck : s.gapCheck s.instant (fitGap gap) = none) :
    Performed (.writeWing gap b silence) s (Follows ((s.withWing (fitGap gap) (clampBand b) (min 60 silence)).answered
      (.writeWing gap b silence) (wingStatus gap b silence)
      (.wing (fitGap gap) (clampBand b) (min 60 silence)))) := by
  refine performed_of_effect (v := s.withWing (fitGap gap) (clampBand b) (min 60 silence)) hr
    (exec_writeWing_raised hr.1 hb hgap) ?_ (running_of_ready hr) (work_of_ready hr) (.finish ..)
  rw [hostEffect_writeWing, writeWing_stored hb ((raisedGapCheck_serving hgap ..).trans hcheck), applyWing_serving]

theorem performed_writeWing_conflict {x : Result} (hr : s.ready) (hb : bandOrdered (clampBand b) = true)
    (hgap : s.cal.gap < fitGap gap) (hcheck : s.gapCheck s.instant (fitGap gap) = some x) :
    Performed (.writeWing gap b silence) s (Follows (s.answered (.writeWing gap b silence) .conflict x)) := by
  refine performed_refused hr (exec_writeWing_raised hr.1 hb hgap) ?_
  simp only [hostEffect_writeWing, State.writeWing, hb, raisedGapCheck_serving hgap, hcheck, Bool.not_true,
    Bool.false_eq_true, if_false]

end Raised

/-- Settles O13: each write by its own lemmas above. -/
theorem recordsWritten : Obligations.RecordsWritten := by
  intro s hs
  refine ⟨fun n w => ⟨exec_writeProfile_refused hs, fun k p hk hp => becomes_writeProfile hs hk hp⟩,
    fun gap b silence => ⟨exec_writeWing_refused hs, becomes_writeWing hs, fun hb hgap hr =>
      ⟨performed_writeWing_stored hr hb hgap, fun x => performed_writeWing_conflict hr hb hgap⟩⟩,
    fun n fallback period mask => ⟨exec_writeAirGroup_refused hs, fun g hg => exec_writeAirGroup_stored hs hg⟩,
    fun n c => ⟨exec_writeCalibration_refused hs, fun r hr => exec_writeCalibration_stored hs hr⟩⟩

end Sys2Proof.Machine
end

section
/-! PROOFS. What a split leaves, and the writes of partition groups. -/
namespace Sys2Proof

theorem Table.set_set {n : Nat} {α : Type} (t : Table n α) (i : Fin n) (x y : α) : (t.set i x).set i y = t.set i y :=
  Table.ext_get fun j => by simp only [Table.get_set]; split <;> rfl

theorem Table.set_modify {n : Nat} {α : Type} (t : Table n α) (i : Fin n) (f : α → α) (x : α) :
    (t.modify i f).set i x = t.set i x :=
  t.set_set ..

theorem Table.mapIdx_id {n : Nat} {α : Type} (t : Table n α) : t.mapIdx (fun _ x => x) = t :=
  Table.ext_get fun i => by simp

end Sys2Proof

namespace Sys2Proof.Machine

theorem modifyRoom_modifyRoom (s : State) (r : RoomId) (f h : Room → Room) :
    (s.modifyRoom r f).modifyRoom r h = s.modifyRoom r fun x => h (f x) := by
  have once : (s.modifyRoom r f).modifyRoom r h =
      { s with rooms := (s.rooms.set r (f (s.room r))).set r (h ((s.modifyRoom r f).room r)) } := rfl
  rw [once, Table.set_set, room_modifyRoom_self]
  rfl

/-- Changing each room of a list, by a change that can be made twice, changes every room that the list names. -/
theorem foldl_modifyRoom {f : RoomId → Room → Room} (hf : ∀ m x, f m (f m x) = f m x) (l : List RoomId) (s : State) :
    l.foldl (fun t m => t.modifyRoom m (f m)) s = s.mapRooms fun m x => if m ∈ l then f m x else x := by
  induction l generalizing s with
  | nil => simp [State.mapRooms, Table.mapIdx_id]
  | cons a l ih =>
    rw [List.foldl_cons, ih]
    refine congrArg (fun t => ({ s with rooms := t } : State)) (Table.ext_get fun m => ?_)
    have changed : (s.modifyRoom a (f a)).rooms.get m = if m = a then f a (s.rooms.get a) else s.rooms.get m :=
      room_modifyRoom ..
    simp only [Table.get_mapIdx, changed, List.mem_cons]
    by_cases hm : m = a
    · subst hm; by_cases hl : m ∈ l <;> simp [hl, hf]
    · simp [hm]

/-! ## The context of a member after a split -/

theorem afterSplit_gov (c : Context) (m governor : RoomId) (gov : Option Handle) :
    (c.afterSplit m governor gov).gov = c.gov := by
  unfold Context.afterSplit; dsimp only; split <;> split <;> rfl

theorem afterSplit_service (c : Context) (m governor : RoomId) (gov : Option Handle) :
    (c.afterSplit m governor gov).service = c.service := by
  unfold Context.afterSplit; dsimp only; split <;> split <;> rfl

/-- A member that the group's governing entry governs keeps trim and overrides (R103). -/
theorem afterSplit_outputs_kept {c : Context} {gov : Option Handle} (h : c.gov = gov) (m governor : RoomId) :
    (c.afterSplit m governor gov).trim = c.trim ∧ (c.afterSplit m governor gov).overrides = c.overrides := by
  by_cases hm : m = governor <;> simp [Context.afterSplit, hm, h]

/-- A member that another entry governs loses them (R103). -/
theorem afterSplit_outputs_cleared {c : Context} {gov : Option Handle} (h : c.gov ≠ gov) (m governor : RoomId) :
    (c.afterSplit m governor gov).trim = 0 ∧ (c.afterSplit m governor gov).overrides = .fill 2 .none := by
  by_cases hm : m = governor <;> simp [Context.afterSplit, hm, h]

/-- The former governing member loses nothing (R103). -/
theorem afterSplit_governor (c : Context) (m : RoomId) : c.afterSplit m m c.gov = c := by
  simp [Context.afterSplit]

/-- Any other member loses its extend result and its pending request, and keeps its notes (R103). -/
theorem afterSplit_other {m governor : RoomId} (h : m ≠ governor) (c : Context) (gov : Option Handle) :
    (c.afterSplit m governor gov).extResult = .none ∧ (c.afterSplit m governor gov).extPending = false ∧
      (c.afterSplit m governor gov).requests = c.requests.filter RoomReq.isNote := by
  unfold Context.afterSplit; simp only [h, if_false]; split <;> simp

theorem afterSplit_twice (c : Context) (m governor : RoomId) (gov : Option Handle) :
    (c.afterSplit m governor gov).afterSplit m governor gov = c.afterSplit m governor gov := by
  unfold Context.afterSplit; dsimp only
  by_cases hm : m = governor <;> by_cases hg : c.gov = gov <;> simp [hm, hg]

/-- No request is made by a split. -/
theorem afterSplit_requests {c : Context} (h : c.requests = []) (m governor : RoomId) (gov : Option Handle) :
    (c.afterSplit m governor gov).requests = [] := by
  unfold Context.afterSplit; dsimp only
  split <;> split <;> simp [h]

/-! ## A split as one change -/

/-- A member of a MERGED group after its group is split: its share of the estimate, and its context (R103). -/
def State.splitRoom (s : State) (p : PartGroup) (m : RoomId) (x : Room) : Room :=
  { x with oce := { x.oce with est := s.splitEstimate p m }
           ctx := x.ctx.afterSplit m (s.governor p) (s.room (s.governor p)).ctx.gov }

theorem splitRoom_twice (s : State) (p : PartGroup) (m : RoomId) (x : Room) :
    s.splitRoom p m (s.splitRoom p m x) = s.splitRoom p m x := by simp [State.splitRoom, afterSplit_twice]

/-- A split changes the members' estimates and contexts, and the group's own record. -/
theorem split_eq (s : State) (g : GroupId) (p : PartGroup) (dest : GroupState) :
    s.split g p dest = (s.mapRooms fun m x => if m ∈ p.members then s.splitRoom p m x else x).modifyGroup g
      fun p => { p with state := dest, shared := .reset } := by
  rw [← foldl_modifyRoom (splitRoom_twice s p)]
  have member (t : State) (m : RoomId) :
      (t.modifyOce m fun o => { o with est := s.splitEstimate p m }).modifyCtx m
        (fun c => c.afterSplit m (s.governor p) (s.room (s.governor p)).ctx.gov) =
        t.modifyRoom m (s.splitRoom p m) := modifyRoom_modifyRoom ..
  simp only [State.split, member]

theorem room_split (s : State) (g : GroupId) (p : PartGroup) (dest : GroupState) (m : RoomId) :
    (s.split g p dest).room m = if m ∈ p.members then s.splitRoom p m (s.room m) else s.room m := by
  rw [split_eq]; exact room_mapRooms ..

theorem groups_split (s : State) (g k : GroupId) (p : PartGroup) (dest : GroupState) :
    (s.split g p dest).groups.get k =
      if k = g then (s.groups.get g).map fun p => { p with state := dest, shared := .reset } else s.groups.get k := by
  rw [split_eq]; exact Table.get_modify ..

theorem room_split_member {m : RoomId} {p : PartGroup} (h : m ∈ p.members) (s : State) (g : GroupId)
    (dest : GroupState) : (s.split g p dest).room m = s.splitRoom p m (s.room m) := by
  rw [room_split, if_pos h]

/-! ## A partition group rewritten -/

/-- The state after a partition record is replaced or removed: a MERGED group has been split first (R16). -/
def State.regrouped (s : State) (g : GroupId) (x : Option PartGroup) : State :=
  { s.splitIfMerged g with groups := s.groups.set g x }

theorem splitIfMerged_of_merged {s : State} {g : GroupId} {p : PartGroup} (hg : s.groups.get g = some p)
    (hp : p.state = .merged) : s.splitIfMerged g = s.split g p .partly := by
  simp only [State.splitIfMerged, hg, hp, if_true]

theorem splitIfMerged_of_not_merged {s : State} {g : GroupId} (h : ∀ p, s.groups.get g = some p → p.state ≠ .merged) :
    s.splitIfMerged g = s := by
  unfold State.splitIfMerged
  split
  · rename_i p hg; rw [if_neg (h p hg)]
  · rfl

/-- Whatever a split makes of the record of its group, the write replaces it. -/
theorem splitIfMerged_groups_set (s : State) (g : GroupId) (x : Option PartGroup) :
    (s.splitIfMerged g).groups.set g x = s.groups.set g x := by
  unfold State.splitIfMerged
  split
  · split
    · rw [split_eq]; exact Table.set_modify ..
    · rfl
  · rfl

theorem splitIfMerged_serving (s : State) (c : Instr) (op : HostOp) (g : GroupId) :
    (s.serving c op).splitIfMerged g = (s.splitIfMerged g).serving c op := by
  have record : (s.serving c op).groups.get g = s.groups.get g := rfl
  unfold State.splitIfMerged
  rw [record]
  cases s.groups.get g with
  | none => rfl
  | some p =>
    dsimp only
    split
    · rw [split_eq, split_eq]; rfl
    · rfl

theorem regrouped_serving (s : State) (c : Instr) (op : HostOp) (g : GroupId) (x : Option PartGroup) :
    ({ (s.serving c op).splitIfMerged g with groups := ((s.serving c op).splitIfMerged g).groups.set g x } : State) =
      (s.regrouped g x).serving c op := by
  rw [splitIfMerged_serving]
  exact congrArg (fun t => ({ (s.splitIfMerged g).serving c op with groups := t } : State))
    (splitIfMerged_groups_set s g x)

theorem RoomWork.answered {s t : State} (h : RoomWork s t) (c : Instr) (e : Status) (x : Result) :
    RoomWork (s.answered c e x) (t.answered c e x) :=
  { h with
    port := { h.port with present := rfl, silenceTimer := rfl } }

theorem RoomWork.withGroups (s : State) (t : Table 8 (Option PartGroup)) : RoomWork s { s with groups := t } :=
  ⟨rfl, rfl, rfl, rfl, rfl, rfl, rfl, rfl, rfl, rfl, rfl, rfl, rfl, rfl, rfl, rfl, .refl _, fun _ => rfl, fun _ => rfl,
   fun _ => rfl, fun _ => rfl, fun _ => rfl, fun _ => rfl, fun _ => rfl, fun _ => rfl⟩

theorem RoomWork.regrouped (s : State) (g : GroupId) (x : Option PartGroup) : RoomWork s (s.regrouped g x) :=
  (RoomWork.splitIfMerged s g).trans (.withGroups ..)

/-- A room with no request waiting keeps its whole context through what follows an effect. -/
theorem RoomKept.ctx {x y : Room} (h : RoomKept x y) (hx : x.ctx.requests = []) : y.ctx = x.ctx := by
  have waiting : y.ctx.requests = x.ctx.requests := by rw [hx]; exact List.suffix_nil.1 (hx ▸ h.requests)
  obtain ⟨-, -, -, -, service, safe, hold, gov, overrunStart, noteLost, extPending, outConfirm, trim, overrides,
    extResult, -⟩ := h
  cases hy : y.ctx
  cases hc : x.ctx
  simp_all

/-- What a partition write leaves, accepted with a record or with none (R16, R103). -/
def PartitionStored (s : State) (g : GroupId) (c : Instr) (x : Option PartGroup) (t : State) : Prop :=
  t.answeredWith c .ok (.partition g x) ∧ t.groups.get g = x ∧ (∀ k, k ≠ g → t.groups.get k = s.groups.get k) ∧
    Settles (s.answered c .ok (.partition g x)) t ∧
    Follows ((s.regrouped g x).answered c .ok (.partition g x)) t ∧
    ((∀ p, s.groups.get g = some p → p.state ≠ .merged) →
      Follows (({ s with groups := s.groups.set g x } : State).answered c .ok (.partition g x)) t) ∧
    ∀ p, s.groups.get g = some p → p.state = .merged → ∀ m ∈ p.members,
      (t.room m).oce.est = s.splitEstimate p m ∧
        (t.room m).ctx = (s.room m).ctx.afterSplit m (s.governor p) (s.room (s.governor p)).ctx.gov

theorem partitionStored_of_follows {s t : State} {g : GroupId} {c : Instr} {x : Option PartGroup} (hr : s.ready)
    (h : Follows ((s.regrouped g x).answered c .ok (.partition g x)) t) : PartitionStored s g c x t := by
  have groups : t.groups = s.groups.set g x := h.groups
  refine ⟨h.answeredWith rfl, ?_, fun k hk => ?_, ⟨_, (RoomWork.regrouped s g x).answered .., h⟩, h, fun hp => ?_,
    fun p hg hp m hm => ?_⟩
  · rw [groups, Table.get_set_self]
  · rw [groups, Table.get_set_other _ _ hk]
  · rwa [State.regrouped, splitIfMerged_of_not_merged hp] at h
  · have member : ((s.regrouped g x).answered c .ok (.partition g x)).room m = s.splitRoom p m (s.room m) := by
      rw [← room_split_member hm s g .partly, ← splitIfMerged_of_merged hg hp]; rfl
    have kept := h.rooms m
    rw [member] at kept
    exact ⟨(congrArg Estimator.est kept.oce :),
      kept.ctx (afterSplit_requests (requests_of_ready hr m) ..)⟩

theorem splitIfMerged_cal (s : State) (g : GroupId) : (s.splitIfMerged g).cal = s.cal := by
  unfold State.splitIfMerged
  split
  · split
    · rw [split_eq]; rfl
    · rfl
  · rfl

theorem performed_partition {s : State} {g : GroupId} {c : Instr} {op : HostOp} {x : Option PartGroup} (hr : s.ready)
    (hexec : exec c s = .next ((s.hostHeard.storeCommand c op).takeNext))
    (heff : (s.serving c op).hostEffect s.instant op = ((s.regrouped g x).serving c op, .ok, .partition g x)) :
    Performed c s (PartitionStored s g c x) := by
  have store : (s.regrouped g x).store = s.store := (RoomWork.regrouped s g x).store
  have cal : (s.regrouped g x).cal = s.cal := splitIfMerged_cal s g
  exact performed_of_effect hr hexec heff (by rw [store, running_of_ready hr])
    (by rw [cal, work_of_ready hr]) (partitionStored_of_follows hr (.finish ..))

/-! ## WRITE_PARTITION -/

theorem exec_writePartition {s : State} (h : s.slotOpen = true) (n : Nat) (rooms : List Nat) :
    exec (.writePartition n rooms) s = .next
      ((s.hostHeard.storeCommand (.writePartition n rooms) (.command (.writePartition n rooms))).takeNext) :=
  congrArg Host.Outcome.next (queuedOperation_of_slotOpen h)

theorem hostEffect_writePartition (s : State) (now : Instant) (n : Nat) (rooms : List Nat) :
    s.hostEffect now (.command (.writePartition n rooms)) = s.writePartition n rooms := rfl

theorem partitionChecks_serving (s : State) (c : Instr) (op : HostOp) (g : GroupId) (rooms : List Nat) :
    (s.serving c op).partitionChecks g rooms = s.partitionChecks g rooms := rfl

theorem performed_writePartition_stored {s : State} {n : Nat} {g : GroupId} {rooms : List Nat} {rs : List RoomId}
    (hr : s.ready) (hn : asIndex 8 n = some g) (hc : s.partitionChecks g rooms = .ok rs) :
    Performed (.writePartition n rooms) s (PartitionStored s g (.writePartition n rooms) (newGroup rs)) := by
  refine performed_partition hr (exec_writePartition hr.1 ..) ?_
  rw [hostEffect_writePartition]
  simp only [State.writePartition, hn, partitionChecks_serving, hc, Table.get_set_self, regrouped_serving]

theorem performed_writePartition_refused {s : State} {n : Nat} {g : GroupId} {rooms : List Nat} {e : Status}
    (hr : s.ready) (hn : asIndex 8 n = some g) (hc : s.partitionChecks g rooms = .error e) :
    Performed (.writePartition n rooms) s (Follows (s.answered (.writePartition n rooms) e .none)) := by
  refine performed_refused hr (exec_writePartition hr.1 ..) ?_
  rw [hostEffect_writePartition]
  simp only [State.writePartition, hn, partitionChecks_serving, hc, State.refuse]

theorem performed_writePartition_range {s : State} {n : Nat} (hr : s.ready) (hn : asIndex 8 n = none)
    (rooms : List Nat) :
    Performed (.writePartition n rooms) s (Follows (s.answered (.writePartition n rooms) .range .none)) := by
  refine performed_refused hr (exec_writePartition hr.1 ..) ?_
  rw [hostEffect_writePartition]
  simp only [State.writePartition, hn, State.refuse]

/-! ## DELETE_PARTITION -/

theorem exec_deletePartition {s : State} (h : s.slotOpen = true) (n : Nat) :
    exec (.deletePartition n) s = .next
      ((s.hostHeard.storeCommand (.deletePartition n) (.command (.deletePartition n))).takeNext) :=
  congrArg Host.Outcome.next (queuedOperation_of_slotOpen h)

theorem hostEffect_deletePartition (s : State) (now : Instant) (n : Nat) :
    s.hostEffect now (.command (.deletePartition n)) = s.deletePartition n := rfl

section Deletions
variable {s : State} {n : Nat} {g : GroupId} {p : PartGroup}

theorem deletePartition_of_range (hn : asIndex 8 n = none) : s.deletePartition n = s.refuse .range := by
  simp only [State.deletePartition, hn]

theorem deletePartition_of_undefined (hn : asIndex 8 n = some g) (hg : s.groups.get g = none) :
    s.deletePartition n = s.refuse .notFound := by simp only [State.deletePartition, hn, hg]

theorem deletePartition_of_groupBooked (hn : asIndex 8 n = some g) (hg : s.groups.get g = some p)
    (hb : s.groupBooked g = true) : s.deletePartition n = s.refuse .groupBooked := by
  simp only [State.deletePartition, hn, hg, hb, if_true]

theorem deletePartition_of_roomBooked (hn : asIndex 8 n = some g) (hg : s.groups.get g = some p)
    (hb : s.groupBooked g = false) (hm : p.members.any s.roomBooked = true) :
    s.deletePartition n = s.refuse .roomBooked := by
  simp only [State.deletePartition, hn, hg, hb, hm, Bool.false_eq_true, if_false, if_true]

theorem deletePartition_of_unbooked (hn : asIndex 8 n = some g) (hg : s.groups.get g = some p)
    (hb : s.groupBooked g = false) (hm : p.members.any s.roomBooked = false) :
    s.deletePartition n =
      ({ s.splitIfMerged g with groups := (s.splitIfMerged g).groups.set g none }, .ok, .partition g none) := by
  simp only [State.deletePartition, hn, hg, hb, hm, Bool.false_eq_true, if_false]

theorem performed_deletePartition_refused {e : Status} (hr : s.ready)
    (heff : (s.serving (.deletePartition n) (.command (.deletePartition n))).deletePartition n =
      (s.serving (.deletePartition n) (.command (.deletePartition n))).refuse e) :
    Performed (.deletePartition n) s (Follows (s.answered (.deletePartition n) e .none)) :=
  performed_refused hr (exec_deletePartition hr.1 n) heff

theorem performed_deletePartition_stored (hr : s.ready) (hn : asIndex 8 n = some g) (hg : s.groups.get g = some p)
    (hb : s.groupBooked g = false) (hm : p.members.any s.roomBooked = false) :
    Performed (.deletePartition n) s (PartitionStored s g (.deletePartition n) none) := by
  refine performed_partition hr (exec_deletePartition hr.1 n) ?_
  rw [hostEffect_deletePartition, deletePartition_of_unbooked (s := s.serving ..) hn hg hb hm, regrouped_serving]

end Deletions

/-! ## What a split leaves -/

/-- Beside its members, a split changes the record of its own group alone. -/
theorem split_leaves {s : State} {g : GroupId} {p : PartGroup} (dest : GroupState) (hg : s.groups.get g = some p) :
    (s.split g p dest).groups.get g = some { p with state := dest, shared := .reset } ∧
      (∀ k, k ≠ g → (s.split g p dest).groups.get k = s.groups.get k) ∧
      ∀ q, q ∉ p.members → (s.split g p dest).room q = s.room q := by
  refine ⟨?_, fun k hk => ?_, fun q hq => ?_⟩
  · rw [groups_split, if_pos rfl, hg]; rfl
  · rw [groups_split, if_neg hk]
  · rw [room_split, if_neg hq]

/-- Settles O14: the commands by their lemmas above, the split by what it leaves of a member. -/
theorem partitionWritten : Obligations.PartitionWritten := by
  refine ⟨fun s n hr hn => ⟨performed_writePartition_range hr hn, performed_deletePartition_refused hr
      (deletePartition_of_range (s := s.serving ..) hn)⟩,
    fun s n g hr hn => ⟨fun rooms rs => performed_writePartition_stored hr hn,
      fun rooms e => performed_writePartition_refused hr hn, fun hg =>
        performed_deletePartition_refused hr (deletePartition_of_undefined (s := s.serving ..) hn hg),
      fun p hg => ⟨fun hb =>
          performed_deletePartition_refused hr (deletePartition_of_groupBooked (s := s.serving ..) hn hg hb),
        fun hb hm =>
          performed_deletePartition_refused hr (deletePartition_of_roomBooked (s := s.serving ..) hn hg hb hm),
        performed_deletePartition_stored hr hn hg⟩⟩,
    fun s g p dest hg => ?_⟩
  obtain ⟨own, others, outside⟩ := split_leaves dest hg
  refine ⟨own, others, outside, fun m hm => ?_⟩
  dsimp only
  rw [room_split_member hm]
  refine ⟨rfl, rfl, afterSplit_service .., afterSplit_gov .., fun h => afterSplit_outputs_kept h ..,
    fun h => afterSplit_outputs_cleared h .., fun h => ?_, fun h => ?_⟩
  · subst h
    have same : (s.splitRoom p (s.governor p) (s.room (s.governor p))).ctx = (s.room (s.governor p)).ctx :=
      afterSplit_governor ..
    rw [same]
    exact ⟨rfl, rfl, rfl⟩
  · obtain ⟨result, pending, requests⟩ := afterSplit_other h (s.room m).ctx (s.room (s.governor p)).ctx.gov
    refine ⟨result, pending, fun q hq => List.mem_filter.1 (?_ : q ∈ (s.room m).ctx.requests.filter RoomReq.isNote)⟩
    rwa [← requests]

end Sys2Proof.Machine
end

section
/-! PROOFS. WRITE_ROOM: its checks, and the room that it enables, disables or leaves as it is. -/
namespace Sys2Proof.Machine

/-! ## The checks of WRITE_ROOM -/

theorem roomChecks_of_no_record {s : State} {r : RoomId} {w : RoomWrite} (h : roomRecOf (clampRoom w) = none) :
    s.roomChecks r w = .error .range := by simp only [State.roomChecks, h]

section Checks
variable {s : State} {r : RoomId} {w : RoomWrite} {c : RoomRec}

theorem roomChecks_of_flows (h : roomRecOf (clampRoom w) = some c)
    (hv : ¬ (c.vminUn ≤ c.vminOcc ∧ c.vminOcc ≤ c.vmax)) : s.roomChecks r w = .error .range := by
  simp only [State.roomChecks, h, if_pos hv]

theorem roomChecks_of_duplicate (h : roomRecOf (clampRoom w) = some c)
    (hv : c.vminUn ≤ c.vminOcc ∧ c.vminOcc ≤ c.vmax) (hc : c.enabled = true)
    (hq : ∃ q, q ≠ r ∧ (s.room q).cfg.enabled = true ∧ (s.room q).cfg.station = c.station) :
    s.roomChecks r w = .error .duplicateAddress := by
  obtain ⟨q, hqr, hqe, hqs⟩ := hq
  have found : (allRooms.any fun q => q != r && (s.room q).cfg.enabled && (s.room q).cfg.station == c.station) = true :=
    List.any_eq_true.2 ⟨q, List.mem_finRange q, by simp [hqr, hqe, hqs]⟩
  simp only [State.roomChecks, h, hv, hc, found]
  rfl

theorem roomChecks_of_member (h : roomRecOf (clampRoom w) = some c)
    (hv : c.vminUn ≤ c.vminOcc ∧ c.vminOcc ≤ c.vmax) (hc : c.enabled = false) (hg : (s.groupOf r).isSome = true) :
    s.roomChecks r w = .error .range := by
  simp only [State.roomChecks, h, hv, hc, hg]
  rfl

/-- A failed check refuses: its status is RANGE or DUPLICATE_ADDRESS (R3). -/
theorem accepted_of_roomChecks_error {e : Status} (h : s.roomChecks r w = .error e) : e.accepted = false := by
  unfold State.roomChecks at h
  repeat' split at h
  all_goals cases h
  all_goals rfl

/-- A record that disables its room passes the checks only outside every partition group (R3). -/
theorem groupOf_of_roomChecks_disabled (h : s.roomChecks r w = .ok c) (hc : c.enabled = false) :
    s.groupOf r = none := by
  unfold State.roomChecks at h
  repeat' split at h
  all_goals cases h
  simp_all

end Checks

/-! ## WRITE_ROOM as it arrives -/

/-- The checks read rooms and groups as they stood when the command came. -/
theorem roomChecks_hostHeard (s : State) (r : RoomId) (w : RoomWrite) :
    s.hostHeard.roomChecks r w = s.roomChecks r w := rfl

theorem exec_writeRoom_range {s : State} {n : Nat} (w : RoomWrite) (hs : s.slotOpen = true) (hn : asRoom n = none) :
    exec (.writeRoom n w) s = .next (s.answered (.writeRoom n w) .range .none) := by
  refine congrArg Host.Outcome.next (queuedEither_refused hs ?_ rfl)
  simp only [State.writeRoomNow, hn, State.refuse]

section Writes
variable {s : State} {n : Nat} {w : RoomWrite} {r : RoomId} {c : RoomRec}

theorem exec_writeRoom_refused {e : Status} (hs : s.slotOpen = true) (hn : asRoom n = some r)
    (hc : s.roomChecks r w = .error e) :
    exec (.writeRoom n w) s = .next (s.answered (.writeRoom n w) e .none) := by
  refine congrArg Host.Outcome.next (queuedEither_refused hs ?_ (accepted_of_roomChecks_error hc))
  simp only [State.writeRoomNow, hn, roomChecks_hostHeard, hc, State.refuse]

/-- A write that does not disable its room takes effect at once (R2). -/
theorem exec_writeRoom_applied (hs : s.slotOpen = true) (hn : asRoom n = some r) (hc : s.roomChecks r w = .ok c)
    (hd : s.disables r c = false) :
    exec (.writeRoom n w) s = .next (((s.hostHeard.applyRoom r c).finish s.hostHeard).respond (.writeRoom n w) false
      (okStatus (clampRoom w ≠ w)) ((s.hostHeard.applyRoom r c).roomResult r)) := by
  have keeps : s.hostHeard.disables r c = false := hd
  refine congrArg Host.Outcome.next (queuedEither_accepted hs ?_ (okStatus_accepted _))
  simp only [State.writeRoomNow, hn, roomChecks_hostHeard, hc, keeps, State.writeRoom, Bool.false_eq_true, if_false]

/-- A write that disables its room goes to the store (R2). -/
theorem exec_writeRoom_operation (hs : s.slotOpen = true) (hn : asRoom n = some r) (hc : s.roomChecks r w = .ok c)
    (hd : s.disables r c = true) :
    exec (.writeRoom n w) s =
      .next ((s.hostHeard.storeCommand (.writeRoom n w) (.command (.writeRoom n w))).takeNext) := by
  have disables : s.hostHeard.disables r c = true := hd
  refine congrArg Host.Outcome.next (queuedEither_operation hs ?_)
  simp only [State.writeRoomNow, hn, roomChecks_hostHeard, hc, disables, if_true]

theorem hostEffect_writeRoom (s : State) (now : Instant) (n : Nat) (w : RoomWrite) :
    s.hostEffect now (.command (.writeRoom n w)) = s.writeRoomStored n w := rfl

theorem disables_iff : s.disables r c = true ↔ (s.room r).cfg.enabled = true ∧ c.enabled = false := by
  simp [State.disables]

theorem applyRoom_enabled (h : (s.room r).cfg.enabled = false) (hc : c.enabled = true) :
    s.applyRoom r c = s.enableRoom r c := by simp only [State.applyRoom, h, hc]

theorem applyRoom_disabled (h : (s.room r).cfg.enabled = true) (hc : c.enabled = false) :
    s.applyRoom r c = s.disableRoom r c := by simp only [State.applyRoom, h, hc]

theorem applyRoom_rewritten (h : (s.room r).cfg.enabled = true) (hc : c.enabled = true) :
    s.applyRoom r c = s.rewriteRoom r c := by simp only [State.applyRoom, h, hc]

theorem applyRoom_stored (h : (s.room r).cfg.enabled = false) (hc : c.enabled = false) :
    s.applyRoom r c = s.modifyRoom r fun x => { x with cfg := c } := by simp only [State.applyRoom, h, hc]

/-! ## A room enabled -/

theorem room_enableRoom (s : State) (r : RoomId) (c : RoomRec) :
    ((s.enableRoom r c).room r).cfg = c ∧ ((s.enableRoom r c).room r).ctx.service = .setback ∧
      ((s.enableRoom r c).room r).ctx.safe = false ∧ ((s.enableRoom r c).room r).ctx.hold = none ∧
      ((s.enableRoom r c).room r).ctx.gov = none ∧
      ((s.enableRoom r c).room r).oce = .fresh (s.room r).oce.cal ∧
      ((s.enableRoom r c).room r).station = some (.joining c.station) := by
  rw [State.enableRoom, room_modifyRoom_self]
  exact ⟨rfl, rfl, rfl, rfl, rfl, rfl, rfl⟩

/-- The blinds of a room that is enabled are UNKNOWN, with no command (R4). -/
theorem blind_enableRoom (s : State) (r : RoomId) (c : RoomRec) (b : BlindId) :
    ((s.enableRoom r c).room r).blinds.get b = ((s.room r).blinds.get b).enabled := by
  rw [State.enableRoom, room_modifyRoom_self]
  exact Table.get_mapIdx ..

theorem exec_writeRoom_enabled (hs : s.slotOpen = true) (hn : asRoom n = some r) (hc : s.roomChecks r w = .ok c)
    (hoff : (s.room r).cfg.enabled = false) (hnew : c.enabled = true) :
    exec (.writeRoom n w) s = .next (((s.hostHeard.enableRoom r c).finish s.hostHeard).respond (.writeRoom n w) false
      (okStatus (clampRoom w ≠ w)) (.room r c (s.membership r))) := by
  have result : (s.hostHeard.enableRoom r c).roomResult r = .room r c (s.membership r) := by
    obtain ⟨cfg, -⟩ := room_enableRoom s.hostHeard r c
    rw [State.roomResult, cfg]; rfl
  rw [exec_writeRoom_applied hs hn hc (by simp [State.disables, hoff]), applyRoom_enabled (s := s.hostHeard) hoff hnew,
    result]

/-! ## A room disabled -/

theorem room_disableRoom (s : State) (r : RoomId) (c : RoomRec) :
    ((s.disableRoom r c).room r).cfg = c ∧ ((s.disableRoom r c).room r).ctx.service = .unconfigured ∧
      ((s.disableRoom r c).room r).ctx.safe = false ∧ ((s.disableRoom r c).room r).ctx.hold = none ∧
      ((s.disableRoom r c).room r).ctx.gov = none ∧ ((s.disableRoom r c).room r).agenda = [] ∧
      ((s.disableRoom r c).room r).oce = .fresh (s.room r).oce.cal ∧ ((s.disableRoom r c).room r).station = none := by
  have orphaned (t : State) : (t.orphanExchange r).room r = t.room r := rfl
  rw [State.disableRoom, orphaned, room_modifyRoom_self]
  exact ⟨rfl, rfl, rfl, rfl, rfl, rfl, rfl, rfl⟩

theorem blind_disableRoom (s : State) (r : RoomId) (c : RoomRec) (b : BlindId) :
    ((s.disableRoom r c).room r).blinds.get b =
      ((s.room r).blinds.get b).forget ((s.room r).blinds.get b).unitToken := by
  have orphaned (t : State) : (t.orphanExchange r).room r = t.room r := rfl
  rw [State.disableRoom, orphaned, room_modifyRoom_self]
  exact Table.get_mapIdx ..

theorem disableRoom_serving (s : State) (i : Instr) (op : HostOp) (r : RoomId) (c : RoomRec) :
    (s.serving i op).disableRoom r c = (s.disableRoom r c).serving i op := rfl

theorem roomResult_disableRoom (h : s.groupOf r = none) : (s.disableRoom r c).roomResult r = .room r c none := by
  have alone : (s.disableRoom r c).groupOf r = none := h
  obtain ⟨cfg, -⟩ := room_disableRoom s r c
  rw [State.roomResult, cfg, State.membership, alone]
  rfl

theorem writeRoomStored_booked (hn : asRoom n = some r) (hc : s.roomChecks r w = .ok c)
    (hd : s.disables r c = true) (hb : s.roomBooked r = true) : s.writeRoomStored n w = s.refuse .roomBooked := by
  simp only [State.writeRoomStored, hn, hc, hd, hb, Bool.and_self, if_true]

theorem writeRoomStored_disabled (hn : asRoom n = some r) (hc : s.roomChecks r w = .ok c)
    (hon : (s.room r).cfg.enabled = true) (hnew : c.enabled = false) (hb : s.roomBooked r = false) :
    s.writeRoomStored n w = (s.disableRoom r c, okStatus (clampRoom w ≠ w), .room r c none) := by
  simp only [State.writeRoomStored, hn, hc, hb, Bool.and_false, Bool.false_eq_true, if_false, State.writeRoom,
    applyRoom_disabled hon hnew, roomResult_disableRoom (groupOf_of_roomChecks_disabled hc hnew)]

theorem performed_writeRoom_booked (hr : s.ready) (hn : asRoom n = some r) (hc : s.roomChecks r w = .ok c)
    (hd : s.disables r c = true) (hb : s.roomBooked r = true) :
    Performed (.writeRoom n w) s (Follows (s.answered (.writeRoom n w) .roomBooked .none)) := by
  refine performed_refused hr (exec_writeRoom_operation hr.1 hn hc hd) ?_
  rw [hostEffect_writeRoom]
  exact writeRoomStored_booked (s := s.serving ..) hn hc hd hb

/-- An unbooked room is disabled, and the state after is the one that follows from that. -/
theorem performed_writeRoom_disabled {q : State → Prop} (hr : s.ready) (hn : asRoom n = some r)
    (hc : s.roomChecks r w = .ok c) (hon : (s.room r).cfg.enabled = true) (hnew : c.enabled = false)
    (hb : s.roomBooked r = false)
    (hq : q (((s.disableRoom r c).answered (.writeRoom n w) (okStatus (clampRoom w ≠ w)) (.room r c none)).finish
      (s.serving (.writeRoom n w) (.command (.writeRoom n w))))) : Performed (.writeRoom n w) s q := by
  have running : (s.disableRoom r c).store.running = none := (running_of_ready hr :)
  have work : (s.disableRoom r c).cal.work = [] := (work_of_ready hr :)
  refine performed_of_effect hr (exec_writeRoom_operation hr.1 hn hc (disables_iff.2 ⟨hon, hnew⟩)) ?_ running
    work hq
  rw [hostEffect_writeRoom, ← disableRoom_serving]
  exact writeRoomStored_disabled (s := s.serving ..) hn hc hon hnew hb

/-- A room that is not enabled has no demand, no floor and no grant after an effect (R125, R127). -/
theorem air_finish_disabled (h : (s.room r).cfg.enabled = false) (b : State) :
    ((s.finish b).room r).air = Demand.reset := by rw [room_finish_air, take_of_disabled h]

end Writes

/-! ## A room enabled or disabled by WRITE_ROOM -/

/-- Settles O10: what `enableRoom` makes of the room stands through what follows. -/
theorem roomEnabled : Obligations.RoomEnabled := by
  intro s n w r c hs hn hc hoff hnew status result
  have hx := exec_writeRoom_enabled hs hn hc hoff hnew
  have f : Follows ((s.enableRoom r c).answered (.writeRoom n w) status result)
      (((s.hostHeard.enableRoom r c).finish s.hostHeard).respond (.writeRoom n w) false status result) :=
    .respond (.finish ..) ..
  refine ⟨becomes_of_exec hx f, fun t ht => ?_⟩
  obtain rfl := Host.Outcome.next.inj (hx.symm.trans ht)
  have k := f.rooms r
  obtain ⟨cfg, service, safe, hold, gov, oce, station⟩ := room_enableRoom s.hostHeard r c
  refine ⟨rfl, k.cfg.trans cfg, k.service.trans service, k.safe.trans safe, k.hold.trans hold, k.gov.trans gov,
    k.oce.trans oce, k.station.trans station, fun b => ?_, fun ok => ?_⟩
  · have enabled := blind_enableRoom s.hostHeard r c b
    exact (room_finish_position (congrArg Blind.cmd enabled) s.hostHeard).trans (congrArg Blind.position enabled)
  · have left : (s.room r).station = none := by simpa using (ok.1 r).trans hoff
    have had : (s.hostHeard.room r).station = none := left
    have joined : (s.hostHeard.room r).stationState ≠ ((s.hostHeard.enableRoom r c).room r).stationState := by
      simp [Room.stationState, had, station]
    obtain ⟨changed, flag⟩ := roomChanged_of_station joined
    exact ⟨changed, flagged_respond flag ..⟩

/-- Settles O11: what `disableRoom` makes of the room stands through what follows, and a disabled room is given no air
and no blind target. -/
theorem roomDisabled : Obligations.RoomDisabled := by
  intro s n w r c hr hn hc hon hnew
  refine ⟨performed_writeRoom_booked hr hn hc (disables_iff.2 ⟨hon, hnew⟩), fun hb =>
    performed_writeRoom_disabled hr hn hc hon hnew hb ?_⟩
  have hbefore : (s.serving (.writeRoom n w) (.command (.writeRoom n w))).room r = s.room r := rfl
  generalize s.serving (.writeRoom n w) (.command (.writeRoom n w)) = before at hbefore ⊢
  obtain ⟨cfg, service, safe, hold, gov, agenda, oce, station⟩ := room_disableRoom s r c
  generalize hu : (s.disableRoom r c).answered _ _ _ = u
  have room : u.room r = (s.disableRoom r c).room r := by rw [← hu]; rfl
  rw [← room] at cfg service safe hold gov agenda oce station
  have off : (u.room r).cfg.enabled = false := by rw [cfg, hnew]
  have f : Follows u (u.finish before) := .finish ..
  have k := f.rooms r
  have air := air_finish_disabled off before
  refine ⟨f, f.answeredWith (by rw [← hu]; rfl), k.cfg.trans cfg, k.service.trans service, k.safe.trans safe,
    k.hold.trans hold, k.gov.trans gov, k.agenda.trans agenda, k.oce.trans oce, k.station.trans station, ?_, ?_, ?_,
    fun b => ?_, fun ok => ?_⟩
  · rw [air]; rfl
  · rw [air]; rfl
  · rw [air]; rfl
  · rw [room_finish_blind_disabled off, room, blind_disableRoom]
    exact ⟨rfl, rfl⟩
  · have had : (s.room r).station.isSome = true := (ok.1 r).trans hon
    have lost : (before.room r).stationState ≠ (u.room r).stationState := by
      obtain ⟨st, hst⟩ := Option.isSome_iff_exists.1 had
      simp [Room.stationState, hbefore, station, hst]
    exact (roomChanged_of_station lost).1

end Sys2Proof.Machine
end

section
/-! PROOFS. WRITE_ROOM of a room that stays enabled: what its steps leave of the room and of its group's members. -/
namespace Sys2Proof.Machine

/-! ## Moves of the service machine -/

/-- Every partition group and every estimator record is as it was. -/
structure EstimatesKept (s t : State) : Prop where
  groups : t.groups = s.groups
  oce : ∀ r, (t.room r).oce = (s.room r).oce

theorem EstimatesKept.refl (s : State) : EstimatesKept s s := ⟨rfl, fun _ => rfl⟩

theorem EstimatesKept.trans {s t u : State} (a : EstimatesKept s t) (b : EstimatesKept t u) : EstimatesKept s u :=
  ⟨b.groups.trans a.groups, fun r => (b.oce r).trans (a.oce r)⟩

theorem EstimatesKept.foldl {α : Type} {f : State → α → State} (h : ∀ s a, EstimatesKept s (f s a)) (l : List α)
    (s : State) : EstimatesKept s (l.foldl f s) := by
  induction l generalizing s with
  | nil => exact .refl s
  | cons a l ih => exact (h s a).trans (ih _)

theorem EstimatesKept.modifyCtx (s : State) (r : RoomId) (f : Context → Context) : EstimatesKept s (s.modifyCtx r f) :=
  ⟨rfl, fun q => by unfold State.modifyCtx; rw [room_modifyRoom]; split <;> simp_all⟩

theorem EstimatesKept.mapAgendas (s : State) (f : RoomId → List Entry → List Entry) :
    EstimatesKept s (s.mapAgendas f) := ⟨rfl, fun q => by simp [State.mapAgendas]⟩

theorem EstimatesKept.postWork (s : State) (w : CalWork) : EstimatesKept s (s.postWork w) := ⟨rfl, fun _ => rfl⟩

theorem EstimatesKept.moveCtx (s : State) (r : RoomId) (f : Context → Context) : EstimatesKept s (s.moveCtx r f) :=
  (EstimatesKept.modifyCtx s r f).trans ⟨rfl, fun q => by unfold State.moveCtx; rw [room_afterMove]; split <;> rfl⟩

theorem EstimatesKept.sendConfirm (s : State) (r : RoomId) : EstimatesKept s (s.sendConfirm r) := by
  unfold State.sendConfirm; dsimp only; split
  · exact (EstimatesKept.modifyCtx ..).trans (.postWork ..)
  · exact .refl s

theorem EstimatesKept.confirmIfStarted (s : State) (r : RoomId) : EstimatesKept s (s.confirmIfStarted r) := by
  unfold State.confirmIfStarted; split
  · split
    · exact .sendConfirm ..
    · exact .refl s
  · exact .refl s

theorem EstimatesKept.precondOr (s : State) (r : RoomId) (v : Service) : EstimatesKept s (s.precondOr r v) := by
  unfold State.precondOr; split <;> exact .moveCtx ..

theorem EstimatesKept.presenceMoved (s : State) (r : RoomId) (a b : Presence) :
    EstimatesKept s (s.presenceMoved r a b) := by
  have started (v : Service) : EstimatesKept s ((s.moveService r v).confirmIfStarted r) :=
    (EstimatesKept.moveCtx ..).trans (.confirmIfStarted ..)
  have service (v : Service) (h : Option Handle) : EstimatesKept s (s.setService r v h) := .moveCtx ..
  unfold State.presenceMoved; dsimp only
  split
  · split <;> [exact service ..; exact .refl s]
  · split <;> [exact service ..; exact .refl s]
  · split <;> [exact started _; exact .refl s]
  · split <;> [exact .moveCtx ..; exact .refl s]
  · split <;> [exact started _; exact .refl s]
  · split <;> [exact .precondOr ..; exact .refl s]
  · exact .refl s
  · exact .refl s

/-! ## What becomes of partition groups and door baselines -/

/-- Every partition group keeps its members, and every room its door baselines. -/
structure MembersKept (s t : State) : Prop where
  members : ∀ g, (t.groups.get g).map PartGroup.members = (s.groups.get g).map PartGroup.members
  entriesBase : ∀ r, (t.room r).oce.entriesBase = (s.room r).oce.entriesBase
  exitsBase : ∀ r, (t.room r).oce.exitsBase = (s.room r).oce.exitsBase

theorem MembersKept.refl (s : State) : MembersKept s s := ⟨fun _ => rfl, fun _ => rfl, fun _ => rfl⟩

theorem MembersKept.trans {s t u : State} (a : MembersKept s t) (b : MembersKept t u) : MembersKept s u :=
  ⟨fun g => (b.members g).trans (a.members g), fun r => (b.entriesBase r).trans (a.entriesBase r),
   fun r => (b.exitsBase r).trans (a.exitsBase r)⟩

theorem EstimatesKept.membersKept {s t : State} (h : EstimatesKept s t) : MembersKept s t :=
  ⟨fun g => by rw [h.groups], fun r => by rw [h.oce], fun r => by rw [h.oce]⟩

theorem MembersKept.foldl {α : Type} {f : State → α → State} (h : ∀ s a, MembersKept s (f s a)) (l : List α)
    (s : State) : MembersKept s (l.foldl f s) := by
  induction l generalizing s with
  | nil => exact .refl s
  | cons a l ih => exact (h s a).trans (ih _)

theorem MembersKept.modifyOce (s : State) (r : RoomId) {f : Estimator → Estimator}
    (h : ∀ o, (f o).entriesBase = o.entriesBase ∧ (f o).exitsBase = o.exitsBase) :
    MembersKept s (s.modifyOce r f) := by
  refine ⟨fun _ => rfl, fun q => ?_, fun q => ?_⟩ <;> unfold State.modifyOce <;> rw [room_modifyRoom] <;> split <;>
    simp_all

theorem MembersKept.modifyGroup (s : State) (g : GroupId) {f : PartGroup → PartGroup}
    (h : ∀ p, (f p).members = p.members) : MembersKept s (s.modifyGroup g f) := by
  refine ⟨fun k => ?_, fun _ => rfl, fun _ => rfl⟩
  have record : (s.modifyGroup g f).groups.get k = if k = g then (s.groups.get g).map f else s.groups.get k :=
    Table.get_modify ..
  rw [record]
  split
  · subst_vars; rw [Option.map_map]; exact congrArg (Option.map · _) (funext h)
  · rfl

theorem members_modifyContact (p : PartGroup) (r : RoomId) (f : Contact → Contact) :
    (p.modifyContact r f).members = p.members := by
  have rooms (o : RoomId × Contact) : (if o.1 = r then (o.1, f o.2) else o).1 = o.1 := by split <;> rfl
  simp [PartGroup.modifyContact, PartGroup.members, Function.comp_def, rooms]

theorem MembersKept.merge (s : State) (g : GroupId) (p : PartGroup) : MembersKept s (s.merge g p) := by
  have drop (u : State) : MembersKept u (p.members.foldl (fun t m => t.modifyOce m fun o =>
      { o with est := { Estimate.reset with frozenAt := o.est.frozenAt } }) u) := by
    apply MembersKept.foldl
    intro t m
    exact .modifyOce t m fun _ => ⟨rfl, rfl⟩
  unfold State.merge; dsimp only
  refine MembersKept.trans ?_ (.modifyGroup _ _ fun _ => rfl)
  refine MembersKept.trans ?_ (EstimatesKept.foldl (fun _ _ => .modifyCtx ..) ..).membersKept
  exact (EstimatesKept.foldl (fun t (w : RoomId × Presence) => .presenceMoved t w.1 w.2 _) ..).membersKept.trans
    (drop _)

theorem MembersKept.split (s : State) (g : GroupId) (p : PartGroup) (dest : GroupState) :
    MembersKept s (s.split g p dest) := by
  have rooms : MembersKept s (s.mapRooms fun m x => if m ∈ p.members then s.splitRoom p m x else x) := by
    refine ⟨fun _ => rfl, fun r => ?_, fun r => ?_⟩ <;> rw [room_mapRooms] <;> split <;> rfl
  rw [split_eq]
  refine rooms.trans ?_
  exact .modifyGroup _ g fun _ => rfl

theorem MembersKept.evaluateGroup (s : State) (g : GroupId) : MembersKept s (s.evaluateGroup g) := by
  unfold State.evaluateGroup; dsimp only
  split
  · exact .refl s
  · split
    · exact .refl s
    · split
      · exact .merge ..
      · split
        · exact .split ..
        · exact .modifyGroup _ _ fun _ => rfl

/-- A room's partition membership is told by the members of every group. -/
theorem membership_of_members {s t : State}
    (h : ∀ g, (t.groups.get g).map PartGroup.members = (s.groups.get g).map PartGroup.members) (r : RoomId) :
    t.membership r = s.membership r := by
  have told (u : State) (r : RoomId) : u.membership r = (List.finRange 8).findSome? fun g =>
      match (u.groups.get g).map PartGroup.members with
      | some ms => if ms.contains r then some (g, ms.head? == some r) else none
      | none => none := by
    rw [State.membership, State.groupOf, List.map_findSome?]
    refine congrArg (List.findSome? · _) (funext fun g => ?_)
    rw [Function.comp_apply]
    cases u.groups.get g with
    | none => rfl
    | some p => dsimp only [Option.map_some]; split <;> simp [PartGroup.members]
  rw [told, told]
  simp only [h]

/-! ## A room that leaves SAFE or is readdressed -/

theorem EstimatesKept.offerSafeChanged (s : State) : EstimatesKept s (s.offerWork .safeChanged) := by
  unfold State.offerWork; split
  · unfold State.postWorkOnce; split
    · exact .refl s
    · exact .postWork ..
  · exact .mapAgendas ..

theorem MembersKept.thawRoom (s : State) (r : RoomId) : MembersKept s (s.thawRoom r) := by
  have f : MembersKept s (s.modifyOce r fun o => { o with est := o.est.resume s.oceNow }) :=
    .modifyOce s r fun o => by unfold Estimate.resume; split <;> exact ⟨rfl, rfl⟩
  unfold State.thawRoom; dsimp only; split
  · exact f.trans (.modifyGroup _ _ fun _ => rfl)
  · exact f

theorem MembersKept.leaveSafe (s : State) (r : RoomId) : MembersKept s (s.leaveSafe r) := by
  unfold State.leaveSafe; split
  · exact (EstimatesKept.modifyCtx ..).membersKept.trans
      ((MembersKept.thawRoom ..).trans (EstimatesKept.offerSafeChanged _).membersKept)
  · exact .refl s

/-- Leaving SAFE touches neither record, demand nor blinds of the room, and leaves it not SAFE (R85). -/
theorem room_leaveSafe (s : State) (r : RoomId) :
    ((s.leaveSafe r).room r).cfg = (s.room r).cfg ∧ ((s.leaveSafe r).room r).air = (s.room r).air ∧
      ((s.leaveSafe r).room r).blinds = (s.room r).blinds ∧ ((s.leaveSafe r).room r).ctx.safe = false := by
  unfold State.leaveSafe
  split
  · have w := (RoomWork.thawRoom (s.modifyCtx r fun c => { c with safe := false }) r).trans (.offerWork _ .safeChanged)
    rw [w.cfg, w.air, w.blinds, w.safe, State.modifyCtx, room_modifyRoom_self]
    exact ⟨rfl, rfl, rfl, rfl⟩
  · rename_i h
    exact ⟨rfl, rfl, rfl, by simpa using h⟩

/-- The room unit of a readdressed room forgotten: station, door baselines and blinds start afresh (R6, R169). -/
def State.replaceUnit (s : State) (r : RoomId) (address : Nat) : State :=
  ((s.leaveSafe r).modifyRoom r fun x =>
    { x with oce := x.oce.unbase, blinds := x.blinds.mapIdx fun _ b => b.forget none,
             station := some (.joining address) }).orphanExchange r

/-- What a change of address does after that concerns the room's contact and its group (R95). -/
theorem readdress_after (s : State) (r : RoomId) (address : Nat) :
    RoomWork (s.replaceUnit r address) (s.readdress r address) ∧
      MembersKept (s.replaceUnit r address) (s.readdress r address) := by
  have fresh (t : State) (g : GroupId) :
      MembersKept t (t.modifyGroup g fun p => p.modifyContact r fun _ => .fresh) :=
    .modifyGroup _ _ fun p => members_modifyContact p r _
  unfold State.readdress State.replaceUnit; dsimp only
  split
  · split
    · split
      · exact ⟨.modifyGroup .., fresh ..⟩
      · exact ⟨(RoomWork.modifyGroup ..).trans (.evaluateGroup ..), (fresh ..).trans (.evaluateGroup ..)⟩
    · exact ⟨.refl _, .refl _⟩
  · exact ⟨.refl _, .refl _⟩

theorem room_replaceUnit (s : State) (r : RoomId) (address : Nat) :
    (s.replaceUnit r address).room r =
      { (s.leaveSafe r).room r with
        oce := ((s.leaveSafe r).room r).oce.unbase
        blinds := ((s.leaveSafe r).room r).blinds.mapIdx fun _ b => b.forget none
        station := some (.joining address) } := by
  have orphaned (t : State) : (t.orphanExchange r).room r = t.room r := rfl
  rw [State.replaceUnit, orphaned, room_modifyRoom_self]

/-- What a change of address leaves of its room: the record and the demand; and what it makes of it: a fresh station,
no SAFE overlay, no door baselines, blinds forgotten (R6). -/
structure Readdressed (x y : Room) (address : Nat) : Prop where
  cfg : y.cfg = x.cfg
  air : y.air = x.air
  station : y.station = some (.joining address)
  safe : y.ctx.safe = false
  entriesBase : y.oce.entriesBase = none
  exitsBase : y.oce.exitsBase = none
  blind : ∀ b, y.blinds.get b = (x.blinds.get b).forget none

theorem readdressed (s : State) (r : RoomId) (address : Nat) :
    Readdressed (s.room r) ((s.readdress r address).room r) address := by
  obtain ⟨w, m⟩ := readdress_after s r address
  obtain ⟨cfg, air, blinds, safe⟩ := room_leaveSafe s r
  have x := room_replaceUnit s r address
  refine ⟨?_, ?_, ?_, ?_, ?_, ?_, fun b => ?_⟩
  · rw [w.cfg, x, ← cfg]
  · rw [w.air, x, ← air]
  · rw [w.station, x]
  · rw [w.safe, x, ← safe]
  · rw [m.entriesBase, x]; rfl
  · rw [m.exitsBase, x]; rfl
  · rw [w.blinds, x, ← blinds]; exact Table.get_mapIdx ..

theorem membersKept_readdress (s : State) (r : RoomId) (address : Nat) (g : GroupId) :
    ((s.readdress r address).groups.get g).map PartGroup.members = (s.groups.get g).map PartGroup.members :=
  ((readdress_after s r address).2.members g).trans ((MembersKept.leaveSafe s r).members g)

/-! ## The rest of a rewrite -/

/-- The estimator record of a room whose occupancy fields are written (R7). -/
def refitted (o : Estimator) (limit : Nat) (turnedOff : Bool) : Estimator :=
  if turnedOff then { o.unbase with est := { o.est with tally := 0 } }
  else { o with est := { o.est with tally := min limit o.est.tally } }

/-- The room's own estimate is refitted first, and then the tally of its MERGED group (R7). -/
theorem refitTally_after (s : State) (r : RoomId) (turnedOff : Bool) :
    ∃ t, s.refitTally r turnedOff =
        { s.modifyOce r (refitted · (s.room r).cfg.tallyLimit turnedOff) with groups := t } ∧
      ∀ g, (t.get g).map PartGroup.members = (s.groups.get g).map PartGroup.members := by
  have own : (if turnedOff then s.modifyOce r fun o => { o.unbase with est := { o.est with tally := 0 } }
      else s.modifyOce r fun o => { o with est := { o.est with tally := min (s.room r).cfg.tallyLimit o.est.tally } }) =
      s.modifyOce r (refitted · (s.room r).cfg.tallyLimit turnedOff) := by
    cases turnedOff <;> rfl
  unfold State.refitTally
  dsimp only
  rw [own]
  split
  · exact ⟨_, rfl, (MembersKept.modifyGroup (s.modifyOce r _) _ (by intro p; rfl)).members⟩
  · exact ⟨_, rfl, fun _ => rfl⟩

theorem room_refitTally (s : State) (r : RoomId) (turnedOff : Bool) :
    (s.refitTally r turnedOff).room r =
      { s.room r with oce := refitted (s.room r).oce (s.room r).cfg.tallyLimit turnedOff } := by
  obtain ⟨t, h, -⟩ := refitTally_after s r turnedOff
  rw [h]
  exact room_modifyRoom_self s r fun x => { x with oce := refitted x.oce (s.room r).cfg.tallyLimit turnedOff }

theorem members_refitTally (s : State) (r : RoomId) (turnedOff : Bool) (g : GroupId) :
    ((s.refitTally r turnedOff).groups.get g).map PartGroup.members = (s.groups.get g).map PartGroup.members := by
  obtain ⟨t, h, members⟩ := refitTally_after s r turnedOff
  rw [h]
  exact members g

/-- Door baselines that are unset stay unset. -/
theorem refitted_unset {o : Estimator} (he : o.entriesBase = none) (hx : o.exitsBase = none) (limit : Nat)
    (turnedOff : Bool) :
    (refitted o limit turnedOff).entriesBase = none ∧ (refitted o limit turnedOff).exitsBase = none := by
  cases turnedOff
  · exact ⟨he, hx⟩
  · exact ⟨rfl, rfl⟩

/-- A room that changes its air group has grant 0 there until a pass (R8, R133). -/
theorem room_moveAirGroup (s : State) (r : RoomId) (old new : Option AirId) :
    (s.moveAirGroup r old new).room r =
      { s.room r with air := { (s.room r).air with
        grant := if old = new then (s.room r).air.grant else 0 } } := by
  unfold State.moveAirGroup
  split
  · rfl
  · cases old <;> cases new <;> exact room_modifyRoom_self s r fun x => { x with air := { x.air with grant := 0 } }

theorem groups_moveAirGroup (s : State) (r : RoomId) (old new : Option AirId) :
    (s.moveAirGroup r old new).groups = s.groups := by
  unfold State.moveAirGroup
  split
  · rfl
  · cases old <;> cases new <;> rfl

theorem room_resizeBlinds (s : State) (r : RoomId) (old new : Nat) :
    (s.resizeBlinds r old new).room r =
      { s.room r with blinds := (s.room r).blinds.mapIdx fun b y =>
          if (b.val < old) = (b.val < new) then y else y.forget y.unitToken } := room_modifyRoom_self ..

/-- A blind group that is already forgotten is left so by a changed count. -/
theorem blind_resizeBlinds_forgotten {s : State} {r : RoomId} {b : BlindId} {x : Blind}
    (h : (s.room r).blinds.get b = x.forget none) (old new : Nat) :
    ((s.resizeBlinds r old new).room r).blinds.get b = x.forget none := by
  rw [room_resizeBlinds, Table.get_mapIdx, h]
  split <;> rfl

/-! ## A rewrite as a whole -/

/-- The room of a rewrite with its record stored and a changed address taken, before its tally is refitted. -/
def State.recorded (s : State) (r : RoomId) (c : RoomRec) : State :=
  let t := s.modifyRoom r fun x => { x with cfg := c }
  if (s.room r).cfg.station = c.station then t else t.readdress r c.station

theorem rewriteRoom_eq (s : State) (r : RoomId) (c : RoomRec) :
    s.rewriteRoom r c =
      (((s.recorded r c).refitTally r ((s.room r).cfg.doorCounting && !c.doorCounting)).moveAirGroup r
        (s.room r).cfg.airGroup c.airGroup).resizeBlinds r (s.room r).cfg.blindCount c.blindCount := rfl

theorem recorded_same (s : State) {r : RoomId} {c : RoomRec} (h : (s.room r).cfg.station = c.station) :
    (s.recorded r c).room r = { s.room r with cfg := c } := by
  rw [State.recorded, if_pos h]; exact room_modifyRoom_self ..

theorem recorded_moved (s : State) {r : RoomId} {c : RoomRec} (h : (s.room r).cfg.station ≠ c.station) :
    Readdressed { s.room r with cfg := c } ((s.recorded r c).room r) c.station := by
  have x : (s.modifyRoom r fun x => { x with cfg := c }).room r = { s.room r with cfg := c } := room_modifyRoom_self ..
  rw [State.recorded, if_neg h, ← x]
  exact readdressed ..

/-- The room after a rewrite, from the room with its record stored and its address taken. -/
theorem room_rewriteRoom (s : State) (r : RoomId) (c : RoomRec) :
    let x := (s.recorded r c).room r
    let y := (s.rewriteRoom r c).room r
    y.cfg = x.cfg ∧ y.ctx = x.ctx ∧ y.agenda = x.agenda ∧ y.station = x.station ∧
      y.oce = refitted x.oce x.cfg.tallyLimit ((s.room r).cfg.doorCounting && !c.doorCounting) ∧
      y.air.grant = if (s.room r).cfg.airGroup = c.airGroup then x.air.grant else 0 := by
  dsimp only
  rw [rewriteRoom_eq, room_resizeBlinds, room_moveAirGroup, room_refitTally]
  exact ⟨rfl, rfl, rfl, rfl, rfl, rfl⟩

theorem membership_rewriteRoom (s : State) (r q : RoomId) (c : RoomRec) :
    (s.rewriteRoom r c).membership q = s.membership q := by
  refine membership_of_members (fun g => ?_) q
  have recorded : ((s.recorded r c).groups.get g).map PartGroup.members = (s.groups.get g).map PartGroup.members := by
    unfold State.recorded; dsimp only; split
    · rfl
    · exact membersKept_readdress ..
  have resized (t : State) (a b : Nat) : (t.resizeBlinds r a b).groups = t.groups := rfl
  rw [rewriteRoom_eq, resized, groups_moveAirGroup, members_refitTally, recorded]

theorem cfg_rewriteRoom (s : State) (r : RoomId) (c : RoomRec) : ((s.rewriteRoom r c).room r).cfg = c := by
  obtain ⟨cfg, -⟩ := room_rewriteRoom s r c
  rw [cfg]
  by_cases h : (s.room r).cfg.station = c.station
  · rw [recorded_same s h]
  · exact (recorded_moved s h).cfg

/-- The grant a rewrite leaves: the one held, or 0 in a group that the room joins (R8). -/
theorem grant_rewriteRoom (s : State) (r : RoomId) (c : RoomRec) :
    ((s.rewriteRoom r c).room r).air.grant =
      if (s.room r).cfg.airGroup = c.airGroup then (s.room r).air.grant else 0 := by
  have held : ((s.recorded r c).room r).air = (s.room r).air := by
    by_cases h : (s.room r).cfg.station = c.station
    · rw [recorded_same s h]
    · exact (recorded_moved s h).air
  obtain ⟨-, -, -, -, -, grant⟩ := room_rewriteRoom s r c
  rw [grant, held]

/-- After a change of address every blind group is forgotten, whatever its count becomes (R6, R169). -/
theorem blind_rewriteRoom_moved (s : State) {r : RoomId} {c : RoomRec} (h : (s.room r).cfg.station ≠ c.station)
    (b : BlindId) : ((s.rewriteRoom r c).room r).blinds.get b = ((s.room r).blinds.get b).forget none := by
  rw [rewriteRoom_eq]
  refine blind_resizeBlinds_forgotten ?_ ..
  rw [room_moveAirGroup, room_refitTally]
  exact (recorded_moved s h).blind b

section Rewrites
variable {s : State} {n : Nat} {w : RoomWrite} {r : RoomId} {c : RoomRec}

theorem exec_writeRoom_rewritten (hs : s.slotOpen = true) (hn : asRoom n = some r) (hc : s.roomChecks r w = .ok c)
    (hon : (s.room r).cfg.enabled = true) (hnew : c.enabled = true) :
    exec (.writeRoom n w) s = .next (((s.hostHeard.rewriteRoom r c).finish s.hostHeard).respond (.writeRoom n w) false
      (okStatus (clampRoom w ≠ w)) (.room r c (s.membership r))) := by
  have result : (s.hostHeard.rewriteRoom r c).roomResult r = .room r c (s.membership r) := by
    rw [State.roomResult, cfg_rewriteRoom, membership_rewriteRoom]; rfl
  rw [exec_writeRoom_applied hs hn hc (by simp [State.disables, hnew]),
    applyRoom_rewritten (s := s.hostHeard) hon hnew, result]

theorem becomes_writeRoom_stored (hs : s.slotOpen = true) (hn : asRoom n = some r) (hc : s.roomChecks r w = .ok c)
    (hoff : (s.room r).cfg.enabled = false) (hnew : c.enabled = false) :
    Becomes (.writeRoom n w) s ((s.modifyRoom r fun x => { x with cfg := c }).answered (.writeRoom n w)
      (okStatus (clampRoom w ≠ w)) (.room r c (s.membership r))) := by
  have result : (s.hostHeard.modifyRoom r fun x => { x with cfg := c }).roomResult r = .room r c (s.membership r) := by
    rw [State.roomResult, room_modifyRoom_self]; rfl
  have hx := exec_writeRoom_applied hs hn hc (by simp [State.disables, hoff])
  rw [applyRoom_stored (s := s.hostHeard) hoff hnew, result] at hx
  exact becomes_of_exec hx (.respond (.finish ..) ..)

/-- The grant of an enabled room after an effect: in no air group it is the demand, and in a group the one held
(R126, R133). -/
theorem grant_finish (u b : State) {r : RoomId} (h : (u.room r).cfg.enabled = true) :
    ((u.room r).cfg.airGroup = none → ((u.finish b).room r).air.grant = ((u.finish b).room r).air.d) ∧
      ((u.room r).cfg.airGroup ≠ none → ((u.finish b).room r).air.grant = (u.room r).air.grant) := by
  rw [room_finish_air]
  constructor <;> intro hg <;> simp [Demand.take, h, hg]

end Rewrites

/-- Settles O12: a rewrite by what it makes of the room, the rest by the checks in their order. -/
theorem roomStored : Obligations.RoomStored := by
  refine ⟨fun s n w r c hs hn hc hon hnew => ?_, fun s n w hs => ⟨exec_writeRoom_range w hs, fun r hn =>
    ⟨fun e => exec_writeRoom_refused hs hn, fun c => becomes_writeRoom_stored hs hn, roomChecks_of_no_record,
      fun c h => ⟨roomChecks_of_flows h, roomChecks_of_duplicate h, roomChecks_of_member h⟩⟩⟩⟩
  intro status result
  have hx := exec_writeRoom_rewritten hs hn hc hon hnew
  have f : Follows ((s.hostHeard.rewriteRoom r c).respond (.writeRoom n w) false status result)
      (((s.hostHeard.rewriteRoom r c).finish s.hostHeard).respond (.writeRoom n w) false status result) :=
    .respond (.finish ..) ..
  refine ⟨becomes_of_exec hx f, fun t ht => ?_⟩
  obtain rfl := Host.Outcome.next.inj (hx.symm.trans ht)
  have k := f.rooms r
  have cfg := cfg_rewriteRoom s.hostHeard r c
  have grant := grant_finish (s.hostHeard.rewriteRoom r c) s.hostHeard (r := r) (by rw [cfg, hnew])
  obtain ⟨-, ctx, agenda, station, oce, -⟩ := room_rewriteRoom s.hostHeard r c
  rw [cfg, grant_rewriteRoom] at grant
  refine ⟨rfl, k.cfg.trans cfg, fun same => ?_, fun moved => ?_, grant.1, grant.2⟩
  · have x := recorded_same s.hostHeard same
    rw [x] at ctx agenda station
    exact ⟨k.station.trans station, k.agenda.trans agenda, k.service.trans (congrArg Context.service ctx),
      k.safe.trans (congrArg Context.safe ctx)⟩
  · have x := recorded_moved s.hostHeard moved
    have bases := refitted_unset x.entriesBase x.exitsBase
    have blind := blind_rewriteRoom_moved s.hostHeard moved
    refine ⟨k.station.trans (station.trans x.station), k.safe.trans ((congrArg Context.safe ctx).trans x.safe), ?_, ?_,
      fun b => ?_⟩
    · exact (congrArg Estimator.entriesBase (k.oce.trans oce)).trans (bases ..).1
    · exact (congrArg Estimator.exitsBase (k.oce.trans oce)).trans (bases ..).2
    · exact (room_finish_position (congrArg Blind.cmd (blind b)) s.hostHeard).trans
        (congrArg Blind.position (blind b))

end Sys2Proof.Machine
end

section
/-! PROOFS. Which commands and events leave every slot of the Booking Store as it is (R18, R19). -/
namespace Sys2Proof.Machine

/-! ## Slots that stay as they are -/

/-- Every slot of the store is as it was. -/
structure SlotsKept (s t : State) : Prop where
  slots : t.store.slots = s.store.slots

theorem SlotsKept.refl (s : State) : SlotsKept s s := ⟨rfl⟩

theorem SlotsKept.trans {s t u : State} (a : SlotsKept s t) (b : SlotsKept t u) : SlotsKept s u :=
  ⟨b.slots.trans a.slots⟩

theorem SlotsKept.foldl {α : Type} {f : State → α → State} (h : ∀ s a, SlotsKept s (f s a)) (l : List α) (s : State) :
    SlotsKept s (l.foldl f s) := by
  induction l generalizing s with
  | nil => exact .refl s
  | cons a l ih => exact (h s a).trans (ih _)

theorem RoomWork.slotsKept {s t : State} (h : RoomWork s t) : SlotsKept s t := ⟨congrArg Store.slots h.store⟩

theorem Follows.slotsKept {s t : State} (h : Follows s t) : SlotsKept s t := ⟨h.slots⟩

theorem SlotsKept.finish {s t : State} (h : SlotsKept s t) (b : State) : SlotsKept s (t.finish b) :=
  h.trans (Follows.finish t b).slotsKept

theorem SlotsKept.completeCommand (s : State) (e : Status) (x : Result) : SlotsKept s (s.completeCommand e x) :=
  (RoomWork.completeCommand s e x).slotsKept

/-! ### Commands as they arrive -/

theorem SlotsKept.arrive {act : State → State} (h : ∀ t, SlotsKept t (act t)) (s : State) :
    SlotsKept s (s.arrive act) := by
  unfold State.arrive; split
  · exact ⟨rfl⟩
  · exact h s

theorem SlotsKept.hostHeard_arrive {act : State → State} (h : ∀ t, SlotsKept t (act t)) (s : State) :
    SlotsKept s (s.hostHeard.arrive act) := ⟨(SlotsKept.arrive h s.hostHeard).slots⟩

theorem SlotsKept.queued {act : State → State × Status × Result} (h : ∀ t, SlotsKept t (act t).1) (s : State)
    (c : Instr) : SlotsKept s (s.queued c act) := by
  unfold State.queued
  refine .hostHeard_arrive (fun t => ?_) s
  exact (h t).trans ⟨rfl⟩

theorem SlotsKept.queuedRead (s : State) (c : Instr) (answer : State → Status × Result) :
    SlotsKept s (s.queuedRead c answer) := .queued (fun t => .refl t) s c

theorem SlotsKept.queuedTouching {act : State → State × Status × Result} (h : ∀ t, SlotsKept t (act t).1) (s : State)
    (c : Instr) (touched : RoomId → Bool) : SlotsKept s (s.queuedTouching c touched act) := by
  refine .queued (fun t => ?_) s c
  change SlotsKept t (if (act t).2.1.accepted then (act t).1.finishWith t touched else (act t).1)
  split
  · exact (h t).trans (Follows.finishWith ..).slotsKept
  · exact h t

theorem SlotsKept.queuedEffect {act : State → State × Status × Result} (h : ∀ t, SlotsKept t (act t).1) (s : State)
    (c : Instr) : SlotsKept s (s.queuedEffect c act) := .queuedTouching h s c _

theorem SlotsKept.queuedOperation (s : State) (c : Instr) (op : HostOp) : SlotsKept s (s.queuedOperation c op) :=
  .hostHeard_arrive (fun t => ⟨(Follows.takeNext (t.storeCommand c op)).slots⟩) s

theorem SlotsKept.queuedEither {act : State → (State × Status × Result) ⊕ HostOp}
    (h : ∀ t a, act t = .inl a → SlotsKept t a.1) (s : State) (c : Instr) : SlotsKept s (s.queuedEither c act) := by
  refine .hostHeard_arrive (fun t => ?_) s
  split
  · rename_i u e x ha
    have kept : SlotsKept t u := h t _ ha
    split
    · exact ⟨(kept.finish t).slots⟩
    · exact ⟨kept.slots⟩
  · exact ⟨(Follows.takeNext (t.storeCommand c _)).slots⟩

/-! ### Configuration -/

theorem SlotsKept.leaveSafe (s : State) (r : RoomId) : SlotsKept s (s.leaveSafe r) := by
  unfold State.leaveSafe; split
  · exact ⟨((RoomWork.thawRoom ..).trans (.offerWork ..)).slotsKept.slots⟩
  · exact .refl s

theorem SlotsKept.readdress (s : State) (r : RoomId) (address : Nat) : SlotsKept s (s.readdress r address) := by
  obtain ⟨work, -⟩ := readdress_after s r address
  exact ⟨work.slotsKept.slots.trans (SlotsKept.leaveSafe s r).slots⟩

theorem SlotsKept.refitTally (s : State) (r : RoomId) (off : Bool) : SlotsKept s (s.refitTally r off) := by
  have own : SlotsKept s (if off then
      s.modifyOce r fun o => { o.unbase with est := { o.est with tally := 0 } }
    else s.modifyOce r fun o =>
      { o with est := { o.est with tally := min (s.room r).cfg.tallyLimit o.est.tally } }) := by
    split <;> exact ⟨rfl⟩
  unfold State.refitTally; dsimp only; split
  · exact ⟨own.slots⟩
  · exact own

theorem SlotsKept.moveAirGroup (s : State) (r : RoomId) (old new : Option AirId) :
    SlotsKept s (s.moveAirGroup r old new) := by
  unfold State.moveAirGroup; dsimp only
  repeat' split
  all_goals exact ⟨rfl⟩

theorem SlotsKept.rewriteRoom (s : State) (r : RoomId) (c : RoomRec) : SlotsKept s (s.rewriteRoom r c) := by
  have recorded : SlotsKept s (s.recorded r c) := by
    unfold State.recorded; dsimp only; split
    · exact ⟨rfl⟩
    · exact ⟨(SlotsKept.readdress ..).slots⟩
  rw [rewriteRoom_eq]
  exact recorded.trans ((SlotsKept.refitTally ..).trans ((SlotsKept.moveAirGroup ..).trans ⟨rfl⟩))

theorem SlotsKept.applyRoom (s : State) (r : RoomId) (c : RoomRec) : SlotsKept s (s.applyRoom r c) := by
  unfold State.applyRoom; split
  · exact ⟨rfl⟩
  · exact ⟨rfl⟩
  · exact .rewriteRoom ..
  · exact ⟨rfl⟩

theorem SlotsKept.writeRoom (s : State) (r : RoomId) (w : RoomWrite) : SlotsKept s (s.writeRoom r w).1 := by
  unfold State.writeRoom; split
  · exact ⟨rfl⟩
  · exact .applyRoom ..

theorem SlotsKept.writeRoomStored (s : State) (n : Nat) (w : RoomWrite) : SlotsKept s (s.writeRoomStored n w).1 := by
  unfold State.writeRoomStored
  repeat' split
  all_goals first
    | exact ⟨rfl⟩
    | exact .writeRoom ..

theorem SlotsKept.writeRoomNow {s : State} {n : Nat} {w : RoomWrite} {a : Answered} (h : s.writeRoomNow n w = .inl a) :
    SlotsKept s a.1 := by
  unfold State.writeRoomNow at h
  repeat' split at h
  all_goals cases h
  · exact ⟨rfl⟩
  · exact ⟨rfl⟩
  · exact .writeRoom ..

theorem SlotsKept.writeWing (s : State) (gap : Nat) (b : Band) (silence : Nat) (check : State → Nat → Option Result) :
    SlotsKept s (s.writeWing gap b silence check).1 := by
  unfold State.writeWing; dsimp only
  repeat' split
  all_goals exact ⟨rfl⟩

theorem SlotsKept.writeWingNow {s : State} {gap silence : Nat} {b : Band} {a : Answered}
    (h : s.writeWingNow gap b silence = .inl a) : SlotsKept s a.1 := by
  unfold State.writeWingNow at h
  split at h
  · cases h
  · cases h; exact .writeWing ..

theorem SlotsKept.writePartition (s : State) (n : Nat) (rooms : List Nat) :
    SlotsKept s (s.writePartition n rooms).1 := by
  unfold State.writePartition
  repeat' split
  all_goals first
    | exact ⟨rfl⟩
    | exact ⟨(RoomWork.splitIfMerged ..).slotsKept.slots⟩

theorem SlotsKept.deletePartition (s : State) (n : Nat) : SlotsKept s (s.deletePartition n).1 := by
  unfold State.deletePartition
  repeat' split
  all_goals first
    | exact ⟨rfl⟩
    | exact ⟨(RoomWork.splitIfMerged ..).slotsKept.slots⟩

theorem SlotsKept.writeProfile (s : State) (n : Nat) (w : ProfileWrite) : SlotsKept s (s.writeProfile n w).1 := by
  unfold State.writeProfile; repeat' split
  all_goals exact ⟨rfl⟩

theorem SlotsKept.writeAirGroup (s : State) (n fallback period : Nat) (mask : TriggerMask) :
    SlotsKept s (s.writeAirGroup n fallback period mask).1 := by
  unfold State.writeAirGroup; split <;> exact ⟨rfl⟩

theorem SlotsKept.writeCalibration (s : State) (n : Nat) (c : Calibration) :
    SlotsKept s (s.writeCalibration n c).1 := by
  unfold State.writeCalibration; split <;> exact ⟨rfl⟩

/-! ### Service, air, light and loop -/

theorem SlotsKept.holdRoomNow (s : State) (n : Nat) (f : HoldFields) : SlotsKept s (s.holdRoomNow n f).1 := by
  unfold State.holdRoomNow State.holdRoom; repeat' split
  all_goals exact ⟨rfl⟩

theorem SlotsKept.releaseHoldNow (s : State) (n : Nat) : SlotsKept s (s.releaseHoldNow n).1 := by
  unfold State.releaseHoldNow State.releaseHold; repeat' split
  all_goals exact ⟨rfl⟩

theorem SlotsKept.extendNow {s : State} {n : Nat} {h : Handle} {a : Answered} (ha : s.extendNow n h = .inl a) :
    SlotsKept s a.1 := by
  unfold State.extendNow at ha
  repeat' split at ha
  all_goals cases ha
  all_goals exact ⟨rfl⟩

theorem SlotsKept.closeRoom (s : State) (r : RoomId) : SlotsKept s (s.closeRoom r) := by
  have left : RoomWork s ((s.evaluateRoom r).setService r .setback none) :=
    (RoomWork.evaluateRoom s r).trans (.setService ..)
  exact ⟨(RoomWork.offerWork (((s.evaluateRoom r).setService r .setback none).modifyCtx r Context.clearOutputs)
    (.closed r)).slotsKept.slots.trans left.slotsKept.slots⟩

theorem SlotsKept.applyOpenRange (s : State) (first last : RoomId) : SlotsKept s (s.applyOpenRange first last) := by
  unfold State.applyOpenRange; dsimp only
  refine SlotsKept.trans ?_ (RoomWork.offerWork ..).slotsKept
  refine SlotsKept.trans (t := { s with openFirst := first, openLast := last }) ⟨rfl⟩ (.foldl (fun u r => ?_) ..)
  split
  · exact (RoomWork.offerWork ..).slotsKept
  · exact .closeRoom ..

theorem SlotsKept.endOccurrence (s : State) (n : Nat) (h : Handle) :
    SlotsKept s (s.hostHeard.arrive fun t =>
      match asRoom n with
      | none => t.respond (.endOccurrence n h) false .range .none
      | some r =>
        if !(t.room r).cfg.enabled then t.respond (.endOccurrence n h) false .notEnabled .none
        else if 512 ≤ h.slot then t.respond (.endOccurrence n h) false .range .none
        else (t.takeCommand (.endOccurrence n h)).postWork (.endNow r h true)) := by
  refine .hostHeard_arrive (fun t => ?_) s
  repeat' split
  all_goals exact ⟨rfl⟩

theorem SlotsKept.setOpenRange (s : State) (first last : Nat) :
    SlotsKept s (s.hostHeard.arrive fun t =>
      match asRoom first, asRoom last with
      | some a, some b => ((t.takeCommand (.setOpenRange first last)).applyOpenRange a b).finish t
      | _, _ => t.respond (.setOpenRange first last) false .range .none) := by
  refine .hostHeard_arrive (fun t => ?_) s
  split
  · refine SlotsKept.finish ?_ t
    exact SlotsKept.trans (t := t.takeCommand (.setOpenRange first last)) ⟨rfl⟩ (.applyOpenRange ..)
  · exact ⟨rfl⟩

theorem SlotsKept.readStatus (s : State) (n : Nat) : SlotsKept s (s.readStatus n).1 := by
  unfold State.readStatus; split <;> exact ⟨rfl⟩

theorem SlotsKept.setCapacity (s : State) (n capacity : Nat) : SlotsKept s (s.setCapacity n capacity).1 := by
  unfold State.setCapacity; split <;> exact ⟨rfl⟩

theorem SlotsKept.requestAllocation (s : State) (n : Nat) : SlotsKept s (s.requestAllocation n).1 := by
  unfold State.requestAllocation; split <;> exact ⟨rfl⟩

theorem SlotsKept.sceneWindow (s : State) (f : WindowFields) : SlotsKept s (s.sceneWindow f).1 := by
  unfold State.sceneWindow; split <;> exact ⟨rfl⟩

theorem SlotsKept.takeLevel (s : State) (n : SceneTally) (level : Nat) : SlotsKept s (s.takeLevel n level).1 := by
  unfold State.takeLevel; dsimp only; repeat' split
  all_goals exact ⟨rfl⟩

theorem SlotsKept.sceneWrite (s : State) (count : Nat) (levels : List Nat) :
    SlotsKept s (s.sceneWrite count levels).1 := by
  have run (l : List Nat) (p : State × SceneTally) :
      SlotsKept p.1 (l.foldl (fun p level => p.1.takeLevel p.2 level) p).1 := by
    induction l generalizing p with
    | nil => exact .refl _
    | cons a l ih => exact (SlotsKept.takeLevel ..).trans (ih _)
  exact run _ (s, ⟨0, 0, false⟩)

theorem SlotsKept.rewound (s : State) (count : Nat) (levels : List Nat) :
    SlotsKept s (s.rewindWindow.sceneWrite count levels).1 :=
  SlotsKept.trans (t := s.rewindWindow) ⟨rfl⟩ (.sceneWrite ..)

/-- A run of levels is taken or read where its count is in range, and refused otherwise (R151, R152). -/
theorem SlotsKept.whereCounted {s : State} {a : Answered} {count : Nat} (h : SlotsKept s a.1) :
    SlotsKept s (if countOk count then a else s.refuse .range).1 := by
  split
  · exact h
  · exact .refl s

theorem SlotsKept.setEconomy (s : State) (e : Option Switch) (cap : Nat) : SlotsKept s (s.setEconomy e cap).1 := by
  unfold State.setEconomy; split <;> exact ⟨rfl⟩

theorem SlotsKept.setFacade (s : State) (n : Nat) (a : Option Sun) (b : Option Season) (c : Option Switch) :
    SlotsKept s (s.setFacade n a b c).1 := by
  unfold State.setFacade; split <;> exact ⟨rfl⟩

theorem SlotsKept.readmitStation (s : State) (n : Nat) : SlotsKept s (s.readmitStation n).1 := by
  unfold State.readmitStation; repeat' split
  all_goals exact ⟨rfl⟩

theorem SlotsKept.readStation (s : State) (n : Nat) : SlotsKept s (s.readStation n).1 := by
  unfold State.readStation; repeat' split
  all_goals exact ⟨rfl⟩

theorem SlotsKept.startRound (s : State) : SlotsKept s s.startRound := by
  unfold State.startRound; split <;> exact ⟨rfl⟩

theorem SlotsKept.visit (s : State) : SlotsKept s s.visit := by
  unfold State.visit; repeat' split
  all_goals exact ⟨rfl⟩

theorem SlotsKept.logFailure (s : State) : SlotsKept s s.logFailure := by
  unfold State.logFailure; split <;> exact ⟨rfl⟩

theorem SlotsKept.gradeStation (s : State) (r : RoomId) (was : StationState) (health : Nat) :
    SlotsKept s (s.gradeStation r was health) := by
  unfold State.gradeStation; dsimp only; split <;> exact ⟨rfl⟩

theorem SlotsKept.enterSafe (s : State) (r : RoomId) : SlotsKept s (s.enterSafe r) := by
  unfold State.enterSafe
  exact ⟨(RoomWork.offerWork ..).slotsKept.slots.trans (RoomWork.freezeRoom (s.modifyCtx r _) r).slotsKept.slots⟩

theorem SlotsKept.stationOff (s : State) (r : RoomId) : SlotsKept s (s.stationOff r) := by
  unfold State.stationOff
  exact ⟨(SlotsKept.enterSafe _ r).slots⟩

theorem SlotsKept.setpointFailed (s : State) (r : RoomId) (x : Station) : SlotsKept s (s.setpointFailed r x) := by
  unfold State.setpointFailed; split
  · exact .stationOff ..
  · exact .gradeStation ..

theorem SlotsKept.failedAt (s : State) (x : Exchange) (code : Nat) : SlotsKept s (s.failedAt x code) := by
  unfold State.failedAt; split
  · exact .refl s
  · dsimp only; split
    · exact ⟨(SlotsKept.setpointFailed ..).slots⟩
    · exact ⟨rfl⟩

theorem SlotsKept.fail (s : State) (x : Exchange) (code : Nat) : SlotsKept s (s.fail x code) := by
  have logged := (SlotsKept.logFailure { s with loop := { s.loop with exchange := none } }).slots
  unfold State.fail; dsimp only; split
  · exact ⟨logged⟩
  · exact ⟨(SlotsKept.failedAt _ x code).slots.trans logged⟩

theorem SlotsKept.takeEvent (s : State) (r : RoomId) (rep : Report) : SlotsKept s (s.takeEvent r rep) := by
  unfold State.takeEvent; dsimp only
  repeat' split
  all_goals first
    | exact ⟨rfl⟩
    | exact ⟨(RoomWork.panelEvent ..).slotsKept.slots⟩

theorem SlotsKept.deliverReport (s : State) (r : RoomId) (rep : Report) : SlotsKept s (s.deliverReport r rep) := by
  unfold State.deliverReport; dsimp only
  have restarted : SlotsKept s
      (if rep.flags.restarted then s.modifyStation r fun x => { x with lastEvent := none } else s) := by
    split <;> exact ⟨rfl⟩
  have reported := restarted.trans ((RoomWork.intake _ r rep).trans (.contactReported _ r rep.contactOpen)).slotsKept
  exact ⟨(reported.trans (.takeEvent _ r rep)).slots⟩

theorem SlotsKept.goodAt (s : State) (x : Exchange) (rep : Report) : SlotsKept s (s.goodAt x rep) := by
  unfold State.goodAt; split
  · exact .refl s
  · dsimp only; repeat' split
    · exact ⟨((SlotsKept.gradeStation ..).trans (.deliverReport ..)).slots⟩
    · exact ⟨(SlotsKept.leaveSafe ..).slots⟩
    · exact ⟨rfl⟩

theorem SlotsKept.succeed (s : State) (x : Exchange) (rep : Report) : SlotsKept s (s.succeed x rep) := by
  unfold State.succeed; dsimp only; split
  · exact ⟨rfl⟩
  · exact ⟨(SlotsKept.goodAt ..).slots⟩

theorem SlotsKept.noReply (s : State) : SlotsKept s s.noReply := by
  unfold State.noReply; split
  · exact ⟨rfl⟩
  · exact (SlotsKept.fail ..).finish s

theorem SlotsKept.replyReceived (s : State) (reply : Reply) : SlotsKept s (s.replyReceived reply) := by
  unfold State.replyReceived; repeat' split
  · exact ⟨rfl⟩
  · exact (SlotsKept.fail ..).finish s
  · exact (SlotsKept.succeed ..).finish s

/-! ### The clock and the timers -/

theorem SlotsKept.overrunChecks (s : State) : SlotsKept s s.overrunChecks :=
  .foldl (fun s r => (RoomWork.overrunCheck s r).slotsKept) ..

theorem SlotsKept.offerWork (s : State) (w : CalWork) : SlotsKept s (s.offerWork w) :=
  (RoomWork.offerWork s w).slotsKept

theorem SlotsKept.minuteEvent (s : State) : SlotsKept s s.minuteEvent := by
  unfold State.minuteEvent; split
  · refine SlotsKept.finish (.trans ?_ (.overrunChecks _)) s
    exact ⟨(SlotsKept.offerWork ..).slots⟩
  · exact ⟨rfl⟩

theorem SlotsKept.rolloverEvent (s : State) : SlotsKept s s.rolloverEvent := by
  unfold State.rolloverEvent; split
  · refine SlotsKept.finish (.trans ?_ (.overrunChecks _)) s
    exact (SlotsKept.offerWork s (.minute 1440)).trans ⟨rfl⟩
  · exact ⟨rfl⟩

theorem SlotsKept.termEnd (s : State) : SlotsKept s s.termEnd := by
  unfold State.termEnd; split
  · refine SlotsKept.finish (.trans ?_ (.overrunChecks _)) s
    exact (SlotsKept.offerWork s (.minute 1440)).trans ⟨rfl⟩
  · exact ⟨rfl⟩

theorem SlotsKept.noShowExpiry (s : State) (r : RoomId) : SlotsKept s (s.noShowExpiry r) := by
  unfold State.noShowExpiry; repeat' split
  · exact (SlotsKept.offerWork ..).finish s
  · exact ⟨rfl⟩
  · exact ⟨rfl⟩

theorem SlotsKept.requestTaken (s : State) (p : CalWork → Bool) : SlotsKept s (s.requestTaken p) := by
  unfold State.requestTaken; split
  · exact (RoomWork.takeWork s p).slotsKept.finish s
  · exact ⟨rfl⟩

theorem SlotsKept.absenceEvent (s : State) (r : RoomId) : SlotsKept s (s.absenceEvent r) := by
  unfold State.absenceEvent; split
  · exact (RoomWork.absenceExpiry s r).slotsKept.finish s
  · exact ⟨rfl⟩

theorem SlotsKept.quietEvent (s : State) (r : RoomId) : SlotsKept s (s.quietEvent r) := by
  unfold State.quietEvent; split
  · exact (RoomWork.quietExpiry s r).slotsKept.finish s
  · exact ⟨rfl⟩

theorem SlotsKept.settleEvent (s : State) (r : RoomId) : SlotsKept s (s.settleEvent r) := by
  unfold State.settleEvent; split
  · exact (RoomWork.settleExpiry s r).slotsKept.finish s
  · exact ⟨rfl⟩

theorem SlotsKept.holdEvent (s : State) (r : RoomId) : SlotsKept s (s.holdEvent r) := by
  unfold State.holdEvent; split
  · exact ⟨(Follows.finishWith (s.endHold r) ..).slots⟩
  · exact ⟨rfl⟩

theorem SlotsKept.silenceExpiry (s : State) : SlotsKept s s.silenceExpiry := by
  unfold State.silenceExpiry; split
  · exact ⟨(Follows.finishWith s.hostAbsent ..).slots⟩
  · exact ⟨rfl⟩

theorem SlotsKept.periodEvent (s : State) (g : AirId) : SlotsKept s (s.periodEvent g) := by
  unfold State.periodEvent; split <;> exact ⟨rfl⟩

theorem SlotsKept.passEvent (s : State) (g : AirId) : SlotsKept s (s.passEvent g) := by
  unfold State.passEvent State.completePass; dsimp only; repeat' split
  all_goals exact ⟨rfl⟩

theorem SlotsKept.travelEvent (s : State) (r : RoomId) (b : BlindId) : SlotsKept s (s.travelEvent r b) := by
  unfold State.travelEvent; split
  · exact ⟨(Follows.finish (s.modifyBlind r b _) s).slots⟩
  · exact ⟨rfl⟩

theorem SlotsKept.pauseEvent (s : State) (r : RoomId) (b : BlindId) : SlotsKept s (s.pauseEvent r b) := by
  unfold State.pauseEvent; split
  · exact ⟨(Follows.finish (s.modifyBlind r b _) s).slots⟩
  · exact ⟨rfl⟩

theorem SlotsKept.drainRoom (s : State) (r : RoomId) : SlotsKept s (s.drainRoom r) :=
  (((((SlotsKept.noShowExpiry s r).trans (.absenceEvent ..)).trans (.quietEvent ..)).trans (.settleEvent ..)).trans
    (.holdEvent ..)).trans
    ((((SlotsKept.travelEvent ..).trans (.pauseEvent ..)).trans (.travelEvent ..)).trans (.pauseEvent ..))

theorem SlotsKept.drain (s : State) : SlotsKept s s.drain := by
  have clock : SlotsKept s ((s.minuteEvent).rolloverEvent).termEnd := by
    exact ((SlotsKept.minuteEvent s).trans (.rolloverEvent _)).trans (.termEnd _)
  have held (t : State) : SlotsKept t
      (if t.store.running.isNone && !t.cal.work.isEmpty then t.applyHeld.finish t else t) := by
    split
    · exact (RoomWork.applyHeld t).slotsKept.finish t
    · exact .refl t
  unfold State.drain; dsimp only
  refine SlotsKept.trans ?_ (.foldl SlotsKept.periodEvent _ _)
  refine SlotsKept.trans ?_ (.silenceExpiry _)
  refine SlotsKept.trans ?_ (.foldl SlotsKept.drainRoom _ _)
  exact clock.trans (held s.minuteEvent.rolloverEvent.termEnd)

theorem SlotsKept.second (s : State) : SlotsKept s s.second := by
  have counted (t : State) : SlotsKept t t.countSecond := ⟨rfl⟩
  exact (SlotsKept.drain s).trans (counted s.drain)

theorem SlotsKept.tick (s : State) : SlotsKept s s.tick := by
  unfold State.tick; dsimp only; split
  · exact SlotsKept.trans (t := (s.cycles 1).wrapDivider) ⟨rfl⟩ (.second _)
  · exact ⟨rfl⟩

theorem SlotsKept.secondEvent (s : State) : SlotsKept s s.secondEvent :=
  SlotsKept.trans (t := (s.cycles (secondCycles - s.divider)).wrapDivider) ⟨rfl⟩ (.second _)

end Sys2Proof.Machine
end

section
/-! PROOFS. Which operations of the Booking Store change a record, and why every step keeps every record and generation
within its ranges (R18, R19). -/
namespace Sys2Proof.Machine

/-! ## Records within their ranges -/

/-- A slot within the ranges of R18 and R19. -/
def SlotOk (x : Slot) : Prop := x.gen < 16 ∧ ∀ b, x.record = some b → RecordOk b

theorem RecordsOk.of_slotsKept {s t : State} (h : RecordsOk s) (kept : SlotsKept s t) : RecordsOk t := by
  intro k; rw [kept.slots]; exact h k

theorem RecordsOk.setSlot {s : State} (h : RecordsOk s) {k : SlotId} {x : Slot} (hx : SlotOk x) :
    RecordsOk (s.setSlot k x) := by
  intro q
  have slot : (s.setSlot k x).store.slots.get q = if q = k then x else s.store.slots.get q := Table.get_set ..
  rw [slot]
  split
  · exact hx
  · exact h q

/-- A record of a live slot changed within its ranges. -/
theorem RecordsOk.modifyRecord {s : State} (h : RecordsOk s) {k : SlotId} {f : Record → Record}
    (hf : ∀ b, RecordOk b → RecordOk (f b)) : RecordsOk (s.modifyRecord k f) := by
  refine h.setSlot ⟨(h k).1, fun b hb => ?_⟩
  obtain ⟨old, hold, rfl⟩ := Option.map_eq_some_iff.1 hb
  exact hf old ((h k).2 old hold)

theorem RecordsOk.freeSlot {s : State} (h : RecordsOk s) (k : SlotId) : RecordsOk (s.freeSlot k) :=
  h.setSlot ⟨Nat.mod_lt _ (by decide), fun b hb => by cases hb⟩

/-- The slot and the record that a handle names, with the handle's generation (R19). -/
theorem slot_of_resolve {s : State} {h : Handle} {k : SlotId} {b : Record} (hr : s.resolve h = .live k b) :
    h.slot = k.val ∧ (s.store.slots.get k).gen = h.gen ∧ (s.store.slots.get k).record = some b := by
  unfold State.resolve at hr
  split at hr
  · cases hr
  · rename_i q hq
    split at hr
    · cases hr
    · rename_i record hrec
      split at hr
      · rename_i gen
        injection hr with slot live
        subst slot live
        refine ⟨?_, gen, hrec⟩
        unfold asIndex at hq
        split at hq
        · cases hq; rfl
        · cases hq
      · cases hr

theorem recordOk_of_resolve {s : State} (h : RecordsOk s) {g : Handle} {k : SlotId} {b : Record}
    (hr : s.resolve g = .live k b) : g.gen < 16 ∧ RecordOk b := by
  obtain ⟨-, gen, record⟩ := slot_of_resolve hr
  exact ⟨gen ▸ (h k).1, (h k).2 b record⟩

theorem weeksOf_bounds {f : BookingFields} {p : Pattern} {first last : Nat} {skips : List Nat}
    (h : weeksOf f = some (p, first, last, skips)) : first ≤ last ∧ last < 64 ∧ skips.length ≤ 4 := by
  unfold weeksOf at h
  split at h
  · cases h
  · split at h
    · cases h; exact ⟨Nat.le_refl _, by omega, by simp⟩
    · cases h
  · dsimp only at h
    split at h
    · rename_i ok
      obtain ⟨ordered, within, count, -⟩ := ok
      cases h
      exact ⟨ordered, by omega, by simp [f.skips.size, count]⟩
    · cases h

theorem adjustTimes_bounds {start stop attendance : Nat} {t : Times} (h : adjustTimes start stop attendance = some t) :
    t.start % 5 = 0 ∧ t.stop % 5 = 0 ∧ t.start + 15 ≤ t.stop ∧ t.stop ≤ 1440 ∧ t.attendance ≤ 500 := by
  unfold adjustTimes at h
  split at h
  · cases h; simp only [roundDown5, roundUp5] at *; omega
  · cases h

/-- What booking fields describe lies within the ranges of R18, ACTIVE with counts 0. -/
theorem recordOf_ok {f : BookingFields} {b : Record} {clamped : Bool} (h : recordOf f = some (b, clamped)) :
    RecordOk b ∧ b.state = .active ∧ b.noShows = 0 ∧ b.releases = 0 := by
  unfold recordOf at h
  simp only [Option.bind_eq_bind, Option.bind_eq_some_iff] at h
  obtain ⟨target, -, ⟨p, first, last, skips⟩, weeks, t, times, cls, index, h⟩ := h
  obtain ⟨ordered, within, few⟩ := weeksOf_bounds weeks
  obtain ⟨start, stop, long, day, attendance⟩ := adjustTimes_bounds times
  dsimp only at h
  split at h
  · rename_i codes
    cases h
    have value : cls.val = f.cls := by
      unfold asIndex at index
      split at index
      · cases index; rfl
      · cases index
    exact ⟨⟨codes.1, ordered, within, few, start, stop, long, day, value ▸ codes.2, attendance, by simp, by simp⟩,
      rfl, rfl, rfl⟩
  · cases h

/-- State and counts of a record stand apart from its other ranges. -/
theorem RecordOk.withCounts {b : Record} (h : RecordOk b) (st : RecordState) {n m : Nat} (hn : n ≤ 15) (hm : m ≤ 255) :
    RecordOk { b with state := st, noShows := n, releases := m } := by
  obtain ⟨weekday, weeks, last, skips, start, stop, long, day, cls, attendance, -, -⟩ := h
  exact ⟨weekday, weeks, last, skips, start, stop, long, day, cls, attendance, hn, hm⟩

theorem RecordOk.noShows_le {b : Record} (h : RecordOk b) : b.noShows ≤ 15 := by
  obtain ⟨-, -, -, -, -, -, -, -, -, -, noShows, -⟩ := h
  exact noShows

theorem RecordOk.releases_le {b : Record} (h : RecordOk b) : b.releases ≤ 255 := by
  obtain ⟨-, -, -, -, -, -, -, -, -, -, -, releases⟩ := h
  exact releases

/-! ## Store operations keep every record within its ranges -/

section Operations
variable {s : State}

theorem RecordsOk.createBooking (h : RecordsOk s) (now : Instant) (f : BookingFields) :
    RecordsOk (s.createBooking now f).1 := by
  unfold State.createBooking
  split
  · exact h
  · rename_i b clamped hf
    repeat' split
    · exact h
    · exact h
    · exact h
    · exact h
    rename_i k _ _ _
    have stored : RecordsOk (s.setSlot k { gen := (s.store.slots.get k).gen, record := some b }) :=
      h.setSlot ⟨(h k).1, fun x hx => by cases hx; exact (recordOf_ok hf).1⟩
    exact stored.of_slotsKept ((RoomWork.placeToday ..).trans (.reportChanges ..)).slotsKept

theorem SlotsKept.amendAgendas (s : State) (now : Instant) (g : Handle) (b : Record) :
    SlotsKept s (s.amendAgendas now g b) := by
  unfold State.amendAgendas
  repeat' split
  · exact .refl s
  · exact (RoomWork.mapHandle ..).slotsKept
  · exact ((RoomWork.removeHandle s g).trans (.placeToday ..)).slotsKept
  · exact .refl s
  · exact (RoomWork.placeToday ..).slotsKept

theorem RecordsOk.amendBooking (h : RecordsOk s) (now : Instant) (g : Handle) (f : BookingFields) :
    RecordsOk (s.amendBooking now g f).1 := by
  unfold State.amendBooking
  split
  · exact h
  · rename_i k old hr
    obtain ⟨gen, was⟩ := recordOk_of_resolve h hr
    split
    · exact h
    · rename_i fields clamped hf
      obtain ⟨ranges, -⟩ := recordOf_ok hf
      have stored : RecordsOk (s.setSlot k
          ⟨g.gen, some { fields with state := old.state, noShows := old.noShows, releases := old.releases }⟩) :=
        h.setSlot ⟨gen, fun x hx => by cases hx; exact ranges.withCounts _ was.noShows_le was.releases_le⟩
      generalize (if now.valid then s.extOf g else 0) = ext
      dsimp only
      generalize (if s.liveEntry now g then _ else _) = stop
      repeat' split
      · exact h
      · exact h
      · exact h
      · exact h
      · exact stored.of_slotsKept ((SlotsKept.amendAgendas ..).trans (RoomWork.reportChanges ..).slotsKept)
      · exact stored

theorem RecordsOk.cancelBooking (h : RecordsOk s) (g : Handle) : RecordsOk (s.cancelBooking g).1 := by
  unfold State.cancelBooking; split
  · exact h
  · exact (h.freeSlot _).of_slotsKept ((RoomWork.removeHandle ..).trans (.reportChanges ..)).slotsKept

theorem RecordsOk.suspendBooking (h : RecordsOk s) (g : Handle) : RecordsOk (s.suspendBooking g).1 := by
  unfold State.suspendBooking; split
  · exact h
  · rename_i k _ _
    have stored := h.modifyRecord (k := k) (f := fun b => { b with state := .suspended .host })
      fun b hb => hb.withCounts _ hb.noShows_le hb.releases_le
    exact stored.of_slotsKept ((RoomWork.removeHandle ..).trans (.reportChanges ..)).slotsKept

theorem RecordsOk.resumeBooking (h : RecordsOk s) (now : Instant) (g : Handle) :
    RecordsOk (s.resumeBooking now g).1 := by
  unfold State.resumeBooking; split
  · exact h
  · rename_i k old hr
    obtain ⟨gen, was⟩ := recordOk_of_resolve h hr
    have stored : RecordsOk (s.setSlot k ⟨g.gen, some { old with state := .active, noShows := 0 }⟩) :=
      h.setSlot ⟨gen, fun x hx => by cases hx; exact was.withCounts _ (by decide) was.releases_le⟩
    dsimp only
    repeat' split
    · exact h
    · exact h
    · exact h
    · exact stored.of_slotsKept ((RoomWork.placeToday ..).trans (.reportChanges ..)).slotsKept

theorem RecordsOk.retire (h : RecordsOk s) (d : Date) : RecordsOk (s.retire d).1 := by
  have run (l : List (SlotId × Handle)) (u : State) (hu : RecordsOk u) : RecordsOk (l.foldl State.retireOne u) := by
    induction l generalizing u with
    | nil => exact hu
    | cons p l ih =>
      refine ih _ ?_
      have marked : RecordsOk { u with port := u.port.bookingChanged ⟨p.1, p.2.gen, .retired⟩ } := hu
      exact (marked.freeSlot p.1).of_slotsKept (RoomWork.removeHandle ..).slotsKept
  exact (run _ s h).of_slotsKept (RoomWork.reportChanges ..).slotsKept

theorem RecordsOk.setClock (h : RecordsOk s) (d : Date) (m : Nat) : RecordsOk (s.setClock d m).1 := by
  have put : RecordsOk (s.putClock d m) := h
  unfold State.setClock; split
  · exact h
  · split
    · exact put.of_slotsKept (RoomWork.jump ..).slotsKept
    · have emptied := (put.retire d).of_slotsKept (RoomWork.mapAgendas _ fun _ _ => []).slotsKept
      exact emptied.of_slotsKept (.foldl (fun t r => (RoomWork.build t _ r).slotsKept) ..)

theorem RecordsOk.reclaim (h : RecordsOk s) (k : SlotId) (g : Handle) : RecordsOk (s.reclaim k g) := by
  have stored := h.modifyRecord (k := k) (f := fun b => { b with state := .suspended .reclaimed })
    fun b hb => hb.withCounts _ hb.noShows_le hb.releases_le
  exact stored.of_slotsKept ⟨((RoomWork.removeHandle _ g).trans (.reportChanges ..)).slotsKept.slots⟩

theorem RecordsOk.serveNote (h : RecordsOk s) (kind : NoteKind) (g : Handle) : RecordsOk (s.serveNote kind g) := by
  unfold State.serveNote; split
  · exact h
  · split
    · cases kind with
      | confirm => exact h.modifyRecord fun b hb => hb.withCounts _ (by decide) hb.releases_le
      | release =>
        dsimp only
        split
        · exact (h.modifyRecord fun b hb => hb.withCounts b.state (Nat.min_le_left ..) (Nat.min_le_left ..)).reclaim _ _
        · exact h.modifyRecord fun b hb => hb.withCounts b.state (Nat.min_le_left ..) (Nat.min_le_left ..)
    · exact h

theorem SlotsKept.extend (s : State) (now : Instant) (r : RoomId) (g : Handle) (step : Nat) :
    SlotsKept s (s.extend now r g step).1 := by
  unfold State.extend; split
  · exact ((RoomWork.mapHandle ..).trans (.reportChanges ..)).slotsKept
  · exact .refl s

theorem SlotsKept.extendForHost (s : State) (now : Instant) (r : RoomId) (g : Handle) (step : Nat) :
    SlotsKept s (s.extendForHost now r g step).1 := by
  have kept := SlotsKept.extend s now r g step
  unfold State.extendForHost
  split <;> simp_all

theorem SlotsKept.addClosure (s : State) (now : Instant) (d : Date) : SlotsKept s (s.addClosure now d).1 := by
  unfold State.addClosure; dsimp only
  repeat' split
  · exact ⟨rfl⟩
  · exact ⟨rfl⟩
  · exact ⟨rfl⟩
  · exact ⟨(RoomWork.reportChanges ..).slotsKept.slots⟩
  · exact ⟨(RoomWork.reportChanges ..).slotsKept.slots⟩

theorem SlotsKept.removeClosure (s : State) (now : Instant) (d : Date) : SlotsKept s (s.removeClosure now d).1 := by
  have placed (t : State) : SlotsKept t (allRooms.foldl (fun u r =>
      (u.broughtBack now r).foldl (fun u p => u.placeIn now.minute r p.1 p.2) u) t) := by
    refine .foldl (fun u r => ?_) allRooms t
    exact .foldl (fun u (p : Handle × Record) => (RoomWork.placeIn u now.minute r p.1 p.2).slotsKept) _ u
  have erased : SlotsKept s { s with cal := { s.cal with closures := s.cal.closures.erase d } } := ⟨rfl⟩
  unfold State.removeClosure; dsimp only
  split
  · exact .refl s
  · split
    · exact .refl s
    · refine SlotsKept.trans ?_ (RoomWork.reportChanges ..).slotsKept
      split
      · exact erased.trans (placed _)
      · exact erased

theorem RecordsOk.hostEffect (h : RecordsOk s) (now : Instant) (op : HostOp) : RecordsOk (s.hostEffect now op).1 := by
  cases op with
  | extend r g step => exact h.of_slotsKept (.extendForHost ..)
  | command c =>
    cases c
    case createBooking f => exact h.createBooking _ _
    case amendBooking g f => exact h.amendBooking _ _ _
    case cancelBooking g => exact h.cancelBooking g
    case suspendBooking g => exact h.suspendBooking g
    case resumeBooking g => exact h.resumeBooking _ _
    case setClock w d m => exact h.setClock _ _
    case addClosure w d => exact h.of_slotsKept (.addClosure ..)
    case removeClosure w d => exact h.of_slotsKept (.removeClosure ..)
    case writeRoom r w => exact h.of_slotsKept (.writeRoomStored ..)
    case writeWing gap b t => exact h.of_slotsKept (.writeWing ..)
    case writePartition g rs => exact h.of_slotsKept (.writePartition ..)
    case deletePartition g => exact h.of_slotsKept (.deletePartition ..)
    all_goals exact h

theorem RecordsOk.serveRoom (h : RecordsOk s) (now : Instant) (r : RoomId) (q : RoomReq) :
    RecordsOk (s.serveRoom now r q) := by
  cases q with
  | note kind g => exact h.serveNote kind g
  | extend g step => exact h.of_slotsKept ((SlotsKept.extend s now r g step).trans ⟨rfl⟩)

theorem SlotsKept.endRebuild (s : State) : SlotsKept s s.endRebuild := by
  unfold State.endRebuild; dsimp only
  repeat' split
  all_goals exact ⟨rfl⟩

theorem RecordsOk.stepEffect (h : RecordsOk s) (now : Instant) (st : CalStep) : RecordsOk (s.stepEffect now st) := by
  cases st with
  | retire => exact h.retire now.date
  | build r => exact h.of_slotsKept ((RoomWork.build s now r).slotsKept.trans (.endRebuild _))
  | termEnd =>
    exact h.of_slotsKept ((RoomWork.mapAgendas s fun _ _ => []).slotsKept.trans
      (.foldl (fun t r => (RoomWork.derive t r).slotsKept) ..))

theorem RecordsOk.opEffect (h : RecordsOk s) (run : Running) : RecordsOk (s.opEffect run) := by
  unfold State.opEffect; split
  · exact (h.hostEffect _ _).of_slotsKept (.completeCommand ..)
  · exact h.serveRoom _ _ _
  · exact h.stepEffect _ _

theorem RecordsOk.completeOp (h : RecordsOk s) : RecordsOk s.completeOp := by
  unfold State.completeOp; split
  · exact h
  · rename_i run _
    have released : SlotsKept (s.opEffect run) (s.opEffect run).releaseStore := ⟨rfl⟩
    exact (h.opEffect run).of_slotsKept ((released.trans (RoomWork.applyHeld _).slotsKept).finish s)

theorem RecordsOk.completeIf (h : RecordsOk s) (p : StoreOp → Bool) : RecordsOk (s.completeIf p) := by
  unfold State.completeIf; split
  · exact h.completeOp
  · exact h

end Operations

/-! ## Every step keeps every record within its ranges -/

/-- The commands and events that may change a slot: power-on and the completion of a store operation. -/
theorem RecordsOk.of_exec {s t : State} (h : RecordsOk s) (c : Instr) (hx : exec c s = .next t) : RecordsOk t := by
  have next {u : State} (same : exec c s = .next u) (hu : RecordsOk u) : RecordsOk t := by
    cases same.symm.trans hx; exact hu
  have kept {u : State} (same : exec c s = .next u) (hu : SlotsKept s u) : RecordsOk t := next same (h.of_slotsKept hu)
  cases c
  case powerOn => exact next rfl recordsOk_reset
  case storeOperationComplete => exact next rfl h.completeOp
  case retirementPass => exact next rfl (h.completeIf _)
  case agendaBuild r => exact next rfl (h.completeIf _)
  case termEndStep => exact next rfl (h.completeIf _)
  case noteServed r => exact next rfl (h.completeIf _)
  case extensionRequestServed r => exact next rfl (h.completeIf _)
  case resetLine => exact kept rfl ⟨(follows_warmReset s .resetLine).slots⟩
  case restart => exact kept rfl ⟨(follows_warmReset s .restart).slots⟩
  case malformed code => exact kept rfl (.arrive (fun t => (RoomWork.respond ..).slotsKept) s)
  case unknownCommand code => exact kept rfl (.queued (fun t => ⟨rfl⟩) s _)
  case poll => exact kept rfl ⟨rfl⟩
  case readResponse => exact kept rfl ⟨rfl⟩
  case readAttention => exact kept rfl ⟨rfl⟩
  case ackAttention m => exact kept rfl ⟨rfl⟩
  case readRoomChanges => exact kept rfl ⟨rfl⟩
  case readBookingChanges => exact kept rfl ⟨rfl⟩
  case setAttention e l => exact kept rfl (.queued (fun t => ⟨rfl⟩) s _)
  case readResetCause => exact kept rfl (.queuedRead ..)
  case writeRoom n w => exact kept rfl (.queuedEither (fun t a => .writeRoomNow) s _)
  case readRoom n => exact kept rfl (.queuedRead ..)
  case writeProfile n w => exact kept rfl (.queuedEffect (fun t => .writeProfile ..) s _)
  case readProfile n => exact kept rfl (.queuedRead ..)
  case writeWing gap b n => exact kept rfl (.queuedEither (fun t a => .writeWingNow) s _)
  case readWing => exact kept rfl (.queuedRead ..)
  case writePartition n rs => exact kept rfl (.queuedOperation ..)
  case deletePartition n => exact kept rfl (.queuedOperation ..)
  case readPartition n => exact kept rfl (.queuedRead ..)
  case writeAirGroup n a b m => exact kept rfl (.queued (fun t => .writeAirGroup ..) s _)
  case readAirGroup n => exact kept rfl (.queuedRead ..)
  case writeCalibration n c => exact kept rfl (.queued (fun t => .writeCalibration ..) s _)
  case readCalibration n => exact kept rfl (.queuedRead ..)
  case createBooking f => exact kept rfl (.queuedOperation ..)
  case amendBooking g f => exact kept rfl (.queuedOperation ..)
  case cancelBooking g => exact kept rfl (.queuedOperation ..)
  case suspendBooking g => exact kept rfl (.queuedOperation ..)
  case resumeBooking g => exact kept rfl (.queuedOperation ..)
  case readBooking g => exact kept rfl (.queuedOperation ..)
  case listRoomBookings n k => exact kept rfl (.queuedOperation ..)
  case readAgenda n k => exact kept rfl (.queuedOperation ..)
  case findFreeRoom w d a b n g => exact kept rfl (.queuedOperation ..)
  case setClock w d m => exact kept rfl (.queuedOperation ..)
  case readClock => exact kept rfl (.queuedRead ..)
  case addClosure w d => exact kept rfl (.queuedOperation ..)
  case removeClosure w d => exact kept rfl (.queuedOperation ..)
  case listClosures => exact kept rfl (.queuedRead ..)
  case holdRoom n f => exact kept rfl (.queuedTouching (fun t => .holdRoomNow ..) s _ _)
  case releaseHold n => exact kept rfl (.queuedTouching (fun t => .releaseHoldNow ..) s _ _)
  case endOccurrence n g => exact kept rfl (.endOccurrence ..)
  case extendOccurrence n g => exact kept rfl (.queuedEither (fun t a => .extendNow) s _)
  case setOpenRange a b => exact kept rfl (.setOpenRange ..)
  case readRoomStatus n => exact kept rfl (.queued (fun t => .readStatus ..) s _)
  case readRoomSensors n => exact kept rfl (.queuedRead ..)
  case setCapacity n c => exact kept rfl (.queued (fun t => .setCapacity ..) s _)
  case requestAllocation n => exact kept rfl (.queued (fun t => .requestAllocation ..) s _)
  case readAllocation n k => exact kept rfl (.queuedRead ..)
  case readRoomAir n => exact kept rfl (.queuedRead ..)
  case sceneWindow f => exact kept rfl (.queued (fun t => .sceneWindow ..) s _)
  case sceneWriteStart n l => exact kept rfl (.queuedEffect (fun t => .whereCounted (.rewound ..)) s _)
  case sceneWriteContinue n l => exact kept rfl (.queuedEffect (fun t => .whereCounted (.sceneWrite ..)) s _)
  case sceneReadStart n => exact kept rfl (.queued (fun t => .whereCounted ⟨rfl⟩) s _)
  case sceneReadContinue n => exact kept rfl (.queued (fun t => .whereCounted ⟨rfl⟩) s _)
  case setEconomy e cap => exact kept rfl (.queuedEffect (fun t => .setEconomy ..) s _)
  case setFacade n a b c => exact kept rfl (.queuedEffect (fun t => .setFacade ..) s _)
  case readRoomLighting n => exact kept rfl (.queuedRead ..)
  case readWingLighting => exact kept rfl (.queuedRead ..)
  case readmitStation n => exact kept rfl (.queued (fun t => .readmitStation ..) s _)
  case readStation n => exact kept rfl (.queued (fun t => .readStation ..) s _)
  case readLoopLog => exact kept rfl (.queued (fun t => ⟨rfl⟩) s _)
  case secondEvent => exact kept rfl (.secondEvent s)
  case minuteEvent => exact kept rfl (.minuteEvent s)
  case rolloverEvent => exact kept rfl (.rolloverEvent s)
  case termEnd => exact kept rfl (.termEnd s)
  case noShowExpiry r => exact kept rfl (.noShowExpiry ..)
  case confirmRequest r => exact kept rfl (.requestTaken ..)
  case endNowRequest r => exact kept rfl (.requestTaken ..)
  case sensedAbsenceExpiry r => exact kept rfl (.absenceEvent ..)
  case quietTimerExpiry r => exact kept rfl (.quietEvent ..)
  case settleTimerExpiry r => exact kept rfl (.settleEvent ..)
  case holdExpiry r => exact kept rfl (.holdEvent ..)
  case hostSilenceExpiry => exact kept rfl (.silenceExpiry s)
  case periodTimerMatch g => exact kept rfl (.periodEvent ..)
  case allocationPassComplete g => exact kept rfl (.passEvent ..)
  case roundStart => exact kept rfl (.startRound s)
  case stationVisit => exact kept rfl (.visit s)
  case noReply => exact kept rfl (.noReply s)
  case reportReceived reply => exact kept rfl (.replyReceived ..)
  case blindTravelComplete r b => exact kept rfl (.travelEvent ..)
  case blindPauseEnd r b => exact kept rfl (.pauseEvent ..)

/-- Settles O57: a step runs a command or lets a cycle pass, which leaves every slot as it is. -/
theorem recordsKept : Obligations.RecordsKept := by
  intro s t h hx
  unfold step at hx
  split at hx
  · rename_i c rest _
    have dequeued : RecordsOk { s with pending := rest } := h
    exact dequeued.of_exec c hx
  · cases hx
    exact h.of_slotsKept (.tick s)

end Sys2Proof.Machine
end

section
/-! PROOFS. What the agendas and the service machine do to each other in a store operation: which entries stay booked as
they were, what the rooms send while they react, and how the operation ends (R42, R43, R51, R52, R70, R71). -/
namespace Sys2Proof.Machine

/-! ## Store commands as they arrive -/

theorem exec_storeCommand {s : State} {c : Instr} (h : s.slotOpen = true) (hc : isStoreCommand c = true) :
    exec c s = .next ((s.hostHeard.storeCommand c (.command c)).takeNext) := by
  have sent : ∀ c, s.queuedOperation c (.command c) = (s.hostHeard.storeCommand c (.command c)).takeNext :=
    fun c => queuedOperation_of_slotOpen h
  cases c
  case writePartition n rs => exact congrArg Host.Outcome.next (sent _)
  case deletePartition n => exact congrArg Host.Outcome.next (sent _)
  case createBooking f => exact congrArg Host.Outcome.next (sent _)
  case amendBooking g f => exact congrArg Host.Outcome.next (sent _)
  case cancelBooking g => exact congrArg Host.Outcome.next (sent _)
  case suspendBooking g => exact congrArg Host.Outcome.next (sent _)
  case resumeBooking g => exact congrArg Host.Outcome.next (sent _)
  case readBooking g => exact congrArg Host.Outcome.next (sent _)
  case listRoomBookings n k => exact congrArg Host.Outcome.next (sent _)
  case readAgenda n k => exact congrArg Host.Outcome.next (sent _)
  case findFreeRoom w d a b n g => exact congrArg Host.Outcome.next (sent _)
  case setClock w d m => exact congrArg Host.Outcome.next (sent _)
  case addClosure w d => exact congrArg Host.Outcome.next (sent _)
  case removeClosure w d => exact congrArg Host.Outcome.next (sent _)
  all_goals exact absurd hc Bool.false_ne_true

/-- Settles O15: a command alone at a free arbiter is taken, and behind a running operation nothing is. -/
theorem storeCommandsTaken : Obligations.StoreCommandsTaken := by
  intro s c hs hc
  rw [exec_storeCommand hs hc]
  refine ⟨fun free => congrArg Host.Outcome.next ?_, fun busy => congrArg Host.Outcome.next (takeNext_running _ busy)⟩
  exact takeNext_host (t := s.hostHeard.storeCommand c (.command c)) (running_of_arbiterFree free)
    (steps_of_arbiterFree free) (requestRoom_of_arbiterFree free) rfl

/-! ## What the service machine is made of -/

/-- A relation that holds along every path of the service machine: it holds of a move of one room's service state and
governing entry and of the sending of a confirm request, and it can be chained. -/
structure ServiceClosed (R : State → State → Prop) : Prop where
  refl : ∀ s, R s s
  trans : ∀ {s t u}, R s t → R t u → R s u
  move : ∀ s r (v : Service) (g : Option Handle) (o : Option Nat),
    R s (s.moveCtx r fun c => { c with service := v, gov := g, overrunStart := o })
  confirm : ∀ s r, R s (s.sendConfirm r)

namespace ServiceClosed
variable {R : State → State → Prop} (P : ServiceClosed R)
include P

theorem foldl {α : Type} {f : State → α → State} (h : ∀ s a, R s (f s a)) (l : List α) (s : State) :
    R s (l.foldl f s) := by
  induction l generalizing s with
  | nil => exact P.refl s
  | cons a l ih => exact P.trans (h s a) (ih _)

theorem setService (s : State) (r : RoomId) (v : Service) (g : Option Handle) : R s (s.setService r v g) :=
  P.move s r v g none

theorem precondOr (s : State) (r : RoomId) (v : Service) : R s (s.precondOr r v) := by
  unfold State.precondOr; split <;> exact P.setService ..

theorem enterClass (s : State) (r : RoomId) (e : Entry) : R s (s.enterClass r e) := by
  unfold State.enterClass; split
  · exact P.setService ..
  · split
    · exact P.trans (P.setService ..) (P.confirm ..)
    · exact P.setService ..

theorem derive (s : State) (r : RoomId) : R s (s.derive r) := by
  unfold State.derive; split
  · exact P.setService ..
  · split
    · exact P.setService ..
    · split
      · exact P.enterClass ..
      · exact P.precondOr ..

theorem enterOverrun (s : State) (r : RoomId) (e : Entry) (m : Option Nat) : R s (s.enterOverrun r e m) := by
  unfold State.enterOverrun; split
  · exact P.precondOr ..
  · exact P.move ..

theorem reportRest (s : State) (r : RoomId) : R s (s.reportRest r) := by
  unfold State.reportRest; dsimp only; split
  · split
    · exact P.setService ..
    · exact P.refl s
  · exact P.refl s

theorem reportInactive (s : State) (r : RoomId) (m : Option Nat) (g : Option Entry) :
    R s (s.reportInactive r m g) := by
  unfold State.reportInactive; dsimp only
  split
  · exact P.precondOr ..
  · split
    · split
      · exact P.setService ..
      · exact P.precondOr ..
    · split
      · split
        · exact P.enterOverrun ..
        · exact P.precondOr ..
      · split
        · exact P.precondOr ..
        · exact P.reportRest ..
    · exact P.precondOr ..
    · exact P.reportRest ..

theorem report (s : State) (m : Option Nat) (r : RoomId) : R s (s.report m r) := by
  unfold State.report; dsimp only
  split
  · exact P.refl s
  · split
    · exact P.setService ..
    · split
      · exact P.refl s
      · split
        · exact P.setService ..
        · split
          · exact P.refl s
          · split
            · exact P.enterClass ..
            · split
              · exact P.reportInactive ..
              · exact P.reportRest ..

theorem reportChanges (s b : State) (m : Option Nat) : R s (s.reportChanges b m) :=
  P.foldl (fun s r => P.report s m r) ..

theorem confirmIfStarted (s : State) (r : RoomId) : R s (s.confirmIfStarted r) := by
  unfold State.confirmIfStarted; split
  · split
    · exact P.confirm ..
    · exact P.refl s
  · exact P.refl s

theorem overrunCheck (s : State) (r : RoomId) : R s (s.overrunCheck r) := by
  unfold State.overrunCheck; dsimp only; split
  · split
    · exact P.precondOr ..
    · exact P.refl s
  · exact P.refl s

end ServiceClosed

/-! ## What the rooms send while they react -/

/-- Whether a piece of calendar work is a confirm request. -/
def CalWork.isConfirm : CalWork → Bool
  | .confirm _ _ => true
  | _ => false

/-- Beside what it moves, the service machine sends confirm requests to the calendar (R71), and leaves every room's
requests to the store and its pending extension alone. -/
structure Sends (s t : State) : Prop where
  work : ∃ sent, t.cal.work = s.cal.work ++ sent ∧ ∀ w ∈ sent, w.isConfirm = true
  requests : ∀ r, (t.room r).ctx.requests = (s.room r).ctx.requests
  pending : ∀ r, (t.room r).ctx.extPending = (s.room r).ctx.extPending

theorem Sends.of_same {s t : State} (work : t.cal.work = s.cal.work)
    (requests : ∀ r, (t.room r).ctx.requests = (s.room r).ctx.requests)
    (pending : ∀ r, (t.room r).ctx.extPending = (s.room r).ctx.extPending) : Sends s t :=
  ⟨⟨[], by simp [work]⟩, requests, pending⟩

theorem Sends.refl (s : State) : Sends s s := .of_same rfl (fun _ => rfl) fun _ => rfl

theorem Sends.trans {s t u : State} (a : Sends s t) (b : Sends t u) : Sends s u := by
  obtain ⟨x, hx, cx⟩ := a.work
  obtain ⟨y, hy, cy⟩ := b.work
  refine ⟨⟨x ++ y, by rw [hy, hx, List.append_assoc], fun w hw => ?_⟩, fun r => (b.requests r).trans (a.requests r),
    fun r => (b.pending r).trans (a.pending r)⟩
  obtain hw | hw := List.mem_append.1 hw
  · exact cx w hw
  · exact cy w hw

/-- What is sent where nothing waited is confirm requests alone. -/
theorem Sends.confirms {s t : State} (h : Sends s t) (hs : s.cal.work = []) : ∀ w ∈ t.cal.work, w.isConfirm = true := by
  obtain ⟨sent, work, confirms⟩ := h.work
  rwa [work, hs, List.nil_append]

theorem Sends.modifyCtx (s : State) (r : RoomId) {f : Context → Context} (hreq : ∀ c, (f c).requests = c.requests)
    (hext : ∀ c, (f c).extPending = c.extPending) : Sends s (s.modifyCtx r f) := by
  refine .of_same rfl (fun q => ?_) fun q => ?_
  · rw [State.modifyCtx, room_modifyRoom]; split
    · subst_vars; exact hreq _
    · rfl
  · rw [State.modifyCtx, room_modifyRoom]; split
    · subst_vars; exact hext _
    · rfl

theorem clearFor_sends (c : Context) (a b : Bool) :
    (c.clearFor a b).requests = c.requests ∧ (c.clearFor a b).extPending = c.extPending := by
  cases a <;> cases b <;> exact ⟨rfl, rfl⟩

theorem Sends.afterMove (s b : State) (r : RoomId) : Sends s (s.afterMove b r) := by
  refine .of_same rfl (fun q => ?_) fun q => ?_
  · rw [room_afterMove]; split
    · exact (clearFor_sends _ _ _).1
    · rfl
  · rw [room_afterMove]; split
    · exact (clearFor_sends _ _ _).2
    · rfl

theorem Sends.sendConfirm (s : State) (r : RoomId) : Sends s (s.sendConfirm r) := by
  have noted (h : Handle) := Sends.modifyCtx s r (f := fun c => { c with outConfirm := some h }) (fun _ => rfl)
    fun _ => rfl
  unfold State.sendConfirm; dsimp only; split
  · exact ⟨⟨[_], rfl, by simp [CalWork.isConfirm]⟩, (noted _).requests, (noted _).pending⟩
  · exact .refl s

theorem serviceClosed_sends : ServiceClosed Sends where
  refl := .refl
  trans := .trans
  move s r v g o := by
    refine Sends.trans ?_ (.afterMove ..)
    exact .modifyCtx s r (fun _ => rfl) fun _ => rfl
  confirm := .sendConfirm

theorem Sends.reportChanges (s b : State) (m : Option Nat) : Sends s (s.reportChanges b m) :=
  serviceClosed_sends.reportChanges ..

/-! ## Changes of agendas alone -/

/-- Nothing has changed but agendas. -/
structure OnlyAgendas (s t : State) : Prop where
  rest : t = { s with rooms := t.rooms }
  room : ∀ r, t.room r = { s.room r with agenda := (t.room r).agenda }

theorem OnlyAgendas.refl (s : State) : OnlyAgendas s s := ⟨rfl, fun _ => rfl⟩

theorem OnlyAgendas.trans {s t u : State} (a : OnlyAgendas s t) (b : OnlyAgendas t u) : OnlyAgendas s u :=
  ⟨by rw [b.rest, a.rest], fun r => by rw [b.room, a.room]⟩

theorem OnlyAgendas.foldl {α : Type} {f : State → α → State} (h : ∀ s a, OnlyAgendas s (f s a)) (l : List α)
    (s : State) : OnlyAgendas s (l.foldl f s) := by
  induction l generalizing s with
  | nil => exact .refl s
  | cons a l ih => exact (h s a).trans (ih _)

theorem OnlyAgendas.mapAgendas (s : State) (f : RoomId → List Entry → List Entry) : OnlyAgendas s (s.mapAgendas f) :=
  ⟨rfl, fun r => by simp [State.mapAgendas]⟩

theorem OnlyAgendas.addEntry (s : State) (r : RoomId) (e : Entry) : OnlyAgendas s (s.addEntry r e) :=
  ⟨rfl, fun q => by unfold State.addEntry; rw [room_modifyRoom]; split <;> simp_all⟩

theorem OnlyAgendas.setTimer (s : State) (h : Handle) (t : Option NoShow) : OnlyAgendas s (s.setTimer h t) :=
  .mapAgendas ..

theorem OnlyAgendas.settleTimers (s b : State) : OnlyAgendas s (s.settleTimers b) := by
  refine .foldl (fun s p => ?_) ..
  split
  · exact .setTimer ..
  · exact .setTimer ..

theorem OnlyAgendas.place (s : State) (m : Nat) (rs : List RoomId) (h : Handle) (b : Record) :
    OnlyAgendas s (s.place m rs h b) := by
  have added := OnlyAgendas.foldl (fun t r => .addEntry t r ((newEntry h b).toState
    (placeState m (s.leadOf (newEntry h b)) (s.closed r) (newEntry h b).start (newEntry h b).curEnd))) rs s
  unfold State.place; dsimp only; split
  · exact added.trans (.setTimer ..)
  · exact added

theorem OnlyAgendas.placeToday (s : State) (now : Instant) (h : Handle) (b : Record) :
    OnlyAgendas s (s.placeToday now h b) := by
  unfold State.placeToday; split
  · exact .place ..
  · exact .refl s

theorem OnlyAgendas.removeHandle (s : State) (h : Handle) : OnlyAgendas s (s.removeHandle h) := .mapAgendas ..

theorem OnlyAgendas.mapHandle (s : State) (h : Handle) (f : Entry → Entry) : OnlyAgendas s (s.mapHandle h f) :=
  .mapAgendas ..

theorem OnlyAgendas.placeIn (s : State) (m : Nat) (r : RoomId) (h : Handle) (b : Record) :
    OnlyAgendas s (s.placeIn m r h b) := by
  unfold State.placeIn; dsimp only; split
  · split
    · exact (OnlyAgendas.addEntry ..).trans (.setTimer ..)
    · exact (OnlyAgendas.addEntry ..).trans (.setTimer ..)
  · exact .addEntry ..

theorem OnlyAgendas.buildEntry (s : State) (m : Nat) (r : RoomId) (h : Handle) (b : Record) :
    OnlyAgendas s (s.buildEntry m r h b) := by
  unfold State.buildEntry; split
  · exact .addEntry ..
  · exact .placeIn ..

theorem OnlyAgendas.port {s t : State} (h : OnlyAgendas s t) : t.port = s.port := by rw [h.rest]

theorem OnlyAgendas.cal {s t : State} (h : OnlyAgendas s t) : t.cal = s.cal := by rw [h.rest]

theorem OnlyAgendas.store {s t : State} (h : OnlyAgendas s t) : t.store = s.store := by rw [h.rest]

theorem OnlyAgendas.groups {s t : State} (h : OnlyAgendas s t) : t.groups = s.groups := by rw [h.rest]

theorem OnlyAgendas.profiles {s t : State} (h : OnlyAgendas s t) : t.profiles = s.profiles := by rw [h.rest]

theorem OnlyAgendas.cfg {s t : State} (h : OnlyAgendas s t) (r : RoomId) : (t.room r).cfg = (s.room r).cfg := by
  rw [h.room]

theorem OnlyAgendas.ctx {s t : State} (h : OnlyAgendas s t) (r : RoomId) : (t.room r).ctx = (s.room r).ctx := by
  rw [h.room]

theorem OnlyAgendas.closed {s t : State} (h : OnlyAgendas s t) (r : RoomId) : t.closed r = s.closed r := by
  rw [State.closed, State.closed, h.cfg, h.rest]; rfl

theorem OnlyAgendas.sends {s t : State} (h : OnlyAgendas s t) : Sends s t :=
  .of_same (by rw [h.cal]) (fun r => by rw [h.ctx]) fun r => by rw [h.ctx]

theorem OnlyAgendas.roomWork {s t : State} (h : OnlyAgendas s t) : RoomWork s t := by
  have w : RoomWork s (s.mapAgendas fun r _ => (t.room r).agenda) := .mapAgendas ..
  have same : s.mapAgendas (fun r _ => (t.room r).agenda) = t := by
    rw [h.rest]
    refine congrArg (fun x => ({ s with rooms := x } : State)) (Table.ext_get fun r => ?_)
    rw [Table.get_mapIdx]
    exact (h.room r).symm
  rwa [same] at w

end Sys2Proof.Machine
end

section
/-! PROOFS. The entries of an agenda as they are booked, and the end of a store operation with the confirm requests that
the rooms have sent meanwhile (R51, R52, R57, R60). -/
namespace Sys2Proof.Machine

/-- A fold keeps what each of its steps keeps. -/
theorem foldl_keeps {α β : Type} (g : State → β) {f : State → α → State} (h : ∀ s a, g (f s a) = g s) (l : List α)
    (s : State) : g (l.foldl f s) = g s := by
  induction l generalizing s with
  | nil => rfl
  | cons a l ih => rw [List.foldl_cons, ih, h]

/-! ## Entries as they are booked -/

/-- What time does not move of an entry: all but its state and its timer (R51). -/
def Entry.booking (e : Entry) : Entry := { e with state := .waiting, timer := none }

@[simp] theorem booking_handle (e : Entry) : e.booking.handle = e.handle := rfl
@[simp] theorem booking_start (e : Entry) : e.booking.start = e.start := rfl
@[simp] theorem booking_curEnd (e : Entry) : e.booking.curEnd = e.curEnd := rfl
@[simp] theorem booking_ext (e : Entry) : e.booking.ext = e.ext := rfl
@[simp] theorem booking_cls (e : Entry) : e.booking.cls = e.cls := rfl
@[simp] theorem booking_attendance (e : Entry) : e.booking.attendance = e.attendance := rfl
@[simp] theorem booking_untimed (e : Entry) : e.untimed.booking = e.booking := rfl
@[simp] theorem booking_toState (e : Entry) (st : EntryState) : (e.toState st).booking = e.booking := rfl
@[simp] theorem booking_newEntry (h : Handle) (b : Record) : (newEntry h b).booking = newEntry h b := rfl

/-- A room's agenda as it is booked. -/
def State.bookings (s : State) (r : RoomId) : List Entry := (s.room r).agenda.map Entry.booking

theorem bookings_of_untimed {s t : State} {r q : RoomId} (h : t.untimed q = s.untimed r) :
    t.bookings q = s.bookings r := by
  have timed (u : State) (k : RoomId) : u.bookings k = (u.untimed k).map Entry.booking := by
    simp only [State.bookings, State.untimed, List.map_map]; rfl
  rw [timed, timed, h]

theorem bookings_of_agenda {s t : State} {r : RoomId} (h : (t.room r).agenda = (s.room r).agenda) :
    t.bookings r = s.bookings r := congrArg (List.map Entry.booking) h

theorem keys_eq_bookings (s : State) (r : RoomId) :
    s.keys r = (s.bookings r).map fun e => (e.handle, e.start, e.curEnd, e.ext) := by
  simp [State.keys, State.bookings, Function.comp_def]

theorem keys_of_bookings {s t : State} {r : RoomId} (h : t.bookings r = s.bookings r) : t.keys r = s.keys r := by
  rw [keys_eq_bookings, keys_eq_bookings, h]

/-- What an agenda holds can be read from its bookings, where state and timer do not matter. -/
theorem exists_booking {p : Entry → Prop} (hp : ∀ e, p e.booking ↔ p e) (s : State) (r : RoomId) :
    (∃ e ∈ s.bookings r, p e) ↔ ∃ e ∈ (s.room r).agenda, p e := by
  simp [State.bookings, hp]

theorem forall_booking {p : Entry → Prop} (hp : ∀ e, p e.booking ↔ p e) (s : State) (r : RoomId) :
    (∀ e ∈ s.bookings r, p e) ↔ ∀ e ∈ (s.room r).agenda, p e := by
  simp [State.bookings, hp]

/-! ### Timers and states -/

theorem agenda_mapAgendas (s : State) (f : RoomId → List Entry → List Entry) (r : RoomId) :
    ((s.mapAgendas f).room r).agenda = f r (s.room r).agenda := by simp [State.mapAgendas]

theorem agenda_mapHandle (s : State) (h : Handle) (f : Entry → Entry) (r : RoomId) :
    ((s.mapHandle h f).room r).agenda = (s.room r).agenda.map fun e => if e.handle == h then f e else e :=
  agenda_mapAgendas ..

theorem agenda_removeHandle (s : State) (h : Handle) (r : RoomId) :
    ((s.removeHandle h).room r).agenda = (s.room r).agenda.filter fun e => e.handle != h := agenda_mapAgendas ..

theorem Quiet.untimed {s t : State} (h : Quiet s t) (r : RoomId) : t.untimed r = s.untimed r := by
  rw [State.untimed, h.agenda]; rfl

theorem Quiet.bookings {s t : State} (h : Quiet s t) (r : RoomId) : t.bookings r = s.bookings r :=
  bookings_of_agenda (h.agenda r)

theorem Follows.agenda {s t : State} (h : Follows s t) (r : RoomId) : (t.room r).agenda = (s.room r).agenda :=
  (h.rooms r).agenda

theorem untimed_setTimer (s : State) (h : Handle) (t : Option NoShow) (r : RoomId) :
    (s.setTimer h t).untimed r = s.untimed r := by
  unfold State.untimed State.setTimer
  rw [agenda_mapAgendas, List.map_map]
  refine List.map_congr_left fun e _ => ?_
  simp only [Function.comp_apply]
  split <;> rfl

theorem bookings_setTimer (s : State) (h : Handle) (t : Option NoShow) (r : RoomId) :
    (s.setTimer h t).bookings r = s.bookings r := bookings_of_untimed (untimed_setTimer ..)

theorem untimed_settleTimers (s b : State) (r : RoomId) : (s.settleTimers b).untimed r = s.untimed r := by
  refine foldl_keeps (fun s => s.untimed r) (fun s p => ?_) _ s
  split <;> exact untimed_setTimer ..

/-- A change of entries that keeps each as it is booked. -/
theorem bookings_mapAgendas {f : RoomId → Entry → Entry} (hf : ∀ r e, (f r e).booking = e.booking) (s : State)
    (r : RoomId) : (s.mapAgendas fun r a => a.map (f r)).bookings r = s.bookings r := by
  rw [State.bookings, agenda_mapAgendas, List.map_map]
  exact List.map_congr_left fun e _ => hf r e

theorem bookings_mapHandle {f : Entry → Entry} (hf : ∀ e, (f e).booking = e.booking) (s : State) (h : Handle)
    (r : RoomId) : (s.mapHandle h f).bookings r = s.bookings r :=
  bookings_mapAgendas (f := fun _ e => if e.handle == h then f e else e) (fun _ e => by
    split
    · exact hf e
    · rfl) s r

/-- Each entry takes its state by the table of R53, and loses no more than its timer. -/
theorem untimed_evalAgendas (s : State) (m : Nat) (r : RoomId) :
    (s.evalAgendas m).untimed r = (s.room r).agenda.map fun e =>
      { e with state := evalState m (s.profiles.get e.cls).lead (s.closed r) e, timer := none } := by
  unfold State.evalAgendas
  rw [(Quiet.reportChanges ..).untimed, untimed_settleTimers, State.untimed, agenda_mapAgendas, List.map_map]
  rfl

theorem bookings_evalAgendas (s : State) (m : Nat) (r : RoomId) : (s.evalAgendas m).bookings r = s.bookings r := by
  unfold State.evalAgendas
  rw [(Quiet.reportChanges ..).bookings, bookings_of_untimed (untimed_settleTimers ..)]
  exact bookings_mapAgendas (f := fun r e => e.toState (evalState m (s.leadOf e) (s.closed r) e)) (fun _ _ => rfl) s r

theorem bookings_rewind (s : State) (m : Nat) (r : RoomId) : (s.rewind m).bookings r = s.bookings r := by
  unfold State.rewind
  rw [(Quiet.reportChanges ..).bookings, bookings_of_untimed (untimed_settleTimers ..)]
  refine bookings_mapAgendas (f := fun r e => if e.state = .waiting ∨ e.state = .preconditioning then
      e.toState (placeState m (s.leadOf e) (s.closed r) e.start e.curEnd) else e) (fun _ e => ?_) s r
  split <;> rfl

theorem bookings_jump (s : State) (a b : Nat) (r : RoomId) : (s.jump a b).bookings r = s.bookings r := by
  unfold State.jump
  split
  · exact bookings_evalAgendas ..
  · split
    · exact bookings_rewind ..
    · rfl

/-! ### Entries added and removed -/

theorem insertEntry_booking (e : Entry) (l : List Entry) :
    (insertEntry e l).map Entry.booking = insertEntry e.booking (l.map Entry.booking) := by
  induction l with
  | nil => rfl
  | cons x l ih =>
    rw [List.map_cons, insertEntry, insertEntry, booking_start, booking_start]
    split
    · rfl
    · rw [List.map_cons, ih]

theorem mem_insertEntry {e x : Entry} {l : List Entry} : x ∈ insertEntry e l ↔ x = e ∨ x ∈ l := by
  induction l with
  | nil => simp [insertEntry]
  | cons y l ih =>
    unfold insertEntry
    split
    · simp
    · rw [List.mem_cons, ih, List.mem_cons]; tauto

theorem filter_insertEntry {p : Entry → Bool} {e : Entry} (he : p e = false) (l : List Entry) :
    (insertEntry e l).filter p = l.filter p := by
  induction l with
  | nil => simp [insertEntry, he]
  | cons x l ih =>
    unfold insertEntry
    split
    · rw [List.filter_cons, he]; rfl
    · rw [List.filter_cons, List.filter_cons, ih]

theorem bookings_addEntry (s : State) (r q : RoomId) (e : Entry) :
    (s.addEntry r e).bookings q = if q = r then insertEntry e.booking (s.bookings r) else s.bookings q := by
  unfold State.addEntry State.bookings
  rw [room_modifyRoom]
  split
  · exact insertEntry_booking ..
  · rfl

theorem bookings_removeHandle (s : State) (h : Handle) (r : RoomId) :
    (s.removeHandle h).bookings r = (s.bookings r).filter fun e => e.handle != h := by
  rw [State.bookings, agenda_removeHandle, State.bookings, List.filter_map]
  rfl

theorem keys_removeHandle (s : State) (h : Handle) (r : RoomId) :
    (s.removeHandle h).keys r = (s.keys r).filter fun e => e.1 != h := by
  rw [State.keys, agenda_removeHandle, State.keys, List.filter_map]
  rfl

/-- Late placement puts one entry of the record into a room each time the room is named (R60). -/
theorem bookings_place (s : State) (m : Nat) (rs : List RoomId) (h : Handle) (b : Record) (q : RoomId) :
    (s.place m rs h b).bookings q = (insertEntry (newEntry h b))^[rs.count q] (s.bookings q) := by
  have added (st : RoomId → EntryState) (l : List RoomId) (t : State) :
      (l.foldl (fun t r => t.addEntry r ((newEntry h b).toState (st r))) t).bookings q =
        (insertEntry (newEntry h b))^[l.count q] (t.bookings q) := by
    induction l generalizing t with
    | nil => rfl
    | cons r l ih =>
      rw [List.foldl_cons, ih, bookings_addEntry, List.count_cons]
      by_cases hq : q = r
      · subst hq; simp
      · simp [hq, Ne.symm hq]
  unfold State.place; dsimp only; split
  · exact (bookings_setTimer ..).trans (added _ rs s)
  · exact added _ rs s

theorem mem_insertEntry_iterate {e x : Entry} {l : List Entry} (n : Nat) :
    x ∈ (insertEntry e)^[n] l ↔ (0 < n ∧ x = e) ∨ x ∈ l := by
  induction n with
  | zero => simp
  | succ n ih => rw [Function.iterate_succ_apply', mem_insertEntry, ih]; simp; tauto

theorem filter_insertEntry_iterate {p : Entry → Bool} {e : Entry} (he : p e = false) (n : Nat) (l : List Entry) :
    ((insertEntry e)^[n] l).filter p = l.filter p := by
  induction n with
  | zero => rfl
  | succ n ih => rw [Function.iterate_succ_apply', filter_insertEntry he, ih]

theorem mem_bookings_place {s : State} {m : Nat} {rs : List RoomId} {h : Handle} {b : Record} {q : RoomId} {e : Entry} :
    e ∈ (s.place m rs h b).bookings q ↔ (q ∈ rs ∧ e = newEntry h b) ∨ e ∈ s.bookings q := by
  rw [bookings_place, mem_insertEntry_iterate, List.count_pos_iff]

/-! ## Held confirm requests -/

/-- What applying a confirm request leaves: the port, every agenda as it is booked, and what the rooms wait for at the
store. -/
structure Confirmed (s t : State) : Prop where
  port : t.port = s.port
  bookings : ∀ r, t.bookings r = s.bookings r
  pending : ∀ r, (t.room r).ctx.extPending = (s.room r).ctx.extPending

theorem Confirmed.refl (s : State) : Confirmed s s := ⟨rfl, fun _ => rfl, fun _ => rfl⟩

theorem Confirmed.trans {s t u : State} (a : Confirmed s t) (b : Confirmed t u) : Confirmed s u :=
  ⟨b.port.trans a.port, fun r => (b.bookings r).trans (a.bookings r), fun r => (b.pending r).trans (a.pending r)⟩

theorem Quiet.confirmed {s t : State} (h : Quiet s t) (p : ∀ r, (t.room r).ctx.extPending = (s.room r).ctx.extPending) :
    Confirmed s t := ⟨h.port, h.bookings, p⟩

theorem Confirmed.modifyCtx (s : State) (r : RoomId) {f : Context → Context}
    (h : ∀ c, (f c).extPending = c.extPending) : Confirmed s (s.modifyCtx r f) :=
  (Quiet.modifyCtx s r f).confirmed fun q => by
    rw [State.modifyCtx, room_modifyRoom]; split
    · subst_vars; exact h _
    · rfl

theorem Confirmed.confirmAnswered (s : State) (r : RoomId) (h : Handle) (a : ConfirmAnswer) :
    Confirmed s (s.confirmAnswered r h a) := by
  have cleared : Confirmed s (s.modifyCtx r fun c => { c with outConfirm := none }) := .modifyCtx _ _ fun _ => rfl
  have noted (t : State) : Confirmed t (t.modifyCtx r fun c => c.raiseNote .confirm h) :=
    .modifyCtx _ _ fun c => by unfold Context.raiseNote; split <;> rfl
  have again (t : State) : Confirmed t (t.confirmIfStarted r) :=
    (Quiet.confirmIfStarted t r).confirmed (serviceClosed_sends.confirmIfStarted t r).pending
  unfold State.confirmAnswered; dsimp only
  split <;> split
  · exact (cleared.trans (noted _)).trans (again _)
  · exact cleared.trans (noted _)
  · exact cleared.trans (again _)
  · exact cleared

theorem Confirmed.applyConfirm (s : State) (r : RoomId) (h : Handle) : Confirmed s (s.applyConfirm r h) := by
  have mapped : Confirmed s (s.mapHandle h fun e => if e.state = .started then e.toState .confirmed else e) :=
    ⟨rfl, bookings_mapHandle (fun e => by split <;> rfl) s h, fun r => by rw [(OnlyAgendas.mapHandle s h _).ctx]⟩
  have told (t : State) : Confirmed t (t.reportChanges s none) :=
    (Quiet.reportChanges t s none).confirmed (Sends.reportChanges t s none).pending
  unfold State.applyConfirm; split
  · exact (mapped.trans (told _)).trans (.confirmAnswered ..)
  all_goals exact .confirmAnswered ..

/-- Held work that is confirm requests alone is applied as such (R52). -/
theorem Confirmed.applyHeld {s : State} (h : ∀ w ∈ s.cal.work, w.isConfirm = true) : Confirmed s s.applyHeld := by
  have run (l : List CalWork) (hl : ∀ w ∈ l, w.isConfirm = true) (t : State) :
      Confirmed t (l.foldl (fun s w => s.applyWork w) t) := by
    induction l generalizing t with
    | nil => exact .refl t
    | cons w l ih =>
      have one : Confirmed t (t.applyWork w) := by
        cases w with
        | confirm r h => exact .applyConfirm ..
        | _ => exact absurd (hl _ (List.mem_cons_self ..)) Bool.false_ne_true
      exact one.trans (ih (fun w hw => hl w (List.mem_cons_of_mem _ hw)) _)
  have taken : Confirmed s { s with cal := { s.cal with work := [] } } := ⟨rfl, fun _ => rfl, fun _ => rfl⟩
  exact taken.trans (run _ h _)

/-! ## The end of a store operation -/

theorem Settles.slots {u t : State} (h : Settles u t) : t.store.slots = u.store.slots := by
  obtain ⟨v, work, follows⟩ := h
  exact follows.slots.trans (congrArg Store.slots work.store)

theorem getLsbD_raiseIf {p : Port} {k : Cause} (h : p.flags.getLsbD k.index = true) (b : Bool) (c : Cause) :
    (p.raiseIf b c).flags.getLsbD k.index = true := by
  unfold Port.raiseIf
  split
  · simp [Port.raise, h]
  · exact h

/-- What follows an effect clears no attention flag. -/
theorem flagged_finish {s : State} {k : Cause} (h : s.flagged k = true) (b : State) :
    (s.finish b).flagged k = true := by
  have kept (p : RoomId → Bool) : (s.follow.noteRooms p).flagged k = true :=
    getLsbD_raiseIf (p := { s.port with roomChanges := s.port.roomChanges.mapIdx fun r b => b || p r }) h _ _
  rw [State.flagged, finish_port]
  exact kept _

/-- What follows an effect takes no room out of the room change set. -/
theorem roomChanges_finish {s : State} {r : RoomId} (h : s.port.roomChanges.get r = true) (b : State) :
    (s.finish b).port.roomChanges.get r = true := by
  rw [finish_port]
  simp [State.noteRooms, raiseIf_roomChanges, h]

/-- How an operation ends whose effect has taken `v` to `u` by work of the rooms: the confirm requests that they have
sent meanwhile are applied, and `t` is what follows. -/
structure Concluded (v u t : State) : Prop where
  settles : Settles v.releaseStore t
  slot : t.port.slot = u.port.slot
  bookingChanges : t.port.bookingChanges = u.port.bookingChanges
  flagged : ∀ k, u.flagged k = true → t.flagged k = true
  bookings : ∀ r, t.bookings r = u.bookings r
  pending : ∀ r, (t.room r).ctx.extPending = (u.room r).ctx.extPending
  follows : u.cal.work = [] → Follows u.releaseStore t

theorem RoomWork.releaseStore {v u : State} (h : RoomWork v u) : RoomWork v.releaseStore u.releaseStore :=
  { h with
    store := congrArg (fun x : Store => { x with running := none }) h.store
    port := h.port, cfg := h.cfg, cal := h.cal, air := h.air, light := h.light, blinds := h.blinds,
    station := h.station, safe := h.safe, hold := h.hold }

theorem concluded {v u : State} (work : RoomWork v u) (confirms : ∀ w ∈ u.cal.work, w.isConfirm = true) (b : State) :
    Concluded v u ((u.releaseStore.applyHeld).finish b) := by
  have f := Follows.finish u.releaseStore.applyHeld b
  have held : Confirmed u.releaseStore u.releaseStore.applyHeld := .applyHeld confirms
  have port : u.releaseStore.applyHeld.port = u.port := held.port
  refine ⟨⟨_, work.releaseStore.trans (.applyHeld _), f⟩, ?_, ?_, fun k hk => ?_, fun r => ?_, fun r => ?_,
    fun none => ?_⟩
  · rw [f.slot, port]
  · rw [f.bookingChanges, port]
  · exact flagged_finish (by rw [State.flagged, port]; exact hk) b
  · exact (bookings_of_agenda (f.agenda r)).trans (held.bookings r)
  · exact (f.rooms r).extPending.trans (held.pending r)
  · rwa [applyHeld_of_no_work (s := u.releaseStore) none] at f ⊢

/-- A running operation completes: its effect, the calendar's held work, and what follows (R42, R43, R52). -/
theorem completeOp_of_running {s : State} {run : Running} (h : s.store.running = some run) :
    s.completeOp = ((s.opEffect run).releaseStore.applyHeld).finish s := by
  rw [State.completeOp, h]

theorem completeIf_of_running {s : State} {run : Running} {p : StoreOp → Bool} (h : s.store.running = some run)
    (hp : p run.op = true) : s.completeIf p = ((s.opEffect run).releaseStore.applyHeld).finish s := by
  rw [State.completeIf, h, Option.any_some, if_pos hp, completeOp_of_running h]

/-- How a served host command ends whose effect has taken the part, as `v`, to `u`: answered, and with the confirm
requests that the rooms have sent meanwhile applied. -/
structure Served (v u : State) (c : Instr) (e : Status) (x : Result) (t : State) : Prop where
  answered : t.answeredWith c e x
  settles : Settles (v.answered c e x) t
  bookingChanges : t.port.bookingChanges = u.port.bookingChanges
  bookings : ∀ r, t.bookings r = u.bookings r
  agenda : u.cal.work = [] → ∀ r, (t.room r).agenda = (u.room r).agenda

theorem RoomWork.respond_both {v u : State} (h : RoomWork v u) (c : Instr) (l : Bool) (e : Status) (x : Result) :
    RoomWork (v.respond c l e x) (u.respond c l e x) :=
  { h with
    port := { h.port with }, cfg := h.cfg, cal := h.cal, air := h.air, light := h.light, blinds := h.blinds,
    station := h.station, safe := h.safe, hold := h.hold }

theorem served {v w u : State} {c : Instr} {e : Status} {x : Result}
    (hv : (w.respond c false e x).releaseStore = v.answered c e x) (work : RoomWork w u)
    (confirms : ∀ w ∈ u.cal.work, w.isConfirm = true) (b : State) :
    Served v u c e x (((u.respond c false e x).releaseStore.applyHeld).finish b) := by
  obtain ⟨settles, slot, changes, -, bookings, -, follows⟩ := concluded (work.respond_both c false e x) confirms b
  exact ⟨slot, hv ▸ settles, changes, bookings, fun none => (follows none).agenda⟩

/-- A ready part performs a host command whose effect is work of the rooms on top of a change of the store or the
clock: `w` is the part with that change, and `v` what it comes to where nothing runs. -/
theorem performed_of_work {s v w u : State} {c : Instr} {op : HostOp} {e : Status} {x : Result} {q : State → Prop}
    (hready : s.ready) (hexec : exec c s = .next ((s.hostHeard.storeCommand c op).takeNext))
    (heff : (s.serving c op).hostEffect s.instant op = (u, e, x))
    (hv : (w.respond c false e x).releaseStore = v.answered c e x) (work : RoomWork w u)
    (slot : u.port.slot = .executing c false) (confirms : ∀ w ∈ u.cal.work, w.isConfirm = true)
    (hq : ∀ t, Served v u c e x t → q t) : Performed c s q :=
  ⟨s.serving c op, _, hexec.trans (by rw [storeCommand_takeNext hready]),
    congrArg Host.Outcome.next (completeOp_serving heff slot), hq _ (served hv work confirms _)⟩

end Sys2Proof.Machine
end

section
/-! PROOFS. The booking commands: what each makes of the store and of today's agendas, and when it is refused (R19, R24
to R30). -/
namespace Sys2Proof.Machine

/-! ## Commands that change the store and tell the rooms -/

/-- Rooms whose agendas are as they were are told nothing. -/
theorem reportChanges_of_same {s b : State} (h : ∀ r, (s.room r).agenda = (b.room r).agenda) (m : Option Nat) :
    s.reportChanges b m = s := by
  have none : changedRooms b s = [] := by simp [changedRooms, h]
  rw [State.reportChanges, none]; rfl

/-- How a served host command ends whose effect has changed the part, as `v`, in its agendas alone, as in `w`, and told
the rooms. -/
structure Told (v w : State) (c : Instr) (e : Status) (x : Result) (t : State) : Prop where
  answered : t.answeredWith c e x
  settles : Settles (v.answered c e x) t
  bookingChanges : t.port.bookingChanges = v.port.bookingChanges
  bookings : ∀ r, t.bookings r = w.bookings r
  agenda : (∀ r, (w.room r).agenda = (v.room r).agenda) → ∀ r, (t.room r).agenda = (v.room r).agenda

theorem performed_told {s v w : State} {c : Instr} {op : HostOp} {e : Status} {x : Result} {q : State → Prop}
    (hready : s.ready) (hexec : exec c s = .next ((s.hostHeard.storeCommand c op).takeNext))
    (heff : (s.serving c op).hostEffect s.instant op = (w.reportChanges (s.serving c op) none, e, x))
    (hv : v.store.running = none) (hwork : v.cal.work = []) (hrooms : ∀ r, (v.room r).agenda = (s.room r).agenda)
    (only : OnlyAgendas (v.serving c op) w) (hq : ∀ t, Told v w c e x t → q t) : Performed c s q := by
  have port : (w.reportChanges (s.serving c op) none).port = (v.serving c op).port :=
    Eq.trans (SamePort.reportChanges ..) only.port
  have sends : Sends (v.serving c op) (w.reportChanges (s.serving c op) none) := only.sends.trans (.reportChanges ..)
  refine performed_of_work hready hexec heff (release_respond_serving hv ..)
    (only.roomWork.trans (.reportChanges ..)) (by rw [port]; rfl)
    (sends.confirms hwork) fun t done => hq t ⟨done.answered, done.settles, ?_, fun r => ?_, fun same r => ?_⟩
  · rw [done.bookingChanges, port]; rfl
  · exact (done.bookings r).trans ((Quiet.reportChanges ..).bookings r)
  · have told : w.reportChanges (s.serving c op) none = w :=
      reportChanges_of_same (fun r => (same r).trans (hrooms r)) none
    have none : (w.reportChanges (s.serving c op) none).cal.work = [] := by rw [told, only.cal]; exact hwork
    rw [done.agenda none r, told, same]

/-! ## Placement -/

theorem placeToday_of_due {s : State} {now : Instant} {b : Record}
    (h : (now.valid && s.occurs b now.date && now.minute < b.stop) = true) (g : Handle) :
    s.placeToday now g b = s.place now.minute (s.claims b.target) g b := if_pos h

theorem placeToday_of_not_due {s : State} {now : Instant} {b : Record}
    (h : (now.valid && s.occurs b now.date && now.minute < b.stop) = false) (g : Handle) : s.placeToday now g b = s :=
  if_neg (by simp [h])

theorem mem_bookings_placeToday {s : State} {now : Instant} {g : Handle} {b : Record} {q : RoomId} {e : Entry} :
    e ∈ (s.placeToday now g b).bookings q ↔
      ((now.valid && s.occurs b now.date && now.minute < b.stop) = true ∧ q ∈ s.claims b.target ∧ e = newEntry g b) ∨
        e ∈ s.bookings q := by
  cases due : now.valid && s.occurs b now.date && now.minute < b.stop with
  | true => rw [placeToday_of_due due, mem_bookings_place]; simp
  | false => rw [placeToday_of_not_due due]; simp

theorem keys_place_others (s : State) (m : Nat) (rs : List RoomId) (g : Handle) (b : Record) (r : RoomId) :
    ((s.place m rs g b).keys r).filter (fun e => e.1 != g) = (s.keys r).filter fun e => e.1 != g := by
  have own : ((fun e : Handle × Nat × Nat × Nat => e.1 != g) ∘
      fun e : Entry => (e.handle, e.start, e.curEnd, e.ext)) (newEntry g b) = false := by simp [newEntry]
  rw [keys_eq_bookings, keys_eq_bookings, bookings_place, List.filter_map, List.filter_map,
    filter_insertEntry_iterate own]

theorem keys_placeToday_others (s : State) (now : Instant) (g : Handle) (b : Record) (r : RoomId) :
    ((s.placeToday now g b).keys r).filter (fun e => e.1 != g) = (s.keys r).filter fun e => e.1 != g := by
  unfold State.placeToday; split
  · exact keys_place_others ..
  · rfl

/-- An entry placed today stands in the room as the record books it. -/
theorem exists_placed {s t : State} {now : Instant} {g : Handle} {b : Record} {r : RoomId}
    (ht : t.bookings r = (s.placeToday now g b).bookings r)
    (due : (now.valid && s.occurs b now.date && now.minute < b.stop) = true) (hr : r ∈ s.claims b.target) :
    ∃ e ∈ (t.room r).agenda, e.handle = g ∧ e.start = b.start ∧ e.curEnd = b.stop ∧ e.ext = 0 ∧ e.cls = b.cls ∧
      e.attendance = b.attendance := by
  refine (exists_booking (p := fun e => e.handle = g ∧ e.start = b.start ∧ e.curEnd = b.stop ∧ e.ext = 0 ∧
    e.cls = b.cls ∧ e.attendance = b.attendance) (fun e => Iff.rfl) t r).1
    ⟨newEntry g b, ?_, rfl, rfl, rfl, rfl, rfl, rfl⟩
  rw [ht, mem_bookings_placeToday]
  exact .inl ⟨due, hr, rfl⟩

/-! ## CREATE_BOOKING -/

theorem crowded_of_collision {s : State} {now : Instant} {p : Proposal} {h : Handle} (hc : s.collision now p = some h) :
    s.crowded now p = some (.conflict, .handle h) := by rw [State.crowded, hc]

theorem crowded_of_dayFull {s : State} {now : Instant} {p : Proposal} {d : Date} {r : RoomId}
    (hc : s.collision now p = none) (hd : s.dayFull now p = some (d, r)) :
    s.crowded now p = some (.dayFull, .dayFull d r) := by rw [State.crowded, hc, hd]; rfl

section Create
variable {s : State} {now : Instant} {f : BookingFields} {b : Record} {clamped : Bool} {k : SlotId}

theorem createBooking_range (hf : recordOf f = none) : s.createBooking now f = s.refuse .range := by
  simp only [State.createBooking, hf]

theorem createBooking_past (hf : recordOf f = some (b, clamped)) (past : inPast now b b.stop = true) :
    s.createBooking now f = s.refuse .past := by
  simp only [State.createBooking, hf, past, if_true]

theorem createBooking_notEnabled (hf : recordOf f = some (b, clamped)) (past : inPast now b b.stop = false)
    (target : s.targetReady b.target = false) : s.createBooking now f = s.refuse .notEnabled := by
  simp [State.createBooking, hf, past, target]

theorem createBooking_full (hf : recordOf f = some (b, clamped)) (past : inPast now b b.stop = false)
    (target : s.targetReady b.target = true) (full : s.lowestFree = none) :
    s.createBooking now f = s.refuse .full := by
  simp [State.createBooking, hf, past, target, full]

theorem createBooking_crowded {e : Status × Result} (hf : recordOf f = some (b, clamped))
    (past : inPast now b b.stop = false) (target : s.targetReady b.target = true) (free : s.lowestFree = some k)
    (crowd : s.crowded now ⟨none, b, 0⟩ = some e) : s.createBooking now f = (s, e) := by
  simp [State.createBooking, hf, past, target, free, crowd]

theorem createBooking_stored (hf : recordOf f = some (b, clamped)) (past : inPast now b b.stop = false)
    (target : s.targetReady b.target = true) (free : s.lowestFree = some k)
    (crowd : s.crowded now ⟨none, b, 0⟩ = none) :
    s.createBooking now f =
      (((s.setSlot k ⟨(s.store.slots.get k).gen, some b⟩).placeToday now
        ⟨k.val, (s.store.slots.get k).gen⟩ b).reportChanges s none, s.bookedStatus b clamped,
        .booking ⟨k.val, (s.store.slots.get k).gen⟩ b) := by
  simp [State.createBooking, hf, past, target, free, crowd]

end Create

/-- Settles O16: the record is stored, and today's occurrence placed, before the rooms are told. -/
theorem bookingCreated : Obligations.BookingCreated := by
  intro s f b clamped k hr hf past target free crowd h
  refine performed_told (v := s.setSlot k ⟨h.gen, some b⟩)
    (w := ((s.serving (.createBooking f) (.command (.createBooking f))).setSlot k ⟨h.gen, some b⟩).placeToday
      s.instant h b)
    hr (exec_storeCommand hr.1 rfl)
    (createBooking_stored (s := s.serving ..) hf past target free crowd) (running_of_ready hr) (work_of_ready hr)
    (fun _ => rfl) (.placeToday ..) fun t told => ?_
  obtain ⟨-, state, noShows, releases⟩ := recordOf_ok hf
  refine ⟨told.answered, told.settles.slots, state, noShows, releases, told.settles, fun past => ?_,
    fun due r claimed => ?_⟩
  · exact told.agenda fun r => by rw [placeToday_of_not_due past]; rfl
  · exact exists_placed (told.bookings r) due claimed

/-! ## CANCEL_BOOKING -/

theorem cancelBooking_refused {s : State} {h : Handle} {e : Status} (hr : s.resolve h = .refused e) :
    s.cancelBooking h = s.refuse e := by simp only [State.cancelBooking, hr]

theorem cancelBooking_live {s : State} {h : Handle} {k : SlotId} {b : Record} (hr : s.resolve h = .live k b) :
    s.cancelBooking h = (((s.freeSlot k).removeHandle h).reportChanges s none, .ok, .handle h) := by
  simp only [State.cancelBooking, hr]

/-- Settles O18: the slot is freed and the entries removed before the rooms are told. -/
theorem bookingCancelled : Obligations.BookingCancelled := by
  intro s h k b hr live
  obtain ⟨-, gen, -⟩ := slot_of_resolve live
  refine performed_told (v := s.freeSlot k)
    (w := ((s.serving (.cancelBooking h) (.command (.cancelBooking h))).freeSlot k).removeHandle h) hr
    (exec_storeCommand hr.1 rfl) (cancelBooking_live (s := s.serving ..) live) (running_of_ready hr) (work_of_ready hr)
    (fun _ => rfl) (.removeHandle ..) fun t told => ?_
  refine ⟨told.answered, ?_, told.settles, told.bookingChanges, fun r => ?_⟩
  · rw [told.settles.slots, ← gen]; rfl
  · rw [keys_of_bookings (told.bookings r), keys_removeHandle]; rfl

/-! ## SUSPEND_BOOKING and RESUME_BOOKING -/

section Resume
variable {s : State} {now : Instant} {h : Handle} {k : SlotId} {old : Record}

theorem suspendBooking_refused {e : Status} (hr : s.resolve h = .refused e) : s.suspendBooking h = s.refuse e := by
  simp only [State.suspendBooking, hr]

theorem modifyRecord_of_live (hr : s.resolve h = .live k old) (f : Record → Record) :
    s.modifyRecord k f = s.setSlot k ⟨h.gen, some (f old)⟩ := by
  obtain ⟨-, gen, record⟩ := slot_of_resolve hr
  simp only [State.modifyRecord, gen, record, Option.map_some]

theorem suspendBooking_live (hr : s.resolve h = .live k old) :
    s.suspendBooking h =
      (((s.setSlot k ⟨h.gen, some { old with state := .suspended .host }⟩).removeHandle h).reportChanges s none, .ok,
        .none) := by
  simp only [State.suspendBooking, hr, modifyRecord_of_live hr]

theorem resumeBooking_refused {e : Status} (hr : s.resolve h = .refused e) : s.resumeBooking now h = s.refuse e := by
  simp only [State.resumeBooking, hr]

theorem resumeBooking_active (hr : s.resolve h = .live k old) (active : old.state = .active) :
    s.resumeBooking now h = (s, .ok, .none) := by simp only [State.resumeBooking, hr, active, if_true]

/-- A record as RESUME_BOOKING would have it (R30). -/
def Record.resumed (b : Record) : Record := { b with state := .active, noShows := 0 }

theorem resumeBooking_past (hr : s.resolve h = .live k old) (idle : old.state ≠ .active)
    (past : inPast now old.resumed old.resumed.stop = true) : s.resumeBooking now h = s.refuse .past := by
  simp only [State.resumeBooking, hr, if_neg idle]
  exact if_pos past

theorem resumeBooking_crowded {e : Status × Result} (hr : s.resolve h = .live k old) (idle : old.state ≠ .active)
    (past : inPast now old.resumed old.resumed.stop = false) (crowd : s.crowded now ⟨some h, old.resumed, 0⟩ = some e) :
    s.resumeBooking now h = (s, e) := by
  unfold Record.resumed at past crowd
  simp [State.resumeBooking, hr, idle, past, crowd]

theorem resumeBooking_stored (hr : s.resolve h = .live k old) (idle : old.state ≠ .active)
    (past : inPast now old.resumed old.resumed.stop = false) (crowd : s.crowded now ⟨some h, old.resumed, 0⟩ = none) :
    s.resumeBooking now h =
      (((s.setSlot k ⟨h.gen, some old.resumed⟩).placeToday now h old.resumed).reportChanges s none,
        s.bookedStatus old.resumed false, .none) := by
  unfold Record.resumed at past crowd
  simp [State.resumeBooking, hr, idle, past, crowd, Record.resumed]

end Resume

/-- Settles O19: a suspension is stored and its entries removed, a resumption stored and placed, before the rooms are
told. -/
theorem bookingSuspendedAndResumed : Obligations.BookingSuspendedAndResumed := by
  intro s h k old hr live
  refine ⟨?suspend, fun active => ?keep, fun idle => ?resume⟩
  case suspend =>
    refine performed_told (v := s.setSlot k ⟨h.gen, some { old with state := .suspended .host }⟩)
      (w := ((s.serving (.suspendBooking h) (.command (.suspendBooking h))).setSlot k
        ⟨h.gen, some { old with state := .suspended .host }⟩).removeHandle h) hr
      (exec_storeCommand hr.1 rfl) (suspendBooking_live (s := s.serving ..) live) (running_of_ready hr)
      (work_of_ready hr) (fun _ => rfl) (.removeHandle ..) fun t told => ?_
    refine ⟨told.answered, told.settles.slots, told.settles, told.bookingChanges, fun r => ?_⟩
    rw [keys_of_bookings (told.bookings r), keys_removeHandle]; rfl
  case keep =>
    exact performed_refused hr (exec_storeCommand hr.1 rfl) (resumeBooking_active (s := s.serving ..) live active)
  case resume =>
    intro b past crowd
    refine performed_told (v := s.setSlot k ⟨h.gen, some old.resumed⟩)
      (w := ((s.serving (.resumeBooking h) (.command (.resumeBooking h))).setSlot k
        ⟨h.gen, some old.resumed⟩).placeToday s.instant h old.resumed) hr
      (exec_storeCommand hr.1 rfl) (resumeBooking_stored (s := s.serving ..) live idle past crowd) (running_of_ready hr)
      (work_of_ready hr) (fun _ => rfl) (.placeToday ..) fun t told => ?_
    refine ⟨told.answered, told.settles.slots, told.settles, fun due r claimed => ?_⟩
    obtain ⟨e, he, handle, start, stop, -⟩ := exists_placed (told.bookings r) due claimed
    exact ⟨e, he, handle, start, stop⟩

end Sys2Proof.Machine
end

section
/-! PROOFS. AMEND_BOOKING, and every booking command that is refused (R19, R24, R26, R27, R30). -/
namespace Sys2Proof.Machine

/-! ## The checks of an amendment -/

/-- The record an amendment would store: the fields of the command with state, reason and counts of the old record
(R27). -/
def Record.amendedBy (old fields : Record) : Record :=
  { fields with state := old.state, noShows := old.noShows, releases := old.releases }

/-- The extension total that the tests of an amendment add (R21, R26). -/
def State.amendExt (s : State) (now : Instant) (h : Handle) : Nat := if now.valid then s.extOf h else 0

/-- The past test of an amendment, at the end that a live entry would take (R26). -/
def State.amendPast (s : State) (now : Instant) (h : Handle) (b : Record) : Bool :=
  inPast now b (if s.liveEntry now h then b.stop + s.amendExt now h else b.stop)

/-- A record differs from the old one in end and attendance alone. -/
def Record.endOnly (old b : Record) : Prop := b = { old with stop := b.stop, attendance := b.attendance }

theorem sameButEnd_iff (old fields : Record) :
    sameButEnd old (old.amendedBy fields) = true ↔ old.endOnly (old.amendedBy fields) := by
  simp only [sameButEnd, Record.amendedBy, Record.endOnly, Bool.and_eq_true, beq_iff_eq, Record.mk.injEq]
  tauto

section LiveTest
variable {now : Instant} {ext : Nat} {old fields : Record}

theorem liveTest_changed (h : ¬ old.endOnly (old.amendedBy fields)) :
    liveTest now true ext old (old.amendedBy fields) = some .live := by
  have differs : sameButEnd old (old.amendedBy fields) = false := by
    rwa [← Bool.not_eq_true, sameButEnd_iff]
  simp [liveTest, differs]

theorem liveTest_endOnly (h : old.endOnly (old.amendedBy fields)) :
    liveTest now true ext old (old.amendedBy fields) =
      if (old.amendedBy fields).stop + ext ≤ now.minute then some .past
      else if 1440 < (old.amendedBy fields).stop + ext then some .range
      else none := by
  simp only [liveTest, (sameButEnd_iff old fields).2 h, Bool.not_true, Bool.false_eq_true, if_false]

/-- The live test passes where no entry is live, or an end alone is changed to one that lies ahead and today (R26). -/
theorem liveTest_passes {live : Bool}
    (h : live = true → old.endOnly (old.amendedBy fields) ∧ now.minute < (old.amendedBy fields).stop + ext ∧
      (old.amendedBy fields).stop + ext ≤ 1440) : liveTest now live ext old (old.amendedBy fields) = none := by
  cases live with
  | false => rfl
  | true =>
    obtain ⟨same, ahead, today⟩ := h rfl
    rw [liveTest_endOnly same, if_neg (by omega), if_neg (by omega)]

end LiveTest

section Amend
variable {s : State} {now : Instant} {h : Handle} {f : BookingFields} {k : SlotId} {old fields : Record}
  {clamped : Bool}

theorem amendBooking_refused {e : Status} (hr : s.resolve h = .refused e) : s.amendBooking now h f = s.refuse e := by
  simp only [State.amendBooking, hr]

theorem amendBooking_range (hr : s.resolve h = .live k old) (hf : recordOf f = none) :
    s.amendBooking now h f = s.refuse .range := by simp only [State.amendBooking, hr, hf]

/-- The checks of an amendment whose handle and fields are in order, one after another (R26). -/
theorem amendBooking_checks (hr : s.resolve h = .live k old) (hf : recordOf f = some (fields, clamped)) :
    s.amendBooking now h f =
      if s.amendPast now h (old.amendedBy fields) then s.refuse .past
      else if !s.targetReady (old.amendedBy fields).target then s.refuse .notEnabled
      else match liveTest now (s.liveEntry now h) (s.amendExt now h) old (old.amendedBy fields) with
        | some e => s.refuse e
        | none =>
          match (if old.state = .active then
              s.crowded now ⟨some h, old.amendedBy fields, s.amendExt now h⟩ else none) with
          | some e => (s, e)
          | none =>
            (if old.state = .active then
              ((s.setSlot k ⟨h.gen, some (old.amendedBy fields)⟩).amendAgendas now h
                (old.amendedBy fields)).reportChanges s none
            else s.setSlot k ⟨h.gen, some (old.amendedBy fields)⟩,
              s.bookedStatus (old.amendedBy fields) clamped, .booking h (old.amendedBy fields)) := by
  simp only [State.amendBooking, hr, hf]; rfl

theorem amendBooking_past (hr : s.resolve h = .live k old) (hf : recordOf f = some (fields, clamped))
    (past : s.amendPast now h (old.amendedBy fields) = true) : s.amendBooking now h f = s.refuse .past := by
  rw [amendBooking_checks hr hf, if_pos past]

section Ahead
variable (hr : s.resolve h = .live k old) (hf : recordOf f = some (fields, clamped))
  (past : s.amendPast now h (old.amendedBy fields) = false)
include hr hf past

theorem amendBooking_notEnabled (target : s.targetReady (old.amendedBy fields).target = false) :
    s.amendBooking now h f = s.refuse .notEnabled := by
  rw [amendBooking_checks hr hf]; simp [past, target]

theorem amendBooking_live {e : Status} (target : s.targetReady (old.amendedBy fields).target = true)
    (live : liveTest now (s.liveEntry now h) (s.amendExt now h) old (old.amendedBy fields) = some e) :
    s.amendBooking now h f = s.refuse e := by
  rw [amendBooking_checks hr hf]; simp [past, target, live]

theorem amendBooking_crowded {e : Status × Result} (target : s.targetReady (old.amendedBy fields).target = true)
    (live : liveTest now (s.liveEntry now h) (s.amendExt now h) old (old.amendedBy fields) = none)
    (active : old.state = .active)
    (crowd : s.crowded now ⟨some h, old.amendedBy fields, s.amendExt now h⟩ = some e) :
    s.amendBooking now h f = (s, e) := by
  rw [amendBooking_checks hr hf]; simp [past, target, live, active, crowd]

/-- An amendment that passes its checks stores the record, and tells the rooms of what it makes of an ACTIVE record's
entries (R27). -/
theorem amendBooking_stored (target : s.targetReady (old.amendedBy fields).target = true)
    (live : liveTest now (s.liveEntry now h) (s.amendExt now h) old (old.amendedBy fields) = none)
    (crowd : old.state = .active → s.crowded now ⟨some h, old.amendedBy fields, s.amendExt now h⟩ = none) :
    s.amendBooking now h f =
      ((if old.state = .active then
          (s.setSlot k ⟨h.gen, some (old.amendedBy fields)⟩).amendAgendas now h (old.amendedBy fields)
        else s.setSlot k ⟨h.gen, some (old.amendedBy fields)⟩).reportChanges s none,
        s.bookedStatus (old.amendedBy fields) clamped, .booking h (old.amendedBy fields)) := by
  have untold : (s.setSlot k ⟨h.gen, some (old.amendedBy fields)⟩).reportChanges s none =
      s.setSlot k ⟨h.gen, some (old.amendedBy fields)⟩ := reportChanges_of_same (fun _ => rfl) none
  rw [amendBooking_checks hr hf]
  by_cases active : old.state = .active
  · simp [past, target, live, active, crowd active]
  · simp [past, target, live, active, untold]

end Ahead
end Amend

/-! ## What an amendment makes of today's agendas -/

theorem OnlyAgendas.amendAgendas (s : State) (now : Instant) (h : Handle) (b : Record) :
    OnlyAgendas s (s.amendAgendas now h b) := by
  unfold State.amendAgendas
  split
  · exact .refl s
  · split
    · exact .mapHandle ..
    · split
      · exact (OnlyAgendas.removeHandle ..).trans (.placeToday ..)
      · split
        · exact .refl s
        · exact .placeToday ..

theorem hasEntry_iff {s : State} {h : Handle} {p : EntryState → Bool} :
    s.hasEntry h p = true ↔ ∃ q, ∃ e ∈ (s.room q).agenda, e.handle = h ∧ p e.state = true := by
  have rooms (x : Room → Bool) : s.rooms.any x = true ↔ ∃ q, x (s.room q) = true := by
    unfold Table.any State.room Table.get
    rw [List.any_eq_true]
    constructor
    · rintro ⟨y, hy, hx⟩
      obtain ⟨i, hi, rfl⟩ := List.getElem_of_mem hy
      exact ⟨⟨i, s.rooms.size ▸ hi⟩, hx⟩
    · rintro ⟨q, hx⟩
      exact ⟨_, List.getElem_mem _, hx⟩
  unfold State.hasEntry
  rw [rooms]
  simp

theorem OnlyAgendas.eq {s t : State} (h : OnlyAgendas s t) (same : ∀ r, (t.room r).agenda = (s.room r).agenda) :
    t = s := by
  have rooms : t.rooms = s.rooms := Table.ext_get fun r => (h.room r).trans (by rw [same]; rfl)
  rw [h.rest, rooms]

/-- A handle with no entry has none to be removed. -/
theorem removeHandle_of_no_entry {s : State} {h : Handle} (none : ∀ q, ∀ e ∈ (s.room q).agenda, e.handle ≠ h) :
    s.removeHandle h = s := by
  refine (OnlyAgendas.removeHandle s h).eq fun r => ?_
  rw [agenda_removeHandle]
  exact List.filter_eq_self.2 fun e he => by simpa using none r e he

section AmendAgendas
variable {s : State} {now : Instant} {h : Handle} {b : Record}

theorem amendAgendas_invalid (invalid : now.valid = false) : s.amendAgendas now h b = s := by
  simp [State.amendAgendas, invalid]

theorem amendAgendas_live (live : s.liveEntry now h = true) :
    s.amendAgendas now h b = s.mapHandle h fun e => e.moveEnd (b.stop + e.ext) e.ext b.attendance := by
  obtain ⟨valid, entry⟩ := Bool.and_eq_true_iff.1 live
  simp [State.amendAgendas, valid, entry]

/-- Where no entry is live, a WAITING one, or none at all, is placed again (R27, assumption 51). -/
theorem amendAgendas_placed (valid : now.valid = true) (live : s.liveEntry now h = false)
    (placed : (∃ q, ∃ e ∈ (s.room q).agenda, e.handle = h ∧ e.state = .waiting) ∨
      ∀ q, ∀ e ∈ (s.room q).agenda, e.handle ≠ h) :
    s.amendAgendas now h b = (s.removeHandle h).placeToday now h b := by
  have idle : s.hasEntry h EntryState.live = false := by simpa [State.liveEntry, valid] using live
  cases waiting : s.hasEntry h (· == .waiting) with
  | true => simp [State.amendAgendas, valid, idle, waiting]
  | false =>
    have no_waiting : ¬ ∃ q, ∃ e ∈ (s.room q).agenda, e.handle = h ∧ e.state = .waiting := by
      rintro ⟨q, e, he, own, st⟩
      exact Bool.false_ne_true (waiting.symm.trans (hasEntry_iff.2 ⟨q, e, he, own, by simp [st]⟩))
    have none := placed.resolve_left no_waiting
    have nothing : s.hasEntry h (fun _ => true) = false := by
      rw [← Bool.not_eq_true, hasEntry_iff]
      rintro ⟨q, e, he, own, -⟩
      exact none q e he own
    simp [State.amendAgendas, valid, idle, waiting, nothing, removeHandle_of_no_entry none]

/-- Terminal entries of the handle, with none that waits, stay as they are (R27). -/
theorem amendAgendas_kept (valid : now.valid = true) (live : s.liveEntry now h = false)
    (kept : ¬ ((∃ q, ∃ e ∈ (s.room q).agenda, e.handle = h ∧ e.state = .waiting) ∨
      ∀ q, ∀ e ∈ (s.room q).agenda, e.handle ≠ h)) : s.amendAgendas now h b = s := by
  have idle : s.hasEntry h EntryState.live = false := by simpa [State.liveEntry, valid] using live
  have waiting : s.hasEntry h (· == .waiting) = false := by
    rw [← Bool.not_eq_true, hasEntry_iff]
    rintro ⟨q, e, he, own, st⟩
    exact kept (.inl ⟨q, e, he, own, by simpa using st⟩)
  have some : s.hasEntry h (fun _ => true) = true := by
    rw [hasEntry_iff]
    by_contra none
    exact kept (.inr fun q e he own => none ⟨q, e, he, own, rfl⟩)
  simp [State.amendAgendas, valid, idle, waiting, some]

end AmendAgendas

/-! ## AMEND_BOOKING -/

/-- A live entry takes the new end with its extension total and the new attendance (R27). -/
theorem moveEnd_booked (e : Entry) (stop attendance : Nat) :
    ((e.moveEnd (stop + e.ext) e.ext attendance).handle, (e.moveEnd (stop + e.ext) e.ext attendance).start,
      (e.moveEnd (stop + e.ext) e.ext attendance).curEnd, (e.moveEnd (stop + e.ext) e.ext attendance).ext,
      (e.moveEnd (stop + e.ext) e.ext attendance).attendance) =
    if e.state.terminal = false then (e.handle, e.start, stop + e.ext, e.ext, attendance)
    else (e.handle, e.start, e.curEnd, e.ext, e.attendance) := by
  unfold Entry.moveEnd
  cases e.state.terminal <;> rfl

/-- What R27 looks at of an entry, read from the bookings. -/
theorem booked_of_bookings {s t : State} {r : RoomId} (h : t.bookings r = s.bookings r) :
    (t.room r).agenda.map (fun e => (e.handle, e.start, e.curEnd, e.ext, e.attendance)) =
      (s.room r).agenda.map fun e => (e.handle, e.start, e.curEnd, e.ext, e.attendance) := by
  have booked (u : State) : (u.room r).agenda.map (fun e => (e.handle, e.start, e.curEnd, e.ext, e.attendance)) =
      (u.bookings r).map fun e => (e.handle, e.start, e.curEnd, e.ext, e.attendance) := by
    simp [State.bookings, Function.comp_def]
  rw [booked, booked, h]

theorem booked_moved {s t : State} {r : RoomId} {h : Handle} {stop attendance : Nat}
    (ht : t.bookings r = (s.mapHandle h fun e => e.moveEnd (stop + e.ext) e.ext attendance).bookings r) :
    (t.room r).agenda.map (fun e => (e.handle, e.start, e.curEnd, e.ext, e.attendance)) =
      (s.room r).agenda.map fun e =>
        if e.handle = h ∧ e.state.terminal = false then (e.handle, e.start, stop + e.ext, e.ext, attendance)
        else (e.handle, e.start, e.curEnd, e.ext, e.attendance) := by
  rw [booked_of_bookings ht, agenda_mapHandle, List.map_map]
  refine List.map_congr_left fun e _ => ?_
  by_cases own : e.handle = h
  · subst own
    simpa using moveEnd_booked e stop attendance
  · simp [own]

section Placed
variable {s t : State} {now : Instant} {h : Handle} {b : Record} {r : RoomId}
  (ht : t.bookings r = ((s.removeHandle h).placeToday now h b).bookings r)
include ht

theorem keys_replaced : (t.keys r).filter (fun e => e.1 != h) = (s.keys r).filter fun e => e.1 != h := by
  rw [keys_of_bookings ht, keys_placeToday_others, keys_removeHandle, List.filter_filter]
  simp only [Bool.and_self]

/-- Every entry that the handle then has is the one placed. -/
theorem mem_replaced {e : Entry} (own : e.handle = h) : e ∈ t.bookings r ↔
    (now.valid && s.occurs b now.date && now.minute < b.stop) = true ∧ r ∈ s.claims b.target ∧ e = newEntry h b := by
  have gone : e ∉ (s.removeHandle h).bookings r := by simp [bookings_removeHandle, own]
  rw [ht, mem_bookings_placeToday]
  exact or_iff_left gone

theorem exists_replaced : (∃ e ∈ (t.room r).agenda, e.handle = h) ↔
    (now.valid && s.occurs b now.date && now.minute < b.stop) = true ∧ r ∈ s.claims b.target := by
  rw [← exists_booking (p := fun e => e.handle = h) (fun _ => Iff.rfl)]
  constructor
  · rintro ⟨e, he, own⟩
    obtain ⟨due, claimed, -⟩ := (mem_replaced ht own).1 he
    exact ⟨due, claimed⟩
  · rintro ⟨due, claimed⟩
    exact ⟨newEntry h b, (mem_replaced ht rfl).2 ⟨due, claimed, rfl⟩, rfl⟩

theorem entries_replaced : ∀ e ∈ (t.room r).agenda, e.handle = h → e.start = b.start ∧ e.curEnd = b.stop ∧ e.ext = 0 ∧
    e.cls = b.cls ∧ e.attendance = b.attendance := by
  refine (forall_booking (p := fun e => e.handle = h → e.start = b.start ∧ e.curEnd = b.stop ∧ e.ext = 0 ∧
    e.cls = b.cls ∧ e.attendance = b.attendance) (fun _ => Iff.rfl) t r).1 fun e he own => ?_
  obtain ⟨-, -, rfl⟩ := (mem_replaced ht own).1 he
  exact ⟨rfl, rfl, rfl, rfl, rfl⟩

end Placed

/-- Settles O17: the record is stored, and each case of R27's table is one of `amendAgendas`. -/
theorem bookingAmended : Obligations.BookingAmended := by
  intro s h f k old fields clamped hr resolved hf b live ext past target test crowd
  refine performed_told (v := s.setSlot k ⟨h.gen, some b⟩) (w := if old.state = .active then
      ((s.serving (.amendBooking h f) (.command (.amendBooking h f))).setSlot k ⟨h.gen, some b⟩).amendAgendas
        s.instant h b
      else (s.serving (.amendBooking h f) (.command (.amendBooking h f))).setSlot k ⟨h.gen, some b⟩)
    hr (exec_storeCommand hr.1 rfl)
    (amendBooking_stored (s := s.serving ..) resolved hf past target test crowd) (running_of_ready hr)
    (work_of_ready hr) (fun _ => rfl) ?_ fun t told => ?_
  · split
    · exact .amendAgendas ..
    · exact .refl _
  refine ⟨told.answered, told.settles.slots, told.settles, fun untouched => ?_, fun active valid => ?_⟩
  · refine told.agenda fun r => ?_
    split
    · rename_i active
      rw [amendAgendas_invalid (untouched.resolve_left (not_not_intro active))]; rfl
    · rfl
  · rw [if_pos active] at told
    refine ⟨fun isLive r => ?_, fun notLive placed => ?_, fun notLive kept => told.agenda fun r => ?_⟩
    · have moved := booked_moved ((told.bookings r).trans (congrArg (State.bookings · r)
        (amendAgendas_live (s := (s.serving _ _).setSlot k ⟨h.gen, some b⟩) isLive)))
      exact moved
    · have replaced := fun r => (told.bookings r).trans (congrArg (State.bookings · r)
        (amendAgendas_placed (s := (s.serving _ _).setSlot k ⟨h.gen, some b⟩) valid notLive placed))
      have others := fun r => keys_replaced (replaced r)
      refine ⟨others, fun r => ?_, fun r => entries_replaced (replaced r)⟩
      have due : (s.cal.valid && s.occurs b s.today && s.cal.minute < b.stop) = true ↔
          s.occurs b s.today = true ∧ s.cal.minute < b.stop := by simp [valid]
      exact (exists_replaced (replaced r)).trans ((and_congr_left' due).trans and_assoc)
    · rw [amendAgendas_kept (s := (s.serving _ _).setSlot k ⟨h.gen, some b⟩) valid notLive kept]; rfl

/-! ## Refusals -/

theorem readBooking_refused {s : State} {h : Handle} {e : Status} (hr : s.resolve h = .refused e) :
    s.readBooking h = (e, .none) := by simp only [State.readBooking, hr]

/-- Settles O21: each refusal is one case of the command's function, and leaves the part as it was. -/
theorem storeRefusals : Obligations.StoreRefusals := by
  intro s hr
  refine ⟨fun h e refused => ?handle, fun f hf => ?range, fun f b cl hf => ?create, fun h k old live => ⟨fun f hf => ?_,
    fun f fields cl hf => ?amend, fun idle => ?resume⟩⟩
  case handle =>
    refine ⟨?_, ?_, ?_, ?_, fun f => ?_⟩
    · exact performed_refused hr (exec_storeCommand hr.1 rfl) (cancelBooking_refused (s := s.serving ..) refused)
    · exact performed_refused hr (exec_storeCommand hr.1 rfl) (suspendBooking_refused (s := s.serving ..) refused)
    · exact performed_refused hr (exec_storeCommand hr.1 rfl) (resumeBooking_refused (s := s.serving ..) refused)
    · exact performed_refused hr (exec_storeCommand hr.1 rfl)
        (congrArg (Prod.mk _) (readBooking_refused (s := s.serving ..) refused))
    · exact performed_refused hr (exec_storeCommand hr.1 rfl) (amendBooking_refused (s := s.serving ..) refused)
  case range => exact performed_refused hr (exec_storeCommand hr.1 rfl) (createBooking_range (s := s.serving ..) hf)
  case create =>
    refine ⟨fun past => ?_, fun past target => ?_, fun past target full => ?_, fun past target free => ?_⟩
    · exact performed_refused hr (exec_storeCommand hr.1 rfl) (createBooking_past (s := s.serving ..) hf past)
    · exact performed_refused hr (exec_storeCommand hr.1 rfl)
        (createBooking_notEnabled (s := s.serving ..) hf past target)
    · exact performed_refused hr (exec_storeCommand hr.1 rfl)
        (createBooking_full (s := s.serving ..) hf past target full)
    · obtain ⟨k, free⟩ := Option.isSome_iff_exists.1 free
      have crowded {e x} (crowd : s.crowded s.instant ⟨none, b, 0⟩ = some (e, x)) :
          Performed (.createBooking f) s (Follows (s.answered (.createBooking f) e x)) :=
        performed_refused hr (exec_storeCommand hr.1 rfl)
          (createBooking_crowded (s := s.serving ..) hf past target free crowd)
      exact ⟨fun h hit => crowded (crowded_of_collision hit), fun clear d r full =>
        crowded (crowded_of_dayFull clear full)⟩
  · exact performed_refused hr (exec_storeCommand hr.1 rfl) (amendBooking_range (s := s.serving ..) live hf)
  case amend =>
    refine ⟨fun past => ?_, fun past target => ?_, fun past target => ⟨fun isLive => ?_, fun passes active => ?_⟩⟩
    · exact performed_refused hr (exec_storeCommand hr.1 rfl) (amendBooking_past (s := s.serving ..) live hf past)
    · exact performed_refused hr (exec_storeCommand hr.1 rfl)
        (amendBooking_notEnabled (s := s.serving ..) live hf past target)
    · have refused {e} (test : liveTest s.instant (s.liveEntry s.instant h) (s.amendExt s.instant h) old
          (old.amendedBy fields) = some e) :
          Performed (.amendBooking h f) s (Follows (s.answered (.amendBooking h f) e .none)) :=
        performed_refused hr (exec_storeCommand hr.1 rfl)
          (amendBooking_live (s := s.serving ..) live hf past target test)
      refine ⟨fun changed => refused ?_, fun same overdue => refused ?_, fun same ahead late => refused ?_⟩
      · rw [isLive]; exact liveTest_changed changed
      · rw [isLive, liveTest_endOnly same]; exact if_pos overdue
      · rw [isLive, liveTest_endOnly same]; exact (if_neg (not_le.2 ahead)).trans (if_pos late)
    · have crowded {e x} (crowd : s.crowded s.instant ⟨some h, old.amendedBy fields, s.amendExt s.instant h⟩ =
          some (e, x)) :
          Performed (.amendBooking h f) s (Follows (s.answered (.amendBooking h f) e x)) :=
        performed_refused hr (exec_storeCommand hr.1 rfl)
          (amendBooking_crowded (s := s.serving ..) live hf past target (liveTest_passes passes) active crowd)
      exact ⟨fun g hit => crowded (crowded_of_collision hit), fun clear d r full =>
        crowded (crowded_of_dayFull clear full)⟩
  case resume =>
    refine ⟨fun past => ?_, fun past => ?_⟩
    · exact performed_refused hr (exec_storeCommand hr.1 rfl)
        (resumeBooking_past (s := s.serving ..) live idle past)
    · have crowded {e x} (crowd : s.crowded s.instant ⟨some h, old.resumed, 0⟩ = some (e, x)) :
          Performed (.resumeBooking h) s (Follows (s.answered (.resumeBooking h) e x)) :=
        performed_refused hr (exec_storeCommand hr.1 rfl)
          (resumeBooking_crowded (s := s.serving ..) live idle past crowd)
      exact ⟨fun g hit => crowded (crowded_of_collision hit), fun clear d r full =>
        crowded (crowded_of_dayFull clear full)⟩

end Sys2Proof.Machine
end

section
/-! PROOFS. The reads of the store: a record, the bookings of a room, an agenda, and the free-room search (R31 to
R34). -/
namespace Sys2Proof.Machine

/-- The first `n` of a list in order: what is not among them comes after all of them, and they are `n`. -/
theorem mem_take_or_after {α : Type} {R : α → α → Prop} {l : List α} (h : l.Pairwise R) (n : Nat) {x : α} (hx : x ∈ l) :
    x ∈ l.take n ∨ ((l.take n).length = n ∧ ∀ y ∈ l.take n, R y x) := by
  rw [← List.take_append_drop n l, List.mem_append] at hx
  refine hx.imp_right fun after => ⟨?_, fun y hy => ?_⟩
  · have some : (l.drop n).length ≠ 0 := fun none => List.not_mem_nil (List.length_eq_zero_iff.1 none ▸ after)
    rw [List.length_drop] at some
    rw [List.length_take]; omega
  · rw [← List.take_append_drop n l] at h
    exact (List.pairwise_append.1 h).2.2 y hy x after

/-! ## The records of the store -/

theorem mem_records {s : State} {h : Handle} {b : Record} : (h, b) ∈ s.records ↔ s.recordAt h = some b := by
  have slot (k : SlotId) : s.store.slots.list[k.val]? = some (s.store.slots.get k) :=
    List.getElem?_eq_getElem _
  simp only [State.records, List.mem_filterMap, Prod.exists, List.mem_zipIdx_iff_getElem?]
  constructor
  · rintro ⟨x, i, hx, named⟩
    obtain ⟨hi, -⟩ := List.getElem?_eq_some_iff.1 hx
    rw [s.store.slots.size] at hi
    obtain rfl := Option.some.inj ((slot ⟨i, hi⟩).symm.trans hx)
    cases record : (s.store.slots.get ⟨i, hi⟩).record with
    | none => simp [record] at named
    | some c =>
      simp only [record, Option.some.injEq, Prod.mk.injEq] at named
      obtain ⟨rfl, rfl⟩ := named
      simp [State.recordAt, asIndex, hi, record]
  · intro found
    unfold State.recordAt asIndex at found
    by_cases hi : h.slot < 512
    · simp only [hi, dite_true] at found
      split at found
      · rename_i gen
        exact ⟨_, h.slot, slot ⟨h.slot, hi⟩, by rw [found, gen]⟩
      · exact absurd found nofun
    · simp only [hi, dite_false] at found
      exact absurd found nofun

/-- The records stand in the order of their slots. -/
theorem records_ascending (s : State) : s.records.Pairwise fun p q => p.1.slot < q.1.slot := by
  have indexed : s.store.slots.list.zipIdx.Pairwise fun p q => p.2 < q.2 := by
    rw [← List.pairwise_map (f := Prod.snd), List.zipIdx_map_snd]
    exact List.pairwise_lt_range'
  refine List.pairwise_filterMap.2 (indexed.imp fun {p q} before x hx y hy => ?_)
  have named {p : Slot × Nat} {x : Handle × Record} (hx : (match p.1.record with
      | some b => some ((⟨p.2, p.1.gen⟩ : Handle), b)
      | none => none) = some x) : x.1.slot = p.2 := by
    split at hx
    · obtain rfl := Option.some.inj hx; rfl
    · exact absurd hx nofun
  rw [named hx, named hy]
  exact before

/-! ## LIST_ROOM_BOOKINGS -/

/-- The handles a list can give: the records of an enabled room above the cursor, in slot order (R31). -/
def State.listable (s : State) (r : RoomId) (cursor : Option Nat) : List Handle :=
  (if (s.room r).cfg.enabled then s.records.filter fun p => s.targetsRoom p.2 r && !cursor.any (p.1.slot ≤ ·)
    else []).map Prod.fst

theorem listable_ascending (s : State) (r : RoomId) (cursor : Option Nat) :
    (s.listable r cursor).Pairwise fun a b => a.slot < b.slot := by
  unfold State.listable
  rw [List.pairwise_map]
  split
  · exact (records_ascending s).filter _
  · exact .nil

theorem mem_listable {s : State} {r : RoomId} {cursor : Option Nat} {h : Handle} : h ∈ s.listable r cursor ↔
    (s.room r).cfg.enabled = true ∧ (∀ c, cursor = some c → c < h.slot) ∧
      ∃ b, s.recordAt h = some b ∧ r ∈ s.claims b.target := by
  have above : cursor.any (h.slot ≤ ·) = false ↔ ∀ c, cursor = some c → c < h.slot := by
    cases cursor <;> simp
  unfold State.listable
  cases enabled : (s.room r).cfg.enabled with
  | false => simp
  | true => simp [State.targetsRoom, mem_records, above]; tauto

theorem listRoomBookings_range {s : State} {n : Nat} {cursor : Option Nat}
    (h : asRoom n = none ∨ ∃ c, cursor = some c ∧ 511 < c) : s.listRoomBookings n cursor = (.range, .none) := by
  unfold State.listRoomBookings
  split
  · rfl
  · rename_i r room
    obtain none | ⟨c, rfl, big⟩ := h
    · exact absurd (room.symm.trans none) nofun
    · exact if_pos (by simpa using Nat.succ_le_of_lt big)

theorem listRoomBookings_listed {s : State} {n : Nat} {r : RoomId} {cursor : Option Nat} (hn : asRoom n = some r)
    (hc : ∀ c, cursor = some c → c ≤ 511) : s.listRoomBookings n cursor =
      (.ok, .bookingList ((s.listable r cursor).take 8) (8 < (s.listable r cursor).length)) := by
  have within : cursor.any (512 ≤ ·) = false := by
    cases cursor with
    | none => rfl
    | some c => simpa using Nat.lt_succ_of_le (hc c rfl)
  simp [State.listRoomBookings, hn, within, State.listable, List.map_take]

/-! ## FIND_FREE_ROOM -/

/-- The order of targets: rooms before groups, by number (R34). -/
def targetPlace : Target → Nat
  | .room r => r.val
  | .group k => 48 + k.val

/-- The order of candidates: by slack, and where it is equal by place (R34). -/
def Candidate.before (c e : Candidate) : Prop :=
  c.slack < e.slack ∨ (c.slack = e.slack ∧ targetPlace c.target < targetPlace e.target)

theorem mem_insertCandidate {c x : Candidate} {l : List Candidate} : x ∈ insertCandidate c l ↔ x = c ∨ x ∈ l := by
  induction l with
  | nil => simp [insertCandidate]
  | cons y l ih =>
    unfold insertCandidate
    split
    · simp
    · rw [List.mem_cons, ih, List.mem_cons]; tauto

/-- A candidate that comes after all others in place is inserted in order. -/
theorem insertCandidate_before {c : Candidate} {l : List Candidate} (hl : l.Pairwise Candidate.before)
    (hc : ∀ x ∈ l, targetPlace x.target < targetPlace c.target) : (insertCandidate c l).Pairwise Candidate.before := by
  induction l with
  | nil => exact List.pairwise_singleton ..
  | cons x l ih =>
    obtain ⟨first, rest⟩ := List.pairwise_cons.1 hl
    unfold insertCandidate
    split
    · rename_i less
      refine List.pairwise_cons.2 ⟨fun y hy => .inl ?_, hl⟩
      obtain rfl | hy := List.mem_cons.1 hy
      · exact less
      · obtain more | ⟨same, -⟩ := first y hy
        · exact less.trans more
        · exact same ▸ less
    · rename_i more
      refine List.pairwise_cons.2 ⟨fun y hy => ?_, ih rest fun y hy => hc y (List.mem_cons_of_mem _ hy)⟩
      obtain rfl | hy := mem_insertCandidate.1 hy
      · exact (lt_or_eq_of_le (not_lt.1 more)).imp_right fun same => ⟨same, hc x (List.mem_cons_self ..)⟩
      · exact first y hy

/-- The candidates of targets, ranked by slack and place. -/
theorem ranked (slack : Target → Nat) {l : List Target} (hl : l.Pairwise fun y z => targetPlace y < targetPlace z) :
    (l.foldl (fun acc x => insertCandidate ⟨x, slack x⟩ acc) []).Pairwise Candidate.before ∧
      ∀ c, c ∈ l.foldl (fun acc x => insertCandidate ⟨x, slack x⟩ acc) [] ↔
        c.target ∈ l ∧ c.slack = slack c.target := by
  induction l using List.reverseRecOn with
  | nil => exact ⟨.nil, by simp⟩
  | append_singleton l x ih =>
    obtain ⟨earlier, -, last⟩ := List.pairwise_append.1 hl
    obtain ⟨sorted, mem⟩ := ih earlier
    rw [List.foldl_append]
    refine ⟨insertCandidate_before sorted fun c hc => ?_, fun c => ?_⟩
    · exact last _ ((mem c).1 hc).1 x (List.mem_singleton_self x)
    · rw [List.foldl_cons, List.foldl_nil, mem_insertCandidate, mem, List.mem_append, List.mem_singleton]
      constructor
      · rintro (rfl | ⟨own, slack⟩)
        · exact ⟨.inr rfl, rfl⟩
        · exact ⟨.inl own, slack⟩
      · rintro ⟨own | own, slack⟩
        · exact .inr ⟨own, slack⟩
        · exact .inl (by cases c; simp_all)

theorem searchTargets_ascending (s : State) (g : Bool) :
    (s.searchTargets g).Pairwise fun y z => targetPlace y < targetPlace z := by
  unfold State.searchTargets
  refine List.pairwise_append.2 ⟨?_, ?_, fun y hy z hz => ?_⟩
  · exact List.pairwise_map.2 ((List.pairwise_lt_finRange 48).filter _)
  · split
    · exact List.pairwise_map.2 (((List.pairwise_lt_finRange 8).filter _).imp fun h => Nat.add_lt_add_left h 48)
    · exact .nil
  · obtain ⟨r, -, rfl⟩ := List.mem_map.1 hy
    split at hz
    · obtain ⟨k, -, rfl⟩ := List.mem_map.1 hz
      exact Nat.lt_add_right _ r.isLt
    · exact absurd hz (List.not_mem_nil)

/-- Whether the search looks at a target (R33). -/
def State.considered (s : State) (g : Bool) : Target → Prop
  | .room r => (s.room r).cfg.enabled = true
  | .group k => g = true ∧ (s.groups.get k).isSome = true

theorem mem_searchTargets {s : State} {g : Bool} {y : Target} : y ∈ s.searchTargets g ↔ s.considered g y := by
  unfold State.searchTargets State.considered allRooms
  cases y <;> cases g <;> simp

/-- What the search proposes for a target (R33). -/
def searchProposal (d : Date) (x : Times) (y : Target) : Proposal :=
  ⟨none, { target := y, pattern := .single, weekday := d.weekday, firstWeek := d.week, lastWeek := d.week,
           skips := [], start := x.start, stop := x.stop, cls := 1, attendance := x.attendance,
           state := .active, noShows := 0, releases := 0 }, 0⟩

/-- The targets that qualify (R33). -/
def State.qualified (s : State) (d : Date) (x : Times) (g : Bool) : List Target :=
  (s.searchTargets g).filter fun y =>
    x.attendance ≤ s.seatCapacity y && (s.crowded s.instant (searchProposal d x y)).isNone

theorem inTerm_iff {w d : Nat} : (⟨w, d⟩ : Date).inTerm = true ↔ w ≤ 63 ∧ d ≤ 6 := by
  simp [Date.inTerm, Nat.lt_succ_iff]

section Search
variable {s : State} {w d a b n : Nat} {g : Bool} {x : Times}

theorem findFreeRoom_range (h : adjustTimes a b n = none ∨ ¬ (w ≤ 63 ∧ d ≤ 6)) :
    s.findFreeRoom s.instant w d a b n g = (.range, .none) := by
  unfold State.findFreeRoom; dsimp only
  split
  · rfl
  · rename_i t times
    obtain none | outside := h
    · exact absurd (times.symm.trans none) nofun
    · exact if_pos (by rw [← inTerm_iff] at outside; simpa using outside)

theorem findFreeRoom_closed (hx : adjustTimes a b n = some x) (term : w ≤ 63 ∧ d ≤ 6)
    (closed : (⟨w, d⟩ : Date) ∈ s.cal.closures) :
    s.findFreeRoom s.instant w d a b n g = (.closedDay, .candidates []) := by
  simp [State.findFreeRoom, hx, inTerm_iff.2 term, closed]

theorem findFreeRoom_found (hx : adjustTimes a b n = some x) (term : w ≤ 63 ∧ d ≤ 6)
    (opened : (⟨w, d⟩ : Date) ∉ s.cal.closures) :
    s.findFreeRoom s.instant w d a b n g = (okStatus x.clamped, .candidates
      (((s.qualified ⟨w, d⟩ x g).foldl
        (fun l y => insertCandidate ⟨y, s.seatCapacity y - x.attendance⟩ l) []).take 4)) := by
  simp [State.findFreeRoom, hx, inTerm_iff.2 term, opened, State.qualified, searchProposal]

end Search

/-! ## The reads as store operations -/

theorem readBooking_live {s : State} {h : Handle} {k : SlotId} {b : Record} (hr : s.resolve h = .live k b) :
    s.readBooking h = (.ok, .record b) := by simp only [State.readBooking, hr]

theorem readAgenda_shown {s : State} {n first : Nat} {r : RoomId} (hn : asRoom n = some r) (hf : first ≤ 15) :
    s.readAgenda n first = (.ok, .agenda (s.room r).agenda.length (((s.room r).agenda.drop first).take 4)) := by
  simp [State.readAgenda, hn, hf]

theorem readAgenda_range {s : State} {n first : Nat} (h : asRoom n = none ∨ 15 < first) :
    s.readAgenda n first = (.range, .none) := by
  unfold State.readAgenda
  split
  · rfl
  · rename_i r room
    exact if_pos (h.resolve_left fun none => absurd (room.symm.trans none) nofun)

/-- Settles O20: each read answers with what its function gives; the list and the search take the first of what they
list in order. -/
theorem storeReads : Obligations.StoreReads := by
  refine ⟨fun s hr => ⟨fun h k b live => ?_, fun n cursor => ?_, fun n first r hn hf => ?_, fun n first out => ?_,
    fun w d a b n g => ?_⟩, fun s n cursor => ⟨listRoomBookings_range, fun r hn hc => ?list⟩,
    fun s w d a b n g => ⟨findFreeRoom_range, fun x hx hw hd => ⟨findFreeRoom_closed hx ⟨hw, hd⟩,
      fun opened => ?search⟩⟩⟩
  · exact performed_refused hr (exec_storeCommand hr.1 rfl)
      (congrArg (Prod.mk _) (readBooking_live (s := s.serving ..) live))
  · exact performed_refused hr (exec_storeCommand hr.1 rfl) rfl
  · exact performed_refused hr (exec_storeCommand hr.1 rfl)
      (congrArg (Prod.mk _) (readAgenda_shown (s := s.serving ..) hn hf))
  · exact performed_refused hr (exec_storeCommand hr.1 rfl)
      (congrArg (Prod.mk _) (readAgenda_range (s := s.serving ..) out))
  · exact performed_refused hr (exec_storeCommand hr.1 rfl) rfl
  case list =>
    have sorted := listable_ascending s r cursor
    refine ⟨(s.listable r cursor).take 8, _, listRoomBookings_listed hn hc, List.length_take_le .., sorted.take,
      fun h hh => mem_listable.1 (List.mem_of_mem_take hh),
      fun h listed => mem_take_or_after sorted 8 (mem_listable.2 listed), ?_⟩
    rw [decide_eq_true_iff]
    constructor
    · intro more
      refine ⟨(s.listable r cursor)[8], mem_listable.1 (List.getElem_mem more), fun early => ?_⟩
      obtain ⟨i, hi, same⟩ := List.getElem_of_mem early
      rw [List.length_take] at hi
      rw [List.getElem_take] at same
      have before := List.pairwise_iff_getElem.1 sorted i 8 (by omega) more (by omega)
      rw [same] at before
      exact lt_irrefl _ before
    · rintro ⟨h, listed, missing⟩
      by_contra few
      rw [List.take_of_length_le (not_lt.1 few)] at missing
      exact missing (mem_listable.2 listed)
  case search =>
    intro single considered qualifies slack place before
    have mem (y : Target) : y ∈ s.qualified ⟨w, d⟩ x g ↔ qualifies y := by
      simp only [State.qualified, List.mem_filter, mem_searchTargets, Bool.and_eq_true, decide_eq_true_eq,
        Option.isNone_iff_eq_none]
      rfl
    obtain ⟨sorted, found⟩ := ranked (fun y => s.seatCapacity y - x.attendance)
      ((searchTargets_ascending s g).filter fun y => x.attendance ≤ s.seatCapacity y &&
        (s.crowded s.instant (searchProposal ⟨w, d⟩ x y)).isNone)
    have own {c : Candidate} (hc : c ∈ List.take 4 _) := (found c).1 (List.mem_of_mem_take hc)
    refine ⟨_, findFreeRoom_found hx ⟨hw, hd⟩ opened, List.length_take_le .., fun c hc => ?_, ?_, fun y hy => ?_⟩
    · exact ⟨(mem _).1 (own hc).1, (own hc).2⟩
    · refine sorted.take.imp_of_mem fun hc he ordered => ?_
      rw [Candidate.before, (own hc).2, (own he).2] at ordered
      exact ordered
    · obtain first | ⟨few, ordered⟩ := mem_take_or_after sorted 4 ((found ⟨y, slack y⟩).2 ⟨(mem y).2 hy, rfl⟩)
      · exact .inl ⟨_, first, rfl⟩
      · refine .inr ⟨few, fun c hc => ?_⟩
        have after := ordered c hc
        rw [Candidate.before, (own hc).2] at after
        exact after

end Sys2Proof.Machine
end

section
/-! PROOFS. Operations of the rooms and of the calendar at the store: notes served on a record, and the retirement pass
(R35, R36, R41). -/
namespace Sys2Proof.Machine

/-! ## Operations that complete -/

theorem Follows.release (s : State) : Follows s s.releaseStore := { Follows.refl s with }

/-- The operation that runs completes: its effect is work of the rooms on top of `v`. -/
theorem completed {s v u : State} {op : StoreOp} {now : Instant} {p : StoreOp → Bool} {c : Instr}
    (h : s.performing op now) (hexec : exec c s = .next (s.completeIf p)) (hp : p op = true)
    (heff : s.opEffect ⟨op, now⟩ = u) (work : RoomWork v u)
    (confirms : ∀ w ∈ u.cal.work, w.isConfirm = true) :
    ∃ t, exec c s = .next t ∧ Concluded v u t :=
  ⟨_, hexec.trans (congrArg Host.Outcome.next ((completeIf_of_running h.1 hp).trans (by rw [heff]))),
    concluded work confirms s⟩

/-- The same, where the effect sends nothing. -/
theorem completed_follows {s u : State} {op : StoreOp} {now : Instant} {p : StoreOp → Bool} {c : Instr}
    (h : s.performing op now) (hexec : exec c s = .next (s.completeIf p)) (hp : p op = true)
    (heff : s.opEffect ⟨op, now⟩ = u) (work : u.cal.work = []) :
    ∃ t, exec c s = .next t ∧ Follows u t := by
  obtain ⟨t, ht, done⟩ := completed h hexec hp heff (.refl u) (by simp [work])
  exact ⟨t, ht, (Follows.release u).trans (done.follows work)⟩

/-! ## The booking change set -/

theorem mem_insertChange_self (c : BookingChange) (l : List BookingChange) : c ∈ insertChange c l := by
  induction l with
  | nil => exact List.mem_singleton_self c
  | cons x l ih =>
    unfold insertChange
    split
    · exact List.mem_cons_self ..
    · split
      · exact List.mem_cons_self ..
      · exact List.mem_cons_of_mem _ ih

/-- An entry of the change set stays when another slot's is added. -/
theorem mem_insertChange_other {c x : BookingChange} {l : List BookingChange} (h : x ∈ l) (other : x.slot ≠ c.slot) :
    x ∈ insertChange c l := by
  induction l with
  | nil => exact absurd h List.not_mem_nil
  | cons y l ih =>
    unfold insertChange
    split
    · rename_i same
      obtain rfl | h := List.mem_cons.1 h
      · exact absurd same.symm other
      · exact List.mem_cons_of_mem _ h
    · split
      · exact List.mem_cons_of_mem _ h
      · exact List.mem_cons.2 ((List.mem_cons.1 h).imp_right ih)

theorem PortKept.bookingChanged (p : Port) (c : BookingChange) : PortKept p (p.bookingChanged c) :=
  ⟨rfl, rfl, rfl, rfl, rfl, rfl, rfl, rfl, rfl⟩

theorem bookingChanged_flagged (p : Port) (c : BookingChange) :
    (p.bookingChanged c).flags.getLsbD Cause.bookingsChanged.index = true := by
  simp [Port.bookingChanged, Port.raise, Cause.mask, Cause.index]

/-! ## Notes -/

section Note
variable {s : State} {k : SlotId} {h : Handle} {b : Record}

theorem serveNote_confirm (hr : s.resolve h = .live k b) (active : b.state = .active) :
    s.serveNote .confirm h = s.setSlot k ⟨h.gen, some { b with noShows := 0 }⟩ := by
  rw [State.serveNote, hr]
  exact (if_pos active).trans (modifyRecord_of_live hr _)

/-- A record with one more no-show counted (R36). -/
def Record.counted (b : Record) : Record :=
  { b with noShows := min 15 (b.noShows + 1), releases := min 255 (b.releases + 1) }

/-- Whether the counted record of a note is to be reclaimed (R36). -/
def State.reclaimDue (s : State) (b : Record) : Prop :=
  b.pattern = .weekly ∧ (s.profiles.get b.cls).reclaim ≠ 0 ∧ (s.profiles.get b.cls).reclaim ≤ min 15 (b.noShows + 1)

theorem serveNote_counted (hr : s.resolve h = .live k b) (active : b.state = .active) (kept : ¬ s.reclaimDue b) :
    s.serveNote .release h = s.setSlot k ⟨h.gen, some b.counted⟩ := by
  rw [State.serveNote, hr]
  exact ((if_pos active).trans (if_neg kept)).trans (modifyRecord_of_live hr _)

/-- The part when a record has been reclaimed, before its entries leave (R36). -/
def State.reclaimed (s : State) (k : SlotId) (h : Handle) (b : Record) : State :=
  { s.setSlot k ⟨h.gen, some { b.counted with state := .suspended .reclaimed }⟩ with
    port := s.port.bookingChanged ⟨k, h.gen, .reclaimed⟩ }

theorem reclaim_counted : (s.setSlot k ⟨h.gen, some b.counted⟩).reclaim k h =
    ((s.reclaimed k h b).removeHandle h).reportChanges (s.setSlot k ⟨h.gen, some b.counted⟩) none := by
  have marked : (s.setSlot k ⟨h.gen, some b.counted⟩).modifyRecord k
      (fun b => { b with state := .suspended .reclaimed }) =
      s.setSlot k ⟨h.gen, some { b.counted with state := .suspended .reclaimed }⟩ := by
    simp only [State.modifyRecord, State.setSlot, Table.get_set_self, Table.set_set, Option.map_some]
  rw [State.reclaim, marked]
  rfl

theorem serveNote_reclaimed (hr : s.resolve h = .live k b) (active : b.state = .active) (due : s.reclaimDue b) :
    s.serveNote .release h =
      ((s.reclaimed k h b).removeHandle h).reportChanges (s.setSlot k ⟨h.gen, some b.counted⟩) none := by
  rw [State.serveNote, hr]
  refine ((if_pos active).trans (if_pos due)).trans (Eq.trans ?_ reclaim_counted)
  rw [modifyRecord_of_live hr]
  rfl

end Note

/-- Settles O23: a counted record is stored as such; a reclaimed one enters the booking change set and its entries
leave. -/
theorem noteServedOnRecord : Obligations.NoteServedOnRecord := by
  intro s r h now k b live active
  refine ⟨fun running => ?_, fun running => ⟨fun kept => ?_, fun due => ?_⟩⟩
  · exact completed_follows running rfl (beq_self_eq_true r) (serveNote_confirm live active) running.2
  · exact completed_follows running rfl (beq_self_eq_true r) (serveNote_counted live active kept) running.2
  · have only : OnlyAgendas (s.reclaimed k h b) ((s.reclaimed k h b).removeHandle h) := .removeHandle ..
    have sends := only.sends.trans (.reportChanges _ (s.setSlot k ⟨h.gen, some b.counted⟩) none)
    have port : (((s.reclaimed k h b).removeHandle h).reportChanges (s.setSlot k ⟨h.gen, some b.counted⟩) none).port =
      (s.reclaimed k h b).port := Eq.trans (SamePort.reportChanges ..) only.port
    obtain ⟨t, ht, done⟩ := completed (c := .noteServed r) running rfl (beq_self_eq_true r)
      (serveNote_reclaimed live active due)
      (only.roomWork.trans (.reportChanges ..)) (sends.confirms running.2)
    refine ⟨t, ht, done.settles.slots, ?_, done.flagged _ ?_, ?_, fun q => ?_⟩
    · rw [done.bookingChanges, port]
      exact mem_insertChange_self ..
    · rw [State.flagged, port]
      exact bookingChanged_flagged ..
    · rw [done.slot, port]; rfl
    · rw [keys_of_bookings (done.bookings q), keys_of_bookings ((Quiet.reportChanges ..).bookings q), keys_removeHandle]
      rfl

end Sys2Proof.Machine
end

section
/-! PROOFS. Retirement, at the pass and where the clock is set (R19, R41). -/
namespace Sys2Proof.Machine

/-! ## What is retired -/

theorem mem_toRetire {s : State} {d : Date} {k : SlotId} {h : Handle} : (k, h) ∈ s.toRetire d ↔
    (∃ b, (s.store.slots.get k).record = some b ∧ b.over d = true) ∧ h = ⟨k.val, (s.store.slots.get k).gen⟩ := by
  simp only [State.toRetire, List.mem_filterMap, List.mem_finRange, true_and]
  constructor
  · rintro ⟨q, hq⟩
    split at hq
    · rename_i b record
      split at hq
      · rename_i isOver
        obtain ⟨rfl, rfl⟩ := Prod.mk.inj (Option.some.inj hq)
        exact ⟨⟨b, record, isOver⟩, rfl⟩
      · exact absurd hq nofun
    · exact absurd hq nofun
  · rintro ⟨⟨b, record, isOver⟩, rfl⟩
    exact ⟨k, by simp only [record, isOver, if_true]⟩

/-- Every slot is retired once. -/
theorem toRetire_distinct (s : State) (d : Date) : (s.toRetire d).Pairwise fun p q => p.1 ≠ q.1 := by
  refine List.pairwise_filterMap.2 ((List.nodup_finRange 512).imp fun {k q} differ x hx y hy => ?_)
  have named {k : SlotId} {x : SlotId × Handle} (hx : (match (s.store.slots.get k).record with
      | some b => if b.over d then some (k, (⟨k.val, (s.store.slots.get k).gen⟩ : Handle)) else none
      | none => none) = some x) : x.1 = k := by
    split at hx
    · split at hx
      · obtain rfl := Option.some.inj hx; rfl
      · exact absurd hx nofun
    · exact absurd hx nofun
  rw [named hx, named hy]
  exact differ

/-! ## The records retired one after another -/

/-- The slots when some have become free. -/
def freedSlots (t : Table 512 Slot) (l : List (SlotId × Handle)) : Table 512 Slot :=
  l.foldl (fun t p => t.set p.1 ⟨((t.get p.1).gen + 1) % 16, none⟩) t

/-- The port when retired slots have entered the booking change set. -/
def retiredPort (p : Port) (l : List (SlotId × Handle)) : Port :=
  l.foldl (fun p x => p.bookingChanged ⟨x.1, x.2.gen, .retired⟩) p

/-- The part with another store and another port. -/
def State.withStorePort (s : State) (t : Table 512 Slot) (p : Port) : State :=
  { s with store := { s.store with slots := t }, port := p }

theorem OnlyAgendas.withStorePort {s u : State} (h : OnlyAgendas s u) (t : Table 512 Slot) (p : Port) :
    OnlyAgendas (s.withStorePort t p) (u.withStorePort t p) :=
  ⟨by unfold State.withStorePort; rw [h.rest], h.room⟩

theorem withStorePort_port (s : State) (t : Table 512 Slot) (p : Port) : (s.withStorePort t p).port = p := rfl

theorem withStorePort_groups (s : State) (t : Table 512 Slot) (p : Port) :
    (s.withStorePort t p).groups = s.groups := rfl

theorem RoomWork.withStorePort (s : State) (t : Table 512 Slot) {p : Port} (h : PortKept s.port p) :
    RoomWork { s with store := { s.store with slots := t } } (s.withStorePort t p) := .withPort _ h

theorem Sends.withStorePort (s : State) (t : Table 512 Slot) (p : Port) : Sends s (s.withStorePort t p) :=
  .of_same rfl (fun _ => rfl) fun _ => rfl

/-- Beside the slots and the port, records that retire change agendas alone. -/
theorem OnlyAgendas.retired (l : List (SlotId × Handle)) (s : State) :
    OnlyAgendas (s.withStorePort (freedSlots s.store.slots l) (retiredPort s.port l)) (l.foldl State.retireOne s) := by
  induction l generalizing s with
  | nil => exact .refl s
  | cons p l ih =>
    have first : OnlyAgendas (s.withStorePort (freedSlots s.store.slots [p]) (retiredPort s.port [p]))
        (s.retireOne p) := .removeHandle ..
    exact (first.withStorePort _ _).trans (ih (s.retireOne p))

theorem bookings_retired (l : List (SlotId × Handle)) (s : State) (r : RoomId) :
    (l.foldl State.retireOne s).bookings r = (s.bookings r).filter fun e => !l.any (·.2 == e.handle) := by
  induction l generalizing s with
  | nil => simp
  | cons p l ih =>
    have first : (s.retireOne p).bookings r = (s.bookings r).filter fun e => e.handle != p.2 := bookings_removeHandle ..
    rw [List.foldl_cons, ih, first, List.filter_filter]
    refine List.filter_congr fun e _ => ?_
    simp [Bool.and_comm, bne, Bool.beq_comm]

theorem get_freedSlots {l : List (SlotId × Handle)} (h : l.Pairwise fun p q => p.1 ≠ q.1) (t : Table 512 Slot)
    (k : SlotId) :
    (freedSlots t l).get k = if k ∈ l.map Prod.fst then ⟨((t.get k).gen + 1) % 16, none⟩ else t.get k := by
  induction l generalizing t with
  | nil => rfl
  | cons p l ih =>
    obtain ⟨first, rest⟩ := List.pairwise_cons.1 h
    refine (ih rest _).trans ?_
    by_cases own : k = p.1
    · subst own
      have gone : p.1 ∉ l.map Prod.fst := fun again => by
        obtain ⟨q, hq, same⟩ := List.mem_map.1 again
        exact first q hq same.symm
      simp [gone]
    · have same : k ∈ (p :: l).map Prod.fst ↔ k ∈ l.map Prod.fst := by simp [own]
      rw [Table.get_set_other _ _ own]
      exact (if_congr same rfl rfl).symm

theorem freedSlots_toRetire (s : State) (d : Date) : freedSlots s.store.slots (s.toRetire d) = s.slotsAfter d := by
  have due (k : SlotId) : k ∈ (s.toRetire d).map Prod.fst ↔
      ∃ b, (s.store.slots.get k).record = some b ∧ b.over d = true := by
    simp [mem_toRetire]
  refine Table.ext_get fun k => ?_
  rw [get_freedSlots (toRetire_distinct s d), State.slotsAfter, Table.get_ofFn]
  cases record : (s.store.slots.get k).record with
  | none => simp [due, record]
  | some b => simp [due, record]

/-! ### The port -/

theorem retiredPort_keeps {α : Type} {f : Port → α} (hf : ∀ p c, f (p.bookingChanged c) = f p)
    (l : List (SlotId × Handle)) (p : Port) : f (retiredPort p l) = f p := by
  induction l generalizing p with
  | nil => rfl
  | cons x l ih => exact (ih _).trans (hf ..)

theorem PortKept.retired (p : Port) (l : List (SlotId × Handle)) : PortKept p (retiredPort p l) := by
  induction l generalizing p with
  | nil => exact .refl p
  | cons x l ih => exact (PortKept.bookingChanged p _).trans (ih _)

theorem retiredPort_flagged (p : Port) {l : List (SlotId × Handle)} (h : l ≠ []) :
    (retiredPort p l).flags.getLsbD Cause.bookingsChanged.index = true := by
  induction l using List.reverseRecOn with
  | nil => exact absurd rfl h
  | append_singleton l x ih =>
    rw [retiredPort, List.foldl_append]
    exact bookingChanged_flagged ..

theorem mem_retiredPort {l : List (SlotId × Handle)} (h : l.Pairwise fun p q => p.1 ≠ q.1) (p : Port)
    {x : SlotId × Handle} (hx : x ∈ l) :
    (⟨x.1, x.2.gen, .retired⟩ : BookingChange) ∈ (retiredPort p l).bookingChanges := by
  induction l using List.reverseRecOn with
  | nil => exact absurd hx List.not_mem_nil
  | append_singleton l y ih =>
    obtain ⟨earlier, -, last⟩ := List.pairwise_append.1 h
    rw [retiredPort, List.foldl_append]
    obtain hx | hx := List.mem_append.1 hx
    · exact mem_insertChange_other (ih earlier hx) (last x hx y (List.mem_singleton_self y))
    · obtain rfl := List.mem_singleton.1 hx
      exact mem_insertChange_self ..

/-! ## RETIREMENT_PASS -/

/-- The part when the records that are over have been retired, before their entries leave. -/
def State.retiredAt (s : State) (d : Date) : State :=
  s.withStorePort (s.slotsAfter d) (retiredPort s.port (s.toRetire d))

theorem OnlyAgendas.retiredAt (s : State) (d : Date) :
    OnlyAgendas (s.retiredAt d) ((s.toRetire d).foldl State.retireOne s) := by
  have only := OnlyAgendas.retired (s.toRetire d) s
  rwa [freedSlots_toRetire] at only

theorem retire_state (s : State) (d : Date) :
    (s.retire d).1 = ((s.toRetire d).foldl State.retireOne s).reportChanges s none := by
  unfold State.retire; rfl

theorem RoomWork.retire (s : State) (d : Date) :
    RoomWork { s with store := { s.store with slots := s.slotsAfter d } } (s.retire d).1 := by
  rw [retire_state]
  exact ((RoomWork.withStorePort s _ (.retired ..)).trans (OnlyAgendas.retiredAt s d).roomWork).trans
    (.reportChanges ..)

theorem Sends.retire (s : State) (d : Date) : Sends s (s.retire d).1 := by
  rw [retire_state]
  exact ((Sends.withStorePort ..).trans (OnlyAgendas.retiredAt s d).sends).trans (.reportChanges ..)

theorem port_retire (s : State) (d : Date) : (s.retire d).1.port = retiredPort s.port (s.toRetire d) := by
  rw [retire_state]
  refine Eq.trans (SamePort.reportChanges ..) ?_
  rw [(OnlyAgendas.retiredAt s d).port]
  exact withStorePort_port ..

theorem bookings_retire (s : State) (d : Date) (r : RoomId) :
    (s.retire d).1.bookings r = (s.bookings r).filter fun e => !(s.toRetire d).any (·.2 == e.handle) := by
  rw [retire_state]
  exact ((Quiet.reportChanges ..).bookings r).trans (bookings_retired ..)

/-- Settles O25: the records that are over retire one after another, each from a slot of its own. -/
theorem retirementPassRetires : Obligations.RetirementPassRetires := by
  intro s now running
  obtain ⟨t, ht, done⟩ := completed (c := .retirementPass) running rfl rfl rfl (RoomWork.retire s now.date)
    ((Sends.retire s now.date).confirms running.2)
  have port : (s.opEffect ⟨.step .retire, now⟩).port = retiredPort s.port (s.toRetire now.date) := port_retire ..
  have gone (r : RoomId) : (s.opEffect ⟨.step .retire, now⟩).bookings r =
      (s.bookings r).filter fun e => !(s.toRetire now.date).any (·.2 == e.handle) := bookings_retire ..
  refine ⟨t, ht, done.settles.slots, done.settles, ?_, fun p hp => ⟨fun r e he own => ?_, ?_⟩, fun some => ?_⟩
  · rw [done.slot, port]
    exact retiredPort_keeps (f := Port.slot) (fun _ _ => rfl) ..
  · rw [keys_eq_bookings, done.bookings] at he
    obtain ⟨x, hx, rfl⟩ := List.mem_map.1 he
    rw [gone, List.mem_filter] at hx
    have absent : ((s.toRetire now.date).any (·.2 == x.handle)) = true :=
      List.any_eq_true.2 ⟨p, hp, by simpa using own.symm⟩
    rw [absent] at hx
    exact Bool.false_ne_true hx.2
  · rw [done.bookingChanges, port]
    exact mem_retiredPort (toRetire_distinct ..) _ hp
  · refine done.flagged _ ?_
    rw [State.flagged, port]
    exact retiredPort_flagged _ some

end Sys2Proof.Machine
end

section
/-! PROOFS. SET_CLOCK: the agendas at another minute of the same date, and their builds at a new date (R41, R61, R63,
R64). -/
namespace Sys2Proof.Machine

/-! ## What one build puts into an agenda -/

theorem mem_insertByStart {p x : Handle × Record} {l : List (Handle × Record)} :
    x ∈ insertByStart p l ↔ x = p ∨ x ∈ l := by
  induction l with
  | nil => simp [insertByStart]
  | cons y l ih =>
    unfold insertByStart
    split
    · simp
    · rw [List.mem_cons, ih, List.mem_cons]; tauto

theorem mem_sortByStart {x : Handle × Record} (l acc : List (Handle × Record)) :
    x ∈ l.foldl (fun l p => insertByStart p l) acc ↔ x ∈ l ∨ x ∈ acc := by
  induction l generalizing acc with
  | nil => simp
  | cons y l ih => rw [List.foldl_cons, ih, mem_insertByStart, List.mem_cons]; tauto

/-- The occurrences that a build places, in ascending order of start (R61). -/
def State.dueAt (s : State) (now : Instant) (r : RoomId) : List (Handle × Record) :=
  if now.valid && (s.room r).cfg.enabled then
    (s.activeRecords.filter fun p => s.occurs p.2 now.date && (s.claims p.2.target).contains r).foldl
      (fun l p => insertByStart p l) []
  else []

theorem mem_dueAt {s : State} {now : Instant} {r : RoomId} {p : Handle × Record} : p ∈ s.dueAt now r ↔
    now.valid = true ∧ (s.room r).cfg.enabled = true ∧ p ∈ s.activeRecords ∧ s.occurs p.2 now.date = true ∧
      r ∈ s.claims p.2.target := by
  unfold State.dueAt
  split
  · rename_i due
    obtain ⟨valid, enabled⟩ := Bool.and_eq_true_iff.1 due
    simp [mem_sortByStart, valid, enabled]
  · rename_i idle
    simp only [Bool.and_eq_true, not_and] at idle
    refine iff_of_false List.not_mem_nil ?_
    rintro ⟨valid, enabled, -⟩
    exact idle valid enabled

/-- The part with a room's agenda emptied and its occurrences placed (R61). -/
def State.placedAt (s : State) (now : Instant) (r : RoomId) : State :=
  (s.dueAt now r).foldl (fun t p => t.buildEntry now.minute r p.1 p.2) (s.modifyRoom r fun x => { x with agenda := [] })

theorem build_eq (s : State) (now : Instant) (r : RoomId) :
    s.build now r = (((s.placedAt now r).derive r).clearForBuild r).roomChanged r := rfl

theorem mem_bookings_buildEntry {s : State} {m : Nat} {r q : RoomId} {h : Handle} {b : Record} {e : Entry} :
    e ∈ (s.buildEntry m r h b).bookings q ↔ (q = r ∧ e = newEntry h b) ∨ e ∈ s.bookings q := by
  have added (st : EntryState) : e ∈ (s.addEntry r ((newEntry h b).toState st)).bookings q ↔
      (q = r ∧ e = newEntry h b) ∨ e ∈ s.bookings q := by
    rw [bookings_addEntry, booking_toState, booking_newEntry]
    split
    · rename_i same
      subst same
      simp [mem_insertEntry]
    · rename_i other
      simp [other]
  unfold State.buildEntry
  split
  · exact added _
  · unfold State.placeIn; dsimp only
    split
    · split
      · rw [bookings_setTimer]; exact added _
      · rw [State.loadTimer, bookings_setTimer]; exact added _
    · exact added _

theorem mem_bookings_buildEntries {m : Nat} {r q : RoomId} {e : Entry} (l : List (Handle × Record)) (s : State) :
    e ∈ (l.foldl (fun t p => t.buildEntry m r p.1 p.2) s).bookings q ↔
      (q = r ∧ ∃ p ∈ l, e = newEntry p.1 p.2) ∨ e ∈ s.bookings q := by
  induction l generalizing s with
  | nil => simp
  | cons p l ih =>
    rw [List.foldl_cons, ih, mem_bookings_buildEntry, List.exists_mem_cons_iff, and_or_left, or_assoc]
    exact or_left_comm

/-! ## What a build leaves -/

theorem OnlyAgendas.emptied (s : State) (r : RoomId) :
    OnlyAgendas s (s.modifyRoom r fun x => { x with agenda := [] }) :=
  ⟨rfl, fun q => by rw [room_modifyRoom]; split <;> simp_all⟩

theorem OnlyAgendas.placedAt (s : State) (now : Instant) (r : RoomId) : OnlyAgendas s (s.placedAt now r) :=
  (OnlyAgendas.emptied s r).trans (.foldl (fun t (p : Handle × Record) => .buildEntry t _ r p.1 p.2) ..)

theorem Sends.foldl {α : Type} {f : State → α → State} (h : ∀ s a, Sends s (f s a)) (l : List α) (s : State) :
    Sends s (l.foldl f s) := serviceClosed_sends.foldl h l s

theorem Sends.clearForBuild (s : State) (r : RoomId) : Sends s (s.clearForBuild r) := by
  unfold State.clearForBuild
  refine Sends.trans (.foldl (fun t m => ?_) ..) (.modifyCtx _ _ (fun _ => rfl) fun _ => rfl)
  exact .modifyCtx _ _ (fun _ => rfl) fun _ => rfl

theorem Quiet.clearForBuild (s : State) (r : RoomId) : Quiet s (s.clearForBuild r) := by
  unfold State.clearForBuild
  refine Quiet.trans ?_ (.modifyCtx ..)
  exact .foldl (fun t m => .modifyCtx t m _) ..

theorem EstimatesKept.clearForBuild (s : State) (r : RoomId) : EstimatesKept s (s.clearForBuild r) := by
  unfold State.clearForBuild
  refine EstimatesKept.trans ?_ (.modifyCtx ..)
  exact .foldl (fun t m => .modifyCtx t m _) ..

theorem serviceClosed_estimatesKept : ServiceClosed EstimatesKept where
  refl := .refl
  trans := .trans
  move s r _ _ _ := .moveCtx s r _
  confirm := .sendConfirm

theorem Sends.build (s : State) (now : Instant) (r : RoomId) : Sends s (s.build now r) := by
  rw [build_eq]
  have noted (t : State) : Sends t (t.roomChanged r) := .of_same rfl (fun _ => rfl) fun _ => rfl
  exact (((OnlyAgendas.placedAt s now r).sends.trans (serviceClosed_sends.derive ..)).trans (.clearForBuild ..)).trans
    (noted _)

theorem groups_build (s : State) (now : Instant) (r : RoomId) : (s.build now r).groups = s.groups := by
  have placed := (OnlyAgendas.placedAt s now r).groups
  have derived := serviceClosed_estimatesKept.derive (s.placedAt now r) r
  exact ((EstimatesKept.clearForBuild ..).groups.trans derived.groups).trans placed

theorem slot_build (s : State) (now : Instant) (r : RoomId) : (s.build now r).port.slot = s.port.slot := by
  have quiet := (Quiet.derive (s.placedAt now r) r).trans (.clearForBuild _ r)
  have kept := congrArg Port.slot (quiet.port.trans (OnlyAgendas.placedAt s now r).port)
  exact kept

/-- An agenda after a build of a room: it holds the occurrences due where it is that room's, and is as it was
elsewhere. -/
theorem exists_entry_build (s : State) (now : Instant) (q r : RoomId) (h : Handle) :
    (∃ e ∈ ((s.build now q).room r).agenda, e.handle = h) ↔
      if r = q then ∃ b, (h, b) ∈ s.dueAt now r else ∃ e ∈ (s.room r).agenda, e.handle = h := by
  have quiet : ((s.build now q).room r).agenda = ((s.placedAt now q).room r).agenda :=
    ((Quiet.derive (s.placedAt now q) q).trans (.clearForBuild _ q)).agenda r
  have emptied : (s.modifyRoom q fun x => { x with agenda := [] }).bookings r = if r = q then [] else s.bookings r := by
    unfold State.bookings
    rw [room_modifyRoom]
    split <;> rfl
  rw [quiet, ← exists_booking (p := fun e => e.handle = h) fun _ => Iff.rfl, State.placedAt]
  simp only [mem_bookings_buildEntries, emptied]
  split
  · rename_i same
    subst same
    constructor
    · rintro ⟨e, ⟨-, p, hp, rfl⟩ | none, rfl⟩
      · exact ⟨p.2, hp⟩
      · exact absurd none List.not_mem_nil
    · rintro ⟨b, hb⟩
      exact ⟨_, .inl ⟨rfl, _, hb, rfl⟩, rfl⟩
  · rename_i other
    rw [← exists_booking (p := fun e => e.handle = h) (fun _ => Iff.rfl) s r]
    simp [other]

/-! ## The builds of a new day -/

theorem claims_congr {s t : State} (h : t.groups = s.groups) : t.claims = s.claims := by
  funext x
  cases x with
  | room r => rfl
  | group g => simp only [State.claims, h]

theorem dueAt_congr {s t : State} (slots : t.store.slots = s.store.slots) (groups : t.groups = s.groups)
    (closures : t.cal.closures = s.cal.closures) (cfg : ∀ r, (t.room r).cfg = (s.room r).cfg) (now : Instant)
    (r : RoomId) : t.dueAt now r = s.dueAt now r := by
  simp only [State.dueAt, State.activeRecords, State.records, State.occurs, slots, claims_congr groups, closures, cfg]

theorem dueAt_build (s : State) (now : Instant) (q r : RoomId) : (s.build now q).dueAt now r = s.dueAt now r := by
  have work := RoomWork.build s now q
  refine dueAt_congr (congrArg Store.slots work.store) (groups_build ..) ?_ work.cfg now r
  rw [work.clock]

theorem exists_entry_builds (now : Instant) (l : List RoomId) (s : State) (r : RoomId) (h : Handle) :
    (∃ e ∈ ((l.foldl (fun t q => t.build now q) s).room r).agenda, e.handle = h) ↔
      if r ∈ l then ∃ b, (h, b) ∈ s.dueAt now r else ∃ e ∈ (s.room r).agenda, e.handle = h := by
  induction l generalizing s with
  | nil => simp
  | cons q l ih =>
    rw [List.foldl_cons, ih, dueAt_build, exists_entry_build]
    by_cases later : r ∈ l
    · simp [later]
    · simp [later]

/-- Every agenda is built, in ascending order of the rooms (R63). -/
def State.buildAll (s : State) (now : Instant) : State := allRooms.foldl (fun t r => t.build now r) s

theorem slot_buildAll (s : State) (now : Instant) : (s.buildAll now).port.slot = s.port.slot :=
  foldl_keeps (fun s => s.port.slot) (fun s q => slot_build s now q) allRooms s

theorem RoomWork.buildAll (s : State) (now : Instant) : RoomWork s (s.buildAll now) :=
  .foldl (fun t q => .build t now q) allRooms s

theorem Sends.buildAll (s : State) (now : Instant) : Sends s (s.buildAll now) :=
  .foldl (fun t q => .build t now q) allRooms s

theorem exists_entry_buildAll (s : State) (now : Instant) (r : RoomId) (h : Handle) :
    (∃ e ∈ ((s.buildAll now).room r).agenda, e.handle = h) ↔ ∃ b, (h, b) ∈ s.dueAt now r := by
  have member : r ∈ allRooms := List.mem_finRange r
  rw [State.buildAll, exists_entry_builds, if_pos member]

/-! ## Records that occur on a date are not over -/

theorem not_over_of_occurs {s : State} {b : Record} {d : Date} (h : s.occurs b d = true) : b.over d = false := by
  simp only [State.occurs, Record.hasDate, Bool.and_eq_true, beq_iff_eq, decide_eq_true_eq] at h
  obtain ⟨⟨⟨⟨day, -⟩, last⟩, -⟩, -⟩ := h
  rw [Record.over, decide_eq_false_iff_not]
  simp only [Record.lastDate, Date.day]
  omega

theorem recordAt_slotsAfter {s t : State} {d : Date} (slots : t.store.slots = s.slotsAfter d) {h : Handle} {b : Record}
    (kept : b.over d = false) : t.recordAt h = some b ↔ s.recordAt h = some b := by
  unfold State.recordAt
  split
  · exact Iff.rfl
  · rename_i k _
    rw [slots, State.slotsAfter, Table.get_ofFn]
    cases record : (s.store.slots.get k).record with
    | none => simp [record]
    | some c =>
      cases gone : c.over d with
      | false => simp [gone, record]
      | true =>
        have other : c ≠ b := fun same => by simp [same, kept] at gone
        simp [gone, other]

theorem mem_activeRecords {s : State} {h : Handle} {b : Record} :
    (h, b) ∈ s.activeRecords ↔ s.recordAt h = some b ∧ b.state = .active := by
  simp [State.activeRecords, mem_records]

/-- What a build finds due after the retirement pass at its date is what was due before it. -/
theorem exists_due_retired {s t : State} {d : Date} (slots : t.store.slots = s.slotsAfter d)
    (groups : t.groups = s.groups) (closures : t.cal.closures = s.cal.closures)
    (cfg : ∀ r, (t.room r).cfg = (s.room r).cfg) (m : Nat) (r : RoomId) (h : Handle) :
    (∃ b, (h, b) ∈ t.dueAt ⟨true, d, m⟩ r) ↔ (s.room r).cfg.enabled = true ∧
      ∃ b, (h, b) ∈ s.activeRecords ∧ s.occurs b d = true ∧ r ∈ s.claims b.target := by
  have occurs (b : Record) : t.occurs b d = s.occurs b d := by rw [State.occurs, State.occurs, closures]
  have active {b : Record} (due : s.occurs b d = true) : (h, b) ∈ t.activeRecords ↔ (h, b) ∈ s.activeRecords := by
    rw [mem_activeRecords, mem_activeRecords, recordAt_slotsAfter slots (not_over_of_occurs due)]
  simp only [mem_dueAt, cfg, occurs, claims_congr groups, true_and]
  constructor
  · rintro ⟨b, enabled, record, due, claimed⟩
    exact ⟨enabled, b, (active due).1 record, due, claimed⟩
  · rintro ⟨enabled, b, record, due, claimed⟩
    exact ⟨b, enabled, (active due).2 record, due, claimed⟩

/-! ## SET_CLOCK -/

theorem slotsAfter_congr {s t : State} (h : t.store.slots = s.store.slots) (d : Date) :
    t.slotsAfter d = s.slotsAfter d := by rw [State.slotsAfter, State.slotsAfter, h]

theorem toRetire_congr {s t : State} (h : t.store.slots = s.store.slots) (d : Date) : t.toRetire d = s.toRetire d := by
  rw [State.toRetire, State.toRetire, h]

theorem groups_retire (s : State) (d : Date) : (s.retire d).1.groups = s.groups := by
  have kept := (OnlyAgendas.retiredAt s d).groups
  rw [retire_state]
  exact (serviceClosed_estimatesKept.reportChanges ..).groups.trans (kept.trans (withStorePort_groups ..))

theorem retire_count (s : State) (d : Date) : (s.retire d).2 = (s.toRetire d).length := by
  rw [State.retire]

/-- The part at a new date before the builds: what is over has been retired, and every agenda is empty (R63). -/
def State.emptiedAt (s : State) (d : Date) (m : Nat) : State :=
  ((s.putClock d m).retire d).1.mapAgendas fun _ _ => []

theorem setClock_range {s : State} {w d m : Nat} (h : ¬ (w ≤ 63 ∧ d ≤ 6 ∧ m ≤ 1439)) :
    s.setClock ⟨w, d⟩ m = s.refuse .range := by
  refine if_pos ?_
  simp only [Date.inTerm, Bool.or_eq_true, Bool.not_eq_true', Bool.and_eq_false_iff, decide_eq_false_iff_not,
    decide_eq_true_eq]
  omega

section InRange
variable {s : State} {w d m : Nat} (h : w ≤ 63 ∧ d ≤ 6 ∧ m ≤ 1439)
include h

theorem setClock_inRange : ((!(⟨w, d⟩ : Date).inTerm) || decide (1440 ≤ m)) = false := by
  obtain ⟨hw, hd, hm⟩ := h
  simp only [inTerm_iff.2 ⟨hw, hd⟩, Bool.not_true, Bool.false_or, decide_eq_false_iff_not]
  omega

theorem setClock_sameDate (same : s.cal.valid = true ∧ s.today = ⟨w, d⟩) : s.setClock ⟨w, d⟩ m =
    ((s.putClock ⟨w, d⟩ m).jump s.cal.minute m, .ok, .clockSet ⟨w, d⟩ m 0) := by
  simp [State.setClock, setClock_inRange h, same.1, same.2]

theorem setClock_newDate (new : ¬ (s.cal.valid = true ∧ s.today = ⟨w, d⟩)) : s.setClock ⟨w, d⟩ m =
    ((s.emptiedAt ⟨w, d⟩ m).buildAll ⟨true, ⟨w, d⟩, m⟩, .ok,
      .clockSet ⟨w, d⟩ m ((s.putClock ⟨w, d⟩ m).toRetire ⟨w, d⟩).length) := by
  have differs : (s.cal.valid && s.today == ⟨w, d⟩) = false := by
    rw [← Bool.not_eq_true]
    simpa using new
  rw [State.setClock, setClock_inRange h, differs, if_neg Bool.false_ne_true, if_neg Bool.false_ne_true]
  dsimp only
  rw [retire_count, State.emptiedAt, State.buildAll]

end InRange

theorem Sends.jump (s : State) (a b : Nat) : Sends s (s.jump a b) := by
  have settled (f : RoomId → List Entry → List Entry) :
      Sends s (((s.mapAgendas f).settleTimers s).reportChanges s none) :=
    ((OnlyAgendas.mapAgendas s f).trans (.settleTimers ..)).sends.trans (.reportChanges ..)
  unfold State.jump
  split
  · exact settled _
  · split
    · exact settled _
    · exact .refl s

/-- The part brought to a new date, with other slots in the store (R63). -/
def State.movedTo (s : State) (d : Date) (m : Nat) (slots : Table 512 Slot) : State :=
  { s.putClock d m with store := { s.store with slots := slots } }

theorem movedTo_slots (s : State) (d : Date) (m : Nat) (t : Table 512 Slot) : (s.movedTo d m t).store.slots = t := rfl

theorem movedTo_cfg (s : State) (d : Date) (m : Nat) (t : Table 512 Slot) (r : RoomId) :
    ((s.movedTo d m t).room r).cfg = (s.room r).cfg := rfl

theorem release_respond_movedTo {s : State} (h : s.store.running = none) (c : Instr) (op : HostOp) (e : Status)
    (x : Result) (d : Date) (m : Nat) (t : Table 512 Slot) :
    (((s.serving c op).movedTo d m t).respond c false e x).releaseStore = (s.movedTo d m t).answered c e x :=
  congrArg (State.movedTo · d m t) (release_respond_serving h c op e x)

section NewDate
variable (s : State) (d : Date) (m : Nat)

theorem RoomWork.emptiedAt : RoomWork (s.movedTo d m (s.slotsAfter d)) (s.emptiedAt d m) := by
  have retired := RoomWork.retire (s.putClock d m) d
  rw [slotsAfter_congr (s := s) (t := s.putClock d m) rfl] at retired
  exact retired.trans (.mapAgendas ..)

theorem Sends.emptiedAt : Sends (s.putClock d m) (s.emptiedAt d m) :=
  (Sends.retire ..).trans (OnlyAgendas.mapAgendas ..).sends

theorem slot_emptiedAt : (s.emptiedAt d m).port.slot = s.port.slot := by
  have port : (s.emptiedAt d m).port = retiredPort s.port ((s.putClock d m).toRetire d) := port_retire ..
  rw [port]
  exact retiredPort_keeps (f := Port.slot) (fun _ _ => rfl) ..

/-- The agendas of a new date once they are built (R61, R63). -/
theorem exists_entry_newDate (r : RoomId) (h : Handle) :
    (∃ e ∈ (((s.emptiedAt d m).buildAll ⟨true, d, m⟩).room r).agenda, e.handle = h) ↔
      (s.room r).cfg.enabled = true ∧
        ∃ b, (h, b) ∈ s.activeRecords ∧ s.occurs b d = true ∧ r ∈ s.claims b.target := by
  have work := RoomWork.emptiedAt s d m
  have slots : (s.emptiedAt d m).store.slots = s.slotsAfter d :=
    (congrArg Store.slots work.store).trans (movedTo_slots ..)
  have groups : (s.emptiedAt d m).groups = s.groups := groups_retire (s.putClock d m) d
  have closures : (s.emptiedAt d m).cal.closures = s.cal.closures := by rw [work.clock]; rfl
  rw [exists_entry_buildAll]
  exact exists_due_retired slots groups closures (fun q => (work.cfg q).trans (movedTo_cfg ..)) m r h

end NewDate

theorem performed_newDate {s : State} {w d m : Nat} {q : State → Prop} (hr : s.ready)
    (fits : w ≤ 63 ∧ d ≤ 6 ∧ m ≤ 1439) (new : ¬ (s.cal.valid = true ∧ s.today = ⟨w, d⟩))
    (hq : ∀ t : State, t.answeredWith (.setClock w d m) .ok (.clockSet ⟨w, d⟩ m (s.toRetire ⟨w, d⟩).length) →
      Settles ((s.movedTo ⟨w, d⟩ m (s.slotsAfter ⟨w, d⟩)).answered (.setClock w d m) .ok
        (.clockSet ⟨w, d⟩ m (s.toRetire ⟨w, d⟩).length)) t →
      (∀ r h, (∃ e ∈ (t.room r).agenda, e.handle = h) ↔ (s.room r).cfg.enabled = true ∧
        ∃ b, (h, b) ∈ s.activeRecords ∧ s.occurs b ⟨w, d⟩ = true ∧ r ∈ s.claims b.target) → q t) :
    Performed (.setClock w d m) s q := by
  have answer := setClock_newDate (s := s.serving (.setClock w d m) (.command (.setClock w d m))) fits new
  generalize hu : s.serving (.setClock w d m) (.command (.setClock w d m)) = u at answer
  have retired : (u.putClock ⟨w, d⟩ m).toRetire ⟨w, d⟩ = s.toRetire ⟨w, d⟩ := toRetire_congr (hu ▸ rfl) _
  have slots : u.slotsAfter ⟨w, d⟩ = s.slotsAfter ⟨w, d⟩ := slotsAfter_congr (hu ▸ rfl) _
  have idle : (u.putClock ⟨w, d⟩ m).cal.work = [] := hu ▸ (work_of_ready hr : s.cal.work = [])
  have executing : u.port.slot = .executing (.setClock w d m) false := hu ▸ rfl
  have emptied := RoomWork.emptiedAt u ⟨w, d⟩ m
  have sends := (Sends.emptiedAt u ⟨w, d⟩ m).trans (.buildAll _ ⟨true, ⟨w, d⟩, m⟩)
  rw [slots] at emptied
  rw [retired] at answer
  have base := release_respond_movedTo (running_of_ready hr) (.setClock w d m) (.command (.setClock w d m)) .ok
    (.clockSet ⟨w, d⟩ m (s.toRetire ⟨w, d⟩).length) ⟨w, d⟩ m (s.slotsAfter ⟨w, d⟩)
  rw [hu] at base
  have slot := (slot_buildAll (u.emptiedAt ⟨w, d⟩ m) ⟨true, ⟨w, d⟩, m⟩).trans
    ((slot_emptiedAt u ⟨w, d⟩ m).trans executing)
  have effect : (s.serving (.setClock w d m) (.command (.setClock w d m))).hostEffect s.instant
      (.command (.setClock w d m)) = _ := (congrArg (State.setClock · ⟨w, d⟩ m) hu).trans answer
  refine performed_of_work hr (exec_storeCommand hr.1 rfl) effect base
    (emptied.trans (.buildAll _ ⟨true, ⟨w, d⟩, m⟩))
    slot (sends.confirms idle) fun t done =>
      hq t done.answered done.settles fun r h => ?_
  rw [← exists_booking (p := fun e => e.handle = h) fun _ => Iff.rfl, done.bookings,
    exists_booking (p := fun e => e.handle = h) fun _ => Iff.rfl]
  have due := exists_entry_newDate u ⟨w, d⟩ m r h
  rw [← hu] at due ⊢
  exact due

theorem jump_same (s : State) (m : Nat) : s.jump m m = s := by simp [State.jump]

/-- Settles O28: at the same date entries keep what they were booked as; at a new one every agenda is emptied and
built. -/
theorem clockSet : Obligations.ClockSet := by
  intro s w d m hr cmd date put
  refine ⟨fun out => ?range, fun fits same => ?sameDate, fun fits new => ?newDate⟩
  case range => exact performed_refused hr (exec_storeCommand hr.1 rfl) (setClock_range (s := s.serving ..) out)
  case sameDate =>
    have idle : s.cal.work = [] := work_of_ready hr
    have port := SamePort.jump ((s.serving cmd (.command cmd)).putClock date m) s.cal.minute m
    have sends := Sends.jump ((s.serving cmd (.command cmd)).putClock date m) s.cal.minute m
    have work := RoomWork.jump ((s.serving cmd (.command cmd)).putClock date m) s.cal.minute m
    refine performed_of_work (v := s.putClock date m) (w := (s.serving cmd (.command cmd)).putClock date m) hr
      (exec_storeCommand hr.1 rfl)
      (setClock_sameDate (s := s.serving ..) fits same) (congrArg (State.putClock · date m)
        (release_respond_serving (running_of_ready hr) cmd (.command cmd) _ _)) work
      (congrArg Port.slot port) (sends.confirms idle) fun t done => ?_
    refine ⟨done.answered, done.settles, fun r => keys_of_bookings ((done.bookings r).trans (bookings_jump ..)),
      fun stays r => ?_⟩
    have still := jump_same ((s.serving cmd (.command cmd)).putClock date m) m
    subst stays
    exact (done.agenda ((congrArg (·.cal.work) still).trans idle) r).trans (congrArg (fun t => (t.room r).agenda) still)
  case newDate =>
    refine performed_newDate hr fits new fun t answered settles handles => ⟨answered, settles, handles⟩

end Sys2Proof.Machine
end

section
/-! PROOFS. Events of the clock that the store follows up: the rollover, the end of the term, and a no-show expiry (R46,
R47, R54, R62). -/
namespace Sys2Proof.Machine

/-! ## What the arbiter takes after an effect -/

/-- All that follows an effect but the taking of the next operation. -/
def State.reacted (s b : State) : State :=
  ((s.follow.noteRooms (s.follow.roomMoved b)).fireMembers b fun _ => false).startPasses

theorem finish_eq (s b : State) : s.finish b = (s.reacted b).takeNext := rfl

theorem follow_ctx (s : State) (r : RoomId) : (s.follow.room r).ctx = (s.room r).ctx := by
  simp [State.follow, State.aim, State.relight, State.recompute]

theorem reacted_ctx (s b : State) (r : RoomId) : ((s.reacted b).room r).ctx = (s.room r).ctx := follow_ctx s r

theorem requestRoom_reacted (s b : State) : (s.reacted b).requestRoom = s.requestRoom := by
  simp only [State.requestRoom, reacted_ctx]

theorem takeNext_step {t : State} {st : CalStep} {rest : List CalStep} (hrun : t.store.running = none)
    (hsteps : t.store.steps = st :: rest) : t.takeNext.store =
      { t.store with steps := rest, running := some ⟨.step st, t.instant⟩ } := by
  simp only [State.takeNext, hrun, Option.isSome_none, Bool.false_eq_true, if_false, hsteps]
  rfl

theorem takeNext_room {t : State} {r : RoomId} {q : RoomReq} {rest : List RoomReq} (hrun : t.store.running = none)
    (hsteps : t.store.steps = []) (hreq : t.requestRoom = some r) (hq : (t.room r).ctx.requests = q :: rest) :
    t.takeNext.store = { t.store with running := some ⟨.room r q, t.instant⟩ } := by
  unfold State.takeNext
  rw [if_neg (by simp [hrun])]
  split
  · rename_i some
    exact absurd (hsteps.symm.trans some) nofun
  · rw [hreq]
    dsimp only
    rw [hq]
    rfl

theorem finish_took_step {s : State} {st : CalStep} {rest : List CalStep} (hrun : s.store.running = none)
    (hsteps : s.store.steps = st :: rest) (b : State) : (s.finish b).store =
      { s.store with steps := rest, running := some ⟨.step st, s.instant⟩ } :=
  takeNext_step (t := s.reacted b) hrun hsteps

theorem finish_took_room {s : State} {r : RoomId} {q : RoomReq} {rest : List RoomReq} (hrun : s.store.running = none)
    (hsteps : s.store.steps = []) (hreq : s.requestRoom = some r) (hq : (s.room r).ctx.requests = q :: rest)
    (b : State) : (s.finish b).store = { s.store with running := some ⟨.room r q, s.instant⟩ } :=
  takeNext_room (t := s.reacted b) hrun hsteps ((requestRoom_reacted s b).trans hreq)
    ((congrArg Context.requests (reacted_ctx s b r)).trans hq)

/-! ## The end of a day -/

theorem Quiet.overrunChecks (s : State) : Quiet s s.overrunChecks := .foldl (fun t r => .overrunCheck t r) allRooms s

theorem RoomWork.overrunChecks (s : State) : RoomWork s s.overrunChecks :=
  .foldl (fun t r => .overrunCheck t r) allRooms s

theorem offerWork_of_idle {s : State} (h : s.store.running = none) (w : CalWork) : s.offerWork w = s.applyWork w := by
  simp [State.offerWork, h]

/-- An entry whose end the minute has reached is terminal (R53). -/
theorem evalState_terminal {m : Nat} {e : Entry} (h : e.curEnd ≤ m) (lead : Nat) (closed : Bool) :
    (evalState m lead closed e).terminal = true := by
  unfold evalState
  cases e.state <;> simp [h, EntryState.terminal]

section DayEnd
variable {s t : State} (ht : ∀ r, t.untimed r = (s.evalAgendas 1440).untimed r)
include ht

theorem untimed_dayEnd (r : RoomId) : t.untimed r = (s.room r).agenda.map fun e =>
    { e with state := evalState 1440 (s.profiles.get e.cls).lead (s.closed r) e, timer := none } :=
  (ht r).trans (untimed_evalAgendas ..)

theorem terminal_dayEnd {r : RoomId} (ended : ∀ e ∈ (s.room r).agenda, e.curEnd ≤ 1440) :
    ∀ e ∈ (t.room r).agenda, e.state.terminal = true := by
  intro e he
  have member : e.untimed ∈ t.untimed r := List.mem_map_of_mem he
  rw [untimed_dayEnd ht] at member
  obtain ⟨x, hx, same⟩ := List.mem_map.1 member
  have state : e.state = evalState 1440 (s.profiles.get x.cls).lead (s.closed r) x := (congrArg Entry.state same).symm
  rw [state]
  exact evalState_terminal (ended x hx) ..

end DayEnd

/-- How a day ends (R47, R62): the old day's agendas are evaluated at minute 1440, then clock, store and port are set as
in `v`, and overruns meet their limit. -/
structure DayEnded (s v t : State) : Prop where
  cal : t.cal = { v.cal with work := t.cal.work }
  store : v.store.running = none → ∀ st rest, v.store.steps = st :: rest →
    t.store = { v.store with steps := rest, running := some ⟨.step st, v.instant⟩ }
  slot : t.port.slot = v.port.slot
  flagged : ∀ k, v.flagged k = true → t.flagged k = true
  untimed : ∀ r, t.untimed r = (s.evalAgendas 1440).untimed r

theorem dayEnded {s v : State} (rooms : v.rooms = (s.evalAgendas 1440).rooms) (b : State) :
    DayEnded s v (v.overrunChecks.finish b) := by
  have work := RoomWork.overrunChecks v
  have quiet := Quiet.overrunChecks v
  have follows := Follows.finish v.overrunChecks b
  have instant : v.overrunChecks.instant = v.instant := by
    rw [State.instant, State.today, work.clock]; rfl
  refine ⟨?_, fun idle st rest steps => ?_, ?_, fun k hk => ?_, fun r => ?_⟩
  · rw [follows.cal, work.clock]
  · rw [finish_took_step (by rw [work.store]; exact idle) (by rw [work.store]; exact steps), work.store, instant]
  · rw [follows.slot, quiet.port]
  · exact flagged_finish (by rw [State.flagged, quiet.port]; exact hk) b
  · have same : ((v.overrunChecks.finish b).room r).agenda = (v.room r).agenda :=
      (follows.agenda r).trans (quiet.agenda r)
    rw [State.untimed, same]
    exact congrArg (fun x : Table 48 Room => (x.get r).agenda.map Entry.untimed) rooms

/-! ## ROLLOVER_EVENT -/

/-- The part at the start of a new day, with the rebuild posted (R62). -/
def State.rolledOver (s : State) : State :=
  { s with cal := { s.cal.nextDay with minute := 0, second := 0, minuteDue := false, rolloverFlag := true }
           store := { s.store with steps := s.store.steps ++ rebuildSteps, rebuild := .rollover } }

theorem rolloverEvent_of_due {s : State} (due : s.rolloverDue = true) (idle : s.store.running = none) :
    s.rolloverEvent = (s.evalAgendas 1440).rolledOver.overrunChecks.finish s := by
  rw [State.rolloverEvent, if_pos due, offerWork_of_idle idle]; rfl

/-- The date after a rollover (R46). -/
theorem nextDay_date (c : Calendar) : (⟨c.nextDay.week, c.nextDay.weekday⟩ : Date) =
    if c.weekday < 6 then ⟨c.week, c.weekday + 1⟩ else ⟨c.week + 1, 0⟩ := by
  unfold Calendar.nextDay
  split <;> rfl

theorem nextDay_rest (c : Calendar) :
    c.nextDay.valid = c.valid ∧ c.nextDay.closures = c.closures ∧ c.nextDay.gap = c.gap := by
  unfold Calendar.nextDay
  split <;> exact ⟨rfl, rfl, rfl⟩

/-- Settles O32: the last evaluation of the old day, then the first step of the posted rebuild is taken. -/
theorem rolloverPosted : Obligations.RolloverPosted := by
  intro s due idle steps
  have eval := RoomWork.evalAgendas s 1440
  have day := dayEnded (s := s) (v := (s.evalAgendas 1440).rolledOver) rfl s
  have posted : (s.evalAgendas 1440).rolledOver.store.steps = .retire :: allRooms.map .build := by
    show (s.evalAgendas 1440).store.steps ++ rebuildSteps = _
    rw [eval.store, steps]; rfl
  have taken := day.store (by show (s.evalAgendas 1440).store.running = none; rw [eval.store, idle]) _ _ posted
  have valid : s.cal.valid = true := by
    simp only [State.rolloverDue, State.minuteReady, Bool.and_eq_true] at due
    exact due.1.1.1.1
  obtain ⟨keepsValid, keepsClosures, keepsGap⟩ := nextDay_rest (s.evalAgendas 1440).cal
  have date := nextDay_date (s.evalAgendas 1440).cal
  have week : (s.evalAgendas 1440).cal.week = s.cal.week := by rw [eval.clock]
  have weekday : (s.evalAgendas 1440).cal.weekday = s.cal.weekday := by rw [eval.clock]
  have slots : (s.evalAgendas 1440).store.slots = s.store.slots := by rw [eval.store]
  have set : (s.evalAgendas 1440).cal.valid = true := (congrArg Calendar.valid eval.clock).trans valid
  rw [week, weekday] at date
  have instant : (s.evalAgendas 1440).rolledOver.instant =
      ⟨true, if s.cal.weekday < 6 then ⟨s.cal.week, s.cal.weekday + 1⟩ else ⟨s.cal.week + 1, 0⟩, 0⟩ :=
    Instant.mk.injEq .. ▸ ⟨keepsValid.trans set, date, rfl⟩
  refine ⟨_, congrArg Host.Outcome.next (rolloverEvent_of_due due idle), ⟨?date, ?valid,
    congrArg Calendar.minute day.cal, congrArg Calendar.second day.cal, congrArg Calendar.rolloverFlag day.cal,
    ?closures, ?gap, ?running⟩,
    congrArg Store.steps taken, congrArg Store.rebuild taken, ?slots, ?slot, untimed_dayEnd day.untimed,
    fun r => terminal_dayEnd day.untimed⟩
  case date => exact (congrArg (fun c : Calendar => (⟨c.week, c.weekday⟩ : Date)) day.cal).trans date
  case valid => exact (congrArg Calendar.valid day.cal).trans (keepsValid.trans set)
  case closures =>
    exact (congrArg Calendar.closures day.cal).trans (keepsClosures.trans (by rw [eval.clock]))
  case gap => exact (congrArg Calendar.gap day.cal).trans (keepsGap.trans (by rw [eval.clock]))
  case running => rw [congrArg Store.running taken, instant]
  case slots => exact (congrArg Store.slots taken).trans slots
  case slot => exact day.slot.trans (congrArg Port.slot (SamePort.evalAgendas s 1440))

/-! ## TERM_END -/

/-- The part past the end of the term, with the term-end step posted (R47). -/
def State.pastTerm (s : State) : State :=
  { s with port := s.port.raise .clockInvalid
           cal := { s.cal with valid := false, week := 0, weekday := 0, minute := 0, second := 0, minuteDue := false }
           store := { s.store with steps := s.store.steps ++ [CalStep.termEnd] } }

theorem termEnd_of_due {s : State} (due : s.termEndDue = true) (idle : s.store.running = none) :
    s.termEnd = (s.evalAgendas 1440).pastTerm.overrunChecks.finish s := by
  rw [State.termEnd, if_pos due, offerWork_of_idle idle]; rfl

/-- The last day of the term ends, and the term-end step is taken (R47). -/
theorem termEnded_posted {s : State} (due : s.termEndDue = true) (idle : s.store.running = none)
    (steps : s.store.steps = []) : ∃ t, exec .termEnd s = .next t ∧ t.cal.valid = false ∧ t.today = ⟨0, 0⟩ ∧
      t.cal.minute = 0 ∧ t.cal.second = 0 ∧ t.flagged .clockInvalid = true ∧ t.store.slots = s.store.slots ∧
      t.port.slot = s.port.slot ∧ t.store.running = some ⟨.step .termEnd, ⟨false, ⟨0, 0⟩, 0⟩⟩ ∧ t.store.steps = [] ∧
      ∀ r, t.untimed r = (s.room r).agenda.map fun e =>
        { e with state := evalState 1440 (s.profiles.get e.cls).lead (s.closed r) e, timer := none } := by
  have eval := RoomWork.evalAgendas s 1440
  have day := dayEnded (s := s) (v := (s.evalAgendas 1440).pastTerm) rfl s
  have posted : (s.evalAgendas 1440).pastTerm.store.steps = [.termEnd] := by
    show (s.evalAgendas 1440).store.steps ++ [CalStep.termEnd] = _
    rw [eval.store, steps]; rfl
  have taken := day.store (by show (s.evalAgendas 1440).store.running = none; rw [eval.store, idle]) _ _ posted
  have slots : (s.evalAgendas 1440).store.slots = s.store.slots := by rw [eval.store]
  have slot : (s.evalAgendas 1440).port.slot = s.port.slot := congrArg Port.slot (SamePort.evalAgendas s 1440)
  exact ⟨_, congrArg Host.Outcome.next (termEnd_of_due due idle), congrArg Calendar.valid day.cal,
    congrArg (fun c : Calendar => (⟨c.week, c.weekday⟩ : Date)) day.cal, congrArg Calendar.minute day.cal,
    congrArg Calendar.second day.cal, day.flagged .clockInvalid (getLsbD_raise ..),
    (congrArg Store.slots taken).trans slots, day.slot.trans slot,
    congrArg Store.running taken, congrArg Store.steps taken, untimed_dayEnd day.untimed⟩

/-! ## TERM_END_STEP -/

/-- The service state of a room without entries (R69, R75). -/
def State.restService (s : State) (r : RoomId) : Service :=
  if (s.room r).cfg.enabled then
    if s.closed r then .setback else if s.occupied r then .adHoc else .setback
  else .unconfigured

theorem derive_of_no_entries {s : State} {r : RoomId} (h : (s.room r).agenda = []) :
    s.derive r = s.setService r (s.restService r) none := by
  unfold State.derive State.restService State.precondOr
  rw [h]
  cases (s.room r).cfg.enabled <;> cases s.closed r <;> rfl

theorem clearFor_service (c : Context) (a b : Bool) :
    (c.clearFor a b).service = c.service ∧ (c.clearFor a b).gov = c.gov := by
  cases a <;> cases b <;> exact ⟨rfl, rfl⟩

/-- A service state and governing entry are taken in one room, and stay in the others. -/
theorem ctx_setService (s : State) (r q : RoomId) (v : Service) (g : Option Handle) :
    ((s.setService r v g).room q).ctx.service = (if q = r then v else (s.room q).ctx.service) ∧
      ((s.setService r v g).room q).ctx.gov = if q = r then g else (s.room q).ctx.gov := by
  have moved : ((s.setService r v g).room q).ctx.service = ((s.modifyCtx r fun c =>
      { c with service := v, gov := g, overrunStart := none }).room q).ctx.service ∧
      ((s.setService r v g).room q).ctx.gov = ((s.modifyCtx r fun c =>
      { c with service := v, gov := g, overrunStart := none }).room q).ctx.gov := by
    unfold State.setService State.moveCtx
    rw [room_afterMove]
    split
    · exact clearFor_service ..
    · exact ⟨rfl, rfl⟩
  rw [moved.1, moved.2, State.modifyCtx, room_modifyRoom]
  split
  · exact ⟨rfl, rfl⟩
  · exact ⟨rfl, rfl⟩

theorem occupied_congr {s t : State} (h : EstimatesKept s t) (r : RoomId) : t.occupied r = s.occupied r := by
  simp only [State.occupied, State.presence, State.estimate, State.mergedOf, State.groupOf, h.groups, h.oce]

theorem closed_congr {s t : State} (h : RoomWork s t) (r : RoomId) : t.closed r = s.closed r := by
  rw [State.closed, State.closed, State.inOpenRange, State.inOpenRange, h.cfg, h.openFirst, h.openLast]

theorem restService_congr {s t : State} (work : RoomWork s t) (kept : EstimatesKept s t) (r : RoomId) :
    t.restService r = s.restService r := by
  rw [State.restService, State.restService, closed_congr work, occupied_congr kept, work.cfg]

/-- Rooms without entries that derive their states one after another. -/
structure Rested (s t : State) (l : List RoomId) : Prop where
  work : t.cal.work = s.cal.work
  service : ∀ r ∈ l, (t.room r).ctx.service = s.restService r
  gov : ∀ r ∈ l, (t.room r).ctx.gov = none

theorem rested {s : State} (h : ∀ r, (s.room r).agenda = []) (l : List RoomId) :
    Rested s (l.foldl State.derive s) l := by
  induction l using List.reverseRecOn with
  | nil => exact ⟨rfl, by simp, by simp⟩
  | append_singleton l q ih =>
    have quiet := Quiet.foldl Quiet.derive l s
    have rest := restService_congr (RoomWork.foldl RoomWork.derive l s)
      (serviceClosed_estimatesKept.foldl serviceClosed_estimatesKept.derive l s) q
    have last : (l ++ [q]).foldl State.derive s = (l.foldl State.derive s).setService q (s.restService q) none := by
      rw [List.foldl_append, ← rest]
      exact derive_of_no_entries ((quiet.agenda q).trans (h q))
    rw [last]
    refine ⟨ih.work, fun r hr => ?_, fun r hr => ?_⟩
    · rw [(ctx_setService ..).1]
      split
      · rename_i same
        rw [same]
      · rename_i other
        exact ih.service r ((List.mem_append.1 hr).resolve_right fun own => other (List.mem_singleton.1 own))
    · rw [(ctx_setService ..).2]
      split
      · rfl
      · rename_i other
        exact ih.gov r ((List.mem_append.1 hr).resolve_right fun own => other (List.mem_singleton.1 own))

/-- The part after the term-end step: every agenda is empty, and every room has derived its state (R47). -/
def State.termStepped (s : State) : State := allRooms.foldl State.derive (s.mapAgendas fun _ _ => [])

section TermStep
variable (s : State)

theorem agenda_emptied (r : RoomId) : ((s.mapAgendas fun _ _ => []).room r).agenda = [] := agenda_mapAgendas ..

theorem Quiet.termStepped : Quiet (s.mapAgendas fun _ _ => []) s.termStepped := .foldl Quiet.derive allRooms _

theorem RoomWork.termStepped : RoomWork s s.termStepped :=
  (RoomWork.mapAgendas s _).trans (.foldl RoomWork.derive allRooms _)

theorem rested_termStepped : Rested (s.mapAgendas fun _ _ => []) s.termStepped allRooms :=
  rested (agenda_emptied s) allRooms

theorem service_termStepped (r : RoomId) :
    (s.termStepped.room r).ctx.service = s.restService r ∧ (s.termStepped.room r).ctx.gov = none := by
  have member : r ∈ allRooms := List.mem_finRange r
  have same : (s.mapAgendas fun _ _ => []).restService r = s.restService r :=
    restService_congr (.mapAgendas ..) (.mapAgendas ..) r
  have rest := rested_termStepped s
  exact ⟨(rest.service r member).trans same, rest.gov r member⟩

end TermStep

/-- Settles O33: the term-end step empties every agenda, and each room derives its state without entries. -/
theorem termEnded : Obligations.TermEnded := by
  refine ⟨fun s due idle steps => termEnded_posted due idle steps, fun s now running => ?_⟩
  have silent : s.termStepped.cal.work = [] := (rested_termStepped s).work.trans running.2
  have quiet := Quiet.termStepped s
  have slot : s.termStepped.port.slot = s.port.slot := congrArg Port.slot quiet.port
  obtain ⟨t, ht, done⟩ := completed (u := s.termStepped) (c := .termEndStep) running rfl rfl rfl (.termStepped s)
    (by simp [silent])
  refine ⟨t, ht, done.settles, done.slot.trans slot, fun r => ?_⟩
  obtain ⟨service, gov⟩ := service_termStepped s r
  have kept := ((Follows.release s.termStepped).trans (done.follows silent)).rooms r
  refine ⟨kept.agenda.trans ((quiet.agenda r).trans (agenda_emptied s r)), kept.gov.trans gov, fun enabled opened => ?_⟩
  rw [kept.service]
  refine service.trans ?_
  rw [State.restService, if_pos enabled, opened, if_neg Bool.false_ne_true]

/-! ## NO_SHOW_EXPIRY -/

end Sys2Proof.Machine
end

section
/-! PROOFS. NO_SHOW_EXPIRY: the release of a handle, its report to every room, and the note that the store takes (R54,
R56, R72, R77). -/
namespace Sys2Proof.Machine

/-! ## The release of a handle -/

/-- The part when every STARTED entry of a handle has been released (R54). -/
def State.released (s : State) (h : Handle) : State :=
  s.mapHandle h fun e => if e.state = .started then e.toState .released else e

/-- The same, when the room that held the timer has raised the RELEASE note (R54, R77). -/
def State.releaseNoted (s : State) (home : RoomId) (h : Handle) : State :=
  (s.released h).modifyCtx home fun c => c.raiseNote .release h

theorem expire_of_due {s : State} {h : Handle} {home : RoomId} (due : s.expiryDue h = true)
    (timer : s.timerRoom h = some home) : s.expire h = (s.releaseNoted home h).reportRelease h := by
  unfold State.expire
  rw [if_pos due, timer]
  rfl

theorem untimed_released (s : State) (h : Handle) (r : RoomId) :
    (s.released h).untimed r = (s.room r).agenda.map fun e =>
      { e with state := if e.handle = h ∧ e.state = .started then .released else e.state, timer := none } := by
  rw [State.untimed, State.released, agenda_mapHandle, List.map_map]
  refine List.map_congr_left fun e _ => ?_
  by_cases own : e.handle = h
  · by_cases started : e.state = .started
    · simp [own, started, Entry.untimed, Entry.toState]
    · simp [own, started, Entry.untimed]
  · simp [own, Entry.untimed]

theorem holders_released (s : State) (h : Handle) : (s.released h).holders h = s.holders h := by
  have kept (a : List Entry) : (entryOf (a.map fun e => if e.handle == h then
      (if e.state = .started then e.toState .released else e) else e) h).isSome = (entryOf a h).isSome := by
    have named (e : Entry) : ((if e.handle == h then
        (if e.state = .started then e.toState .released else e) else e).handle == h) = (e.handle == h) := by
      split
      · split <;> rfl
      · rfl
    induction a with
    | nil => rfl
    | cons e a ih =>
      unfold entryOf at ih ⊢
      rw [List.map_cons, List.find?_cons, List.find?_cons, named]
      split
      · rfl
      · exact ih
  unfold State.holders
  refine List.filter_congr fun r _ => ?_
  rw [State.released, agenda_mapHandle, kept]

theorem holders_releaseNoted (s : State) (home : RoomId) (h : Handle) :
    (s.releaseNoted home h).holders h = s.holders h := by
  refine Eq.trans ?_ (holders_released s h)
  unfold State.holders
  refine List.filter_congr fun r _ => ?_
  rw [State.releaseNoted, (Quiet.modifyCtx (s.released h) home _).agenda]

/-! ## The report of a release -/

theorem Sends.reportRelease (s : State) (h : Handle) : Sends s (s.reportRelease h) := by
  refine .foldl (fun t r => ?_) ..
  exact (serviceClosed_sends.report t none r).trans (.of_same rfl (fun _ => rfl) fun _ => rfl)

theorem agenda_reportRelease (s : State) (h : Handle) (r : RoomId) :
    ((s.reportRelease h).room r).agenda = (s.room r).agenda :=
  foldl_keeps (f := fun t q => (t.report none q).roomChanged q) (fun s => (s.room r).agenda)
    (fun t q => (Quiet.report t none q).agenda r) ..

/-- Rooms that enter the room change set one after another leave the slot alone. -/
theorem slot_roomsChanged (l : List RoomId) (p : Port) : (l.foldl Port.roomChanged p).slot = p.slot := by
  induction l generalizing p with
  | nil => rfl
  | cons r l ih => exact ih _

theorem get_roomsChanged {l : List RoomId} {r : RoomId} (hr : r ∈ l) (p : Port) :
    (l.foldl Port.roomChanged p).roomChanges.get r = true := by
  induction l using List.reverseRecOn with
  | nil => exact absurd hr List.not_mem_nil
  | append_singleton l q ih =>
    rw [List.foldl_append]
    show (((l.foldl Port.roomChanged p).roomChanges.set q true).get r) = true
    rw [Table.get_set]
    split
    · rfl
    · rename_i other
      exact ih ((List.mem_append.1 hr).resolve_right fun own => other (List.mem_singleton.1 own))

theorem flagged_roomsChanged {l : List RoomId} (h : l ≠ []) (p : Port) :
    (l.foldl Port.roomChanged p).flags.getLsbD Cause.roomsChanged.index = true := by
  induction l using List.reverseRecOn with
  | nil => exact absurd rfl h
  | append_singleton l q ih =>
    rw [List.foldl_append]
    exact getLsbD_raise ..

/-! ## The note -/

/-- A note raised where nothing waits is the one request. -/
theorem requests_raiseNote {c : Context} (h : c.requests = []) (k : NoteKind) (g : Handle) :
    (c.raiseNote k g).requests = [.note k g] := by
  simp [Context.raiseNote, Context.noteCount, h]

theorem requests_releaseNoted {s : State} (free : s.arbiterFree = true) (home r : RoomId) (h : Handle) :
    ((s.releaseNoted home h).room r).ctx.requests = if r = home then [.note .release h] else [] := by
  have ctx (q : RoomId) : ((s.released h).room q).ctx = (s.room q).ctx := (OnlyAgendas.mapHandle ..).ctx q
  unfold State.releaseNoted State.modifyCtx
  rw [room_modifyRoom]
  split
  · exact requests_raiseNote (by rw [ctx]; exact requests_of_arbiterFree free home) ..
  · rw [ctx]; exact requests_of_arbiterFree free r

/-- The one room with a request is the one that the arbiter serves. -/
theorem requestRoom_eq {t : State} {home : RoomId} {q : RoomReq}
    (h : ∀ r, (t.room r).ctx.requests = if r = home then [q] else []) : t.requestRoom = some home := by
  have waits (r : RoomId) : (!(t.room r).ctx.requests.isEmpty) = true ↔ r = home := by
    rw [h]
    split <;> simp_all
  unfold State.requestRoom
  cases found : allRooms.find? fun r => !(t.room r).ctx.requests.isEmpty with
  | none => exact absurd ((waits home).2 rfl) (List.find?_eq_none.1 found home (List.mem_finRange home))
  | some r => rw [(waits r).1 (List.find?_some (p := fun r => !(t.room r).ctx.requests.isEmpty) found)]

/-! ## NO_SHOW_EXPIRY -/

/-- The room that holds the timer of a handle holds an entry of it. -/
theorem mem_holders_of_timerRoom {s : State} {h : Handle} {home : RoomId} (timer : s.timerRoom h = some home) :
    home ∈ s.holders h := by
  have some := List.find?_some timer
  cases entry : entryOf (s.room home).agenda h with
  | none => simp [entry] at some
  | some e => simp [State.holders, allRooms, entry]

theorem noShowExpiry_of_due {s : State} {r home : RoomId} {h : Handle} (idle : s.store.running = none)
    (named : s.dueHandle r = some h) (due : s.expiryDue h = true) (timer : s.timerRoom h = some home) :
    s.noShowExpiry r = ((s.releaseNoted home h).reportRelease h).finish s := by
  rw [State.noShowExpiry, named, ← expire_of_due due timer]
  exact (if_pos due).trans (by rw [offerWork_of_idle idle]; rfl)

/-- Settles O34: the entries are released and the note raised before the rooms are told; then the store takes the note,
the one request that waits. -/
theorem noShowReleases : Obligations.NoShowReleases := by
  intro s r home h free named due timer
  have idle := running_of_arbiterFree free
  have work : RoomWork s ((s.releaseNoted home h).reportRelease h) := expire_of_due due timer ▸ .expire s h
  have requests (q : RoomId) : (((s.releaseNoted home h).reportRelease h).room q).ctx.requests =
      if q = home then [.note .release h] else [] :=
    ((Sends.reportRelease ..).requests q).trans (requests_releaseNoted free home q h)
  have port : ((s.releaseNoted home h).reportRelease h).port = (s.holders h).foldl Port.roomChanged s.port :=
    (reportRelease_port ..).trans (by rw [holders_releaseNoted]; rfl)
  have follows := Follows.finish ((s.releaseNoted home h).reportRelease h) s
  have instant : ((s.releaseNoted home h).reportRelease h).instant = s.instant := by
    rw [State.instant, State.today, work.clock]; rfl
  refine ⟨_, congrArg Host.Outcome.next (noShowExpiry_of_due idle named due timer), ⟨_, work, follows⟩, ?slot,
    fun q => ?agenda, fun q some => ?changed, ?flag, ?running⟩
  case slot => rw [follows.slot, port, slot_roomsChanged]
  case agenda =>
    have same : (((s.releaseNoted home h).reportRelease h).room q).agenda = ((s.released h).room q).agenda :=
      (agenda_reportRelease ..).trans ((Quiet.modifyCtx (s.released h) home _).agenda q)
    rw [State.untimed, follows.agenda, same]
    exact untimed_released s h q
  case changed =>
    have holds : q ∈ s.holders h := by
      simpa [State.holders, allRooms, stateIn] using some
    exact roomChanges_finish (by rw [port]; exact get_roomsChanged holds _) s
  case flag =>
    refine flagged_finish ?_ s
    rw [State.flagged, port]
    exact flagged_roomsChanged (List.ne_nil_of_mem (mem_holders_of_timerRoom timer)) _
  case running =>
    have taken := finish_took_room (s := (s.releaseNoted home h).reportRelease h) (by rw [work.store]; exact idle)
      (by rw [work.store]; exact steps_of_arbiterFree free) (requestRoom_eq requests)
      ((requests home).trans (if_pos rfl)) s
    rw [taken, instant]

end Sys2Proof.Machine
end

section
/-! PROOFS. A stale note: nothing that the other blocks read of a room has changed, so nothing follows (R37). -/
namespace Sys2Proof.Machine

/-! ## What the other blocks read of a room -/

/-- Everything from which a room's effective state, governing entry, presence and blind targets are told is as it
was. -/
structure SameFace (s t : State) : Prop where
  groups : t.groups = s.groups
  openFirst : t.openFirst = s.openFirst
  openLast : t.openLast = s.openLast
  profiles : t.profiles = s.profiles
  facades : t.facades = s.facades
  cfg : ∀ r, (t.room r).cfg = (s.room r).cfg
  ctx : ∀ r, (t.room r).ctx = (s.room r).ctx
  agenda : ∀ r, (t.room r).agenda = (s.room r).agenda
  oce : ∀ r, (t.room r).oce = (s.room r).oce
  station : ∀ r, (t.room r).station = (s.room r).station

theorem SameFace.refl (s : State) : SameFace s s :=
  ⟨rfl, rfl, rfl, rfl, rfl, fun _ => rfl, fun _ => rfl, fun _ => rfl, fun _ => rfl, fun _ => rfl⟩

theorem SameFace.trans {s t u : State} (a : SameFace s t) (b : SameFace t u) : SameFace s u :=
  ⟨b.groups.trans a.groups, b.openFirst.trans a.openFirst, b.openLast.trans a.openLast, b.profiles.trans a.profiles,
   b.facades.trans a.facades, fun r => (b.cfg r).trans (a.cfg r), fun r => (b.ctx r).trans (a.ctx r),
   fun r => (b.agenda r).trans (a.agenda r), fun r => (b.oce r).trans (a.oce r),
   fun r => (b.station r).trans (a.station r)⟩

theorem SameFace.idle (s : State) : SameFace s s.idle := { SameFace.refl s with }

theorem SameFace.recompute (s : State) : SameFace s s.recompute :=
  ⟨rfl, rfl, rfl, rfl, rfl, fun r => by simp [State.recompute], fun r => by simp [State.recompute],
   fun r => by simp [State.recompute], fun r => by simp [State.recompute], fun r => by simp [State.recompute]⟩

theorem SameFace.relight (s : State) : SameFace s s.relight :=
  ⟨rfl, rfl, rfl, rfl, rfl, fun r => by simp [State.relight], fun r => by simp [State.relight],
   fun r => by simp [State.relight], fun r => by simp [State.relight], fun r => by simp [State.relight]⟩

theorem SameFace.aim (s : State) : SameFace s s.aim :=
  ⟨rfl, rfl, rfl, rfl, rfl, fun r => by simp [State.aim], fun r => by simp [State.aim],
   fun r => by simp [State.aim], fun r => by simp [State.aim], fun r => by simp [State.aim]⟩

theorem SameFace.follow (s : State) : SameFace s s.follow :=
  ((SameFace.recompute s).trans (.relight _)).trans (.aim _)

namespace SameFace
variable {s t : State} (h : SameFace s t)
include h

theorem groupOf (r : RoomId) : t.groupOf r = s.groupOf r := by rw [State.groupOf, State.groupOf, h.groups]

theorem mergedOf (r : RoomId) : t.mergedOf r = s.mergedOf r := by rw [State.mergedOf, State.mergedOf, h.groupOf]

theorem govRoom (r : RoomId) : t.govRoom r = s.govRoom r := by
  simp only [State.govRoom, State.governor, h.mergedOf, h.ctx]

theorem base (r : RoomId) : t.base r = s.base r := by rw [State.base, State.base, h.govRoom, h.ctx]

theorem govHandle (r : RoomId) : t.govHandle r = s.govHandle r := by
  rw [State.govHandle, State.govHandle, h.govRoom, h.ctx]

theorem closed (r : RoomId) : t.closed r = s.closed r := by
  rw [State.closed, State.closed, State.inOpenRange, State.inOpenRange, h.cfg, h.openFirst, h.openLast]

theorem effective (r : RoomId) : t.effective r = s.effective r := by
  rw [State.effective, State.effective, h.cfg, h.ctx, h.closed, h.base]

theorem presence (r : RoomId) : t.presence r = s.presence r := by
  simp only [State.presence, State.estimate, h.mergedOf, h.oce]

theorem groupStateAt (r : RoomId) : t.groupStateAt r = s.groupStateAt r := by
  rw [State.groupStateAt, State.groupStateAt, h.groupOf]

theorem govProfile (r : RoomId) : t.govProfile r = s.govProfile r := by
  simp only [State.govProfile, State.govEntry, State.ownEntry, h.govRoom, h.ctx, h.agenda, h.profiles]

theorem chooseTarget (r : RoomId) (b : BlindId) : t.chooseTarget r b = s.chooseTarget r b := by
  simp only [State.chooseTarget, h.cfg, h.ctx, h.facades, h.effective, h.govProfile]

theorem aimBlind (r : RoomId) (b : BlindId) (x : Blind) : t.aimBlind r b x = s.aimBlind r b x := by
  simp only [State.aimBlind, h.cfg, h.facades, h.chooseTarget]

theorem not_roomMoved (r : RoomId) : t.roomMoved s r = false := by
  have still (p : Presence) : emptyMoved p p = false := by simp [emptyMoved]
  have stays (g : Option GroupState) : groupMoved g g = false := by cases g <;> simp [groupMoved]
  simp [State.roomMoved, h.effective, h.agenda, h.presence, h.groupStateAt, Room.stationState, h.station, h.ctx, still,
    stays]

theorem not_faceMoved (r : RoomId) : t.faceMoved s r = false := by
  simp [State.faceMoved, h.effective, h.base, h.govHandle]

end SameFace

/-! ## What follows where nothing has changed -/

theorem takeNext_airs (s : State) : s.takeNext.airs = s.airs := by
  unfold State.takeNext
  repeat' split
  all_goals rfl

theorem noteRooms_none (s : State) : s.noteRooms (fun _ => false) = s := by
  simp [State.noteRooms, Port.raiseIf, Table.mapIdx_id]

theorem fireMembers_none {s b : State} (h : ∀ r, s.faceMoved b r = false) : s.fireMembers b (fun _ => false) = s := by
  simp [State.fireMembers, h, Table.mapIdx_id]

theorem startPass_of_not_pending {a : AirGroup} (h : a.pending = false) (s : State) (g : AirId) :
    s.startPass g a = a := by simp [State.startPass, h]

section Still
variable {s b : State} (h : SameFace b s)
include h

/-- Where nothing has changed, no room is noted and no trigger fires. -/
theorem reacted_still : s.reacted b = s.follow.startPasses := by
  have face := h.trans (.follow s)
  have unmoved : s.follow.roomMoved b = fun _ => false := funext face.not_roomMoved
  rw [State.reacted, unmoved, noteRooms_none, fireMembers_none face.not_faceMoved]

theorem port_finish_still : (s.finish b).port = s.port := by
  rw [finish_eq, takeNext_port, reacted_still h]; rfl

theorem airs_finish_still (g : AirId) (idle : (s.airs.get g).pending = false) :
    (s.finish b).airs.get g = s.airs.get g := by
  have follows : s.follow.airs = s.airs := rfl
  rw [finish_eq, takeNext_airs, reacted_still h, State.startPasses, Table.get_mapIdx, follows]
  exact startPass_of_not_pending idle ..

end Still

/-- The requests that wait in a room change only where the arbiter takes the first. -/
theorem ctx_takeNext (s : State) {r : RoomId} (h : s.requestRoom ≠ some r) :
    (s.takeNext.room r).ctx = (s.room r).ctx := by
  unfold State.takeNext
  split
  · rfl
  · split
    · rfl
    · split
      · rename_i q first
        have other : r ≠ q := fun same => h (same ▸ first)
        split
        · rename_i op rest _
          exact congrArg Room.ctx (room_modifyRoom_other s (fun x => { x with ctx := { x.ctx with requests := rest } })
            other)
        · rfl
      · split <;> rfl

theorem takeNext_of_nothing {s : State} (request : s.requestRoom = none) (steps : s.store.steps = [])
    (wait : s.store.hostWait = none) : s.takeNext = s := by
  simp [State.takeNext, request, steps, wait]

/-! ## Outputs that follow their inputs -/

theorem OutputsFollow.idle {s : State} (h : OutputsFollow s) : OutputsFollow s.idle := h

theorem outputs_finish_still {s : State} (h : OutputsFollow s) (b : State) (r : RoomId) :
    ((s.finish b).room r).air = (s.room r).air ∧ ((s.finish b).room r).light = (s.room r).light := by
  have taken : s.recompute = s := by
    have rooms : s.recompute.rooms = s.rooms := Table.ext_get fun q => by
      have same : s.recompute.room q = s.room q := by
        rw [State.recompute, room_mapRooms, ← (h q).1]
      exact same
    exact congrArg (fun x => ({ s with rooms := x } : State)) rooms
  obtain ⟨-, light, -⟩ := room_finish_outputs s b r
  rw [room_finish_air, light, room_follow_light, taken]
  exact ⟨(h r).1.symm, (h r).2.symm⟩

/-! ## Stale notes -/

theorem serveNote_stale {s : State} {h : Handle} (stale : (∃ e, s.resolve h = .refused e) ∨
    ∃ k b, s.resolve h = .live k b ∧ b.state ≠ .active) (kind : NoteKind) : s.serveNote kind h = s := by
  obtain ⟨e, refused⟩ | ⟨k, b, live, idle⟩ := stale
  · rw [State.serveNote, refused]
  · rw [State.serveNote, live]
    exact if_neg idle

/-- Settles O22: the served note changes nothing, and nothing that follows finds a change. -/
theorem staleNoteDiscarded : Obligations.StaleNoteDiscarded := by
  intro s r kind h now running stale
  have served : exec (.noteServed r) s = .next (s.idle.finish s) := by
    have done := completeIf_of_running (p := StoreOp.isNote r) running.1 (beq_self_eq_true r)
    rw [show s.opEffect ⟨.room r (.note kind h), now⟩ = s from serveNote_stale stale kind,
      applyHeld_of_no_work (s := s.releaseStore) running.2] at done
    exact congrArg Host.Outcome.next done
  have face := SameFace.idle s
  refine ⟨_, served, (Follows.release s).trans (.finish _ _), port_finish_still face, fun q other => ?_,
    fun g idle => airs_finish_still face g idle, fun outputs q => ?_, fun aimed q => ?_, fun request steps wait => ?_⟩
  · rw [finish_eq, ctx_takeNext _ (by rw [requestRoom_reacted]; exact other), reacted_ctx]; rfl
  · have settled := outputs_finish_still (OutputsFollow.idle outputs) s q
    exact settled
  · refine Table.ext_get fun k => ?_
    have own : s.aimBlind q k ((s.room q).blinds.get k) = (s.room q).blinds.get k := by
      have same : ((s.aim.room q).blinds.get k) = (s.room q).blinds.get k := by rw [aimed]
      simpa [State.aim] using same
    rw [room_finish_blind, ((face.trans (.recompute _)).trans (.relight _)).aimBlind]
    exact own
  · rw [finish_eq, takeNext_of_nothing (s := s.idle.reacted s) ((requestRoom_reacted ..).trans request) steps wait]; rfl

end Sys2Proof.Machine
end

section
/-! PROOFS. Extensions: asked for at the panel, and served for the panel and for the host (R38, R39, R78 to R80, R92,
R102). -/
namespace Sys2Proof.Machine

/-! ## The panel -/

/-- An EXTEND press has effect in a room under no overlay, and at a MERGED member under SAFE or HOLD (R78, R102,
assumption 47). -/
theorem panelHeard_extend_iff (s : State) (r : RoomId) : s.panelHeard r .extend = true ↔
    (∃ svc, s.effective r = .service svc ∧ svc ≠ .unconfigured) ∨
      ((s.mergedOf r).isSome = true ∧ (s.effective r = .safe ∨ s.effective r = .hold)) := by
  unfold State.panelHeard
  cases s.effective r with
  | safe => simp
  | hold => simp
  | closed => simp
  | service svc => cases svc <;> simp

section Panel
variable {s : State} {r : RoomId}

theorem panelEvent_unheard (h : ¬ s.panelHeard r .extend = true) : s.panelEvent r .extend = s := if_neg h

theorem panelEvent_heard (h : s.panelHeard r .extend = true) : s.panelEvent r .extend = s.panelExtend r := if_pos h

theorem panelExtend_refused
    (h : ¬ ((s.room (s.govRoom r)).ctx.service = .inUse ∨ (s.room (s.govRoom r)).ctx.service = .vacated)) :
    s.panelExtend r = s.modifyCtx (s.govRoom r) fun c => { c with extResult := .refused } := if_neg h

variable (h : (s.room (s.govRoom r)).ctx.service = .inUse ∨ (s.room (s.govRoom r)).ctx.service = .vacated)
include h

theorem panelExtend_again (pending : (s.room (s.govRoom r)).ctx.extPending = true) : s.panelExtend r = s :=
  (if_pos h).trans (if_pos pending)

theorem panelExtend_asked (pending : (s.room (s.govRoom r)).ctx.extPending = false) {g : Handle}
    (gov : (s.room (s.govRoom r)).ctx.gov = some g) :
    s.panelExtend r = s.modifyCtx (s.govRoom r) fun c =>
      { c with extPending := true, extResult := .none,
               requests := c.requests ++ [.extend g (s.govProfile r).extStep] } := by
  simp only [State.panelExtend, if_pos h, pending, Bool.false_eq_true, if_false, gov]

end Panel

/-! ## A grant -/

/-- The part with the entries of a handle extended (R38). -/
def State.extended (s : State) (h : Handle) (step : Nat) : State :=
  s.mapHandle h fun e => e.moveEnd (e.curEnd + step) (e.ext + step) e.attendance

section Grant
variable (s : State) (h : Handle) (step : Nat)

theorem keys_extended (q : RoomId) : (s.extended h step).keys q = (s.room q).agenda.map fun e =>
    if e.handle = h ∧ e.state.terminal = false then (e.handle, e.start, e.curEnd + step, e.ext + step)
    else (e.handle, e.start, e.curEnd, e.ext) := by
  rw [State.keys, State.extended, agenda_mapHandle, List.map_map]
  refine List.map_congr_left fun e _ => ?_
  by_cases own : e.handle = h
  · cases ended : e.state.terminal <;> simp [own, Entry.moveEnd, ended]
  · simp [own]

theorem moveEnd_state (e : Entry) (stop ext attendance : Nat) :
    (e.moveEnd stop ext attendance).state = e.state ∧ (e.moveEnd stop ext attendance).handle = e.handle := by
  unfold Entry.moveEnd
  split <;> exact ⟨rfl, rfl⟩

theorem stateIn_extended (q : RoomId) :
    stateIn ((s.extended h step).room q).agenda h = stateIn (s.room q).agenda h := by
  rw [State.extended, agenda_mapHandle]
  generalize (s.room q).agenda = a
  unfold stateIn entryOf
  induction a with
  | nil => rfl
  | cons e a ih =>
    by_cases own : e.handle = h
    · have moved := moveEnd_state e (e.curEnd + step) (e.ext + step) e.attendance
      simp [own, moved]
    · simpa [own] using ih

/-- A room whose agenda an extension changes holds an entry of the handle that is not terminal. -/
theorem open_of_changed {q : RoomId} (changed : q ∈ changedRooms s (s.extended h step)) :
    ∃ e ∈ (s.room q).agenda, e.handle = h ∧ e.state.terminal = false := by
  by_contra none
  have same : ((s.extended h step).room q).agenda = (s.room q).agenda := by
    rw [State.extended, agenda_mapHandle]
    refine (List.map_congr_left fun e he => ?_).trans (List.map_id _)
    split
    · rename_i own
      have ended : e.state.terminal = true := by
        by_contra going
        exact none ⟨e, he, eq_of_beq own, by simpa using going⟩
      exact if_pos ended
    · rfl
  simp [changedRooms, same] at changed

end Grant

/-- A room in which the handle's entry governs and runs, with the service state that belongs to it. -/
structure Runs (s : State) (h : Handle) (q : RoomId) : Prop where
  enabled : (s.room q).cfg.enabled = true
  opened : s.closed q = false
  gov : (s.room q).ctx.gov = some h
  running : (stateIn (s.room q).agenda h = some .started ∧ ((s.room q).ctx.service = .inUse ∨
      (s.room q).ctx.service = .vacated ∨ (s.room q).ctx.service = .awaiting)) ∨
    (stateIn (s.room q).agenda h = some .confirmed ∧
      ((s.room q).ctx.service = .inUse ∨ (s.room q).ctx.service = .vacated))

/-- A report of an agenda finds nothing to change where the governing entry runs on. -/
theorem report_of_runs {s : State} {h : Handle} {q : RoomId} (runs : Runs s h q) (m : Option Nat) :
    s.report m q = s := by
  have own : (s.ownEntry q).map (·.state) = stateIn (s.room q).agenda h := by
    rw [State.ownEntry, runs.gov]; rfl
  unfold State.report; dsimp only
  rw [runs.enabled, runs.opened, own]
  simp only [Bool.not_true, Bool.false_eq_true, if_false]
  obtain ⟨started, service⟩ | ⟨confirmed, service⟩ := runs.running
  · exact if_pos ⟨started, service⟩
  · have awaits : (s.room q).ctx.service ≠ .awaiting := by
      obtain inUse | vacated := service
      · simp [inUse]
      · simp [vacated]
    simp [confirmed, service, awaits]

/-- Where every room with an entry to extend runs it, an extension changes no room's service state. -/
theorem reportChanges_extended {s : State} {h : Handle} {step : Nat}
    (runs : ∀ q, (∃ e ∈ (s.room q).agenda, e.handle = h ∧ e.state.terminal = false) → Runs s h q) :
    (s.extended h step).reportChanges s none = s.extended h step := by
  have still (l : List RoomId) (hl : ∀ q ∈ l, Runs (s.extended h step) h q) :
      l.foldl (fun t q => t.report none q) (s.extended h step) = s.extended h step := by
    induction l with
    | nil => rfl
    | cons q l ih =>
      rw [List.foldl_cons, report_of_runs (hl q (List.mem_cons_self ..))]
      exact ih fun q hq => hl q (List.mem_cons_of_mem _ hq)
  refine still _ fun q changed => ?_
  obtain ⟨enabled, opened, gov, running⟩ := runs q (open_of_changed s h step changed)
  have only : OnlyAgendas s (s.extended h step) := .mapHandle ..
  refine ⟨(only.cfg q).symm ▸ enabled, (only.closed q).trans opened, (congrArg Context.gov (only.ctx q)).trans gov, ?_⟩
  rw [stateIn_extended, only.ctx]
  exact running

/-! ## Requests of the panel served -/

section Served
variable {s : State} {now : Instant} {r : RoomId} {h : Handle} {step : Nat}

theorem extend_granted {stop ext : Nat} (hc : s.extendChecks now r h step = .granted stop ext) :
    s.extend now r h step = ((s.extended h step).reportChanges s none, .granted stop ext) := by
  rw [State.extend, hc]; rfl

theorem extend_refused {e : Status} {x : Result} (hc : s.extendChecks now r h step = .refused e x) :
    s.extend now r h step = (s, .refused e x) := by
  rw [State.extend, hc]

theorem serveRoom_extend : s.serveRoom now r (.extend h step) =
    (s.extend now r h step).1.extensionAnswered r h (s.extend now r h step).2 := rfl

/-- A grant is made to an entry of the room that is not terminal (R38). -/
theorem open_of_granted {stop ext : Nat} (hc : s.extendChecks now r h step = .granted stop ext) :
    ∃ e ∈ (s.room r).agenda, e.handle = h ∧ e.state.terminal = false := by
  unfold State.extendChecks at hc
  split at hc
  · exact absurd hc nofun
  split at hc
  · exact absurd hc nofun
  split at hc
  · exact absurd hc nofun
  split at hc
  · exact absurd hc nofun
  rename_i e found
  split at hc
  · exact absurd hc nofun
  rename_i passes
  refine ⟨e, List.mem_of_find?_eq_some found, by simpa using List.find?_some found, ?_⟩
  obtain started | confirmed := not_not.1 (not_or.1 passes).1
  · rw [started]; rfl
  · rw [confirmed]; rfl

end Served

theorem extPending_extensionAnswered (s : State) (r : RoomId) (h : Handle) (x : Extended) :
    ((s.extensionAnswered r h x).room r).ctx.extPending = false := by
  unfold State.extensionAnswered State.modifyCtx
  rw [room_modifyRoom, if_pos rfl]

theorem extResult_extensionAnswered {s : State} {r : RoomId} {h : Handle} (gov : (s.room r).ctx.gov = some h)
    (stop ext : Nat) : ((s.extensionAnswered r h (.granted stop ext)).room r).ctx.extResult = .granted := by
  unfold State.extensionAnswered State.modifyCtx
  rw [room_modifyRoom, if_pos rfl]
  exact if_pos gov

/-- The panel's extension is served: a grant is made in every agenda before the rooms are told and the answer taken. -/
theorem panelExtension_granted {s : State} {now : Instant} {r : RoomId} {h : Handle} {step stop ext : Nat}
    (running : s.performing (.room r (.extend h step)) now) (hc : s.extendChecks now r h step = .granted stop ext) :
    ∃ t, exec (.extensionRequestServed r) s = .next t ∧ (∀ q, t.keys q = (s.extended h step).keys q) ∧
      (t.room r).ctx.extPending = false ∧ t.store.slots = s.store.slots ∧ t.port.slot = s.port.slot ∧
      ((∀ q, (∃ e ∈ (s.room q).agenda, e.handle = h ∧ e.state.terminal = false) → Runs s h q) →
        (t.room r).ctx.extResult = .granted) := by
  have effect : s.opEffect ⟨.room r (.extend h step), now⟩ =
      ((s.extended h step).reportChanges s none).extensionAnswered r h (.granted stop ext) := by
    show s.serveRoom now r (.extend h step) = _
    rw [serveRoom_extend, extend_granted hc]
  have only : OnlyAgendas s (s.extended h step) := .mapHandle ..
  have answered (t : State) : Quiet t (t.extensionAnswered r h (.granted stop ext)) := .modifyCtx ..
  have quiet := (Quiet.reportChanges (s.extended h step) s none).trans (answered _)
  have sends := only.sends.trans (.reportChanges (s.extended h step) s none)
  obtain ⟨t, ht, done⟩ := completed (c := .extensionRequestServed r) running rfl (beq_self_eq_true r) effect
    ((only.roomWork.trans (.reportChanges ..)).trans (.modifyCtx _ _ fun _ => ⟨rfl, rfl⟩)) (sends.confirms running.2)
  refine ⟨t, ht, fun q => keys_of_bookings ((done.bookings q).trans (quiet.bookings q)), ?_, done.settles.slots, ?_,
    fun runs => ?_⟩
  · rw [done.pending, extPending_extensionAnswered]
  · rw [done.slot, quiet.port, only.port]
  · have still := reportChanges_extended (step := step) runs
    rw [still] at done
    have silent : ((s.extended h step).extensionAnswered r h (.granted stop ext)).cal.work = [] :=
      (congrArg Calendar.work only.cal).trans running.2
    have gov : ((s.extended h step).room r).ctx.gov = some h :=
      (congrArg Context.gov (only.ctx r)).trans (runs r (open_of_granted hc)).gov
    have kept := ((Follows.release _).trans (done.follows silent)).rooms r
    exact kept.extResult.trans (extResult_extensionAnswered gov ..)

/-! ## Requests of the host -/

section Host
variable {s : State} {n : Nat} {r : RoomId} {h : Handle}

theorem extendNow_range (hn : asRoom n = none) : s.extendNow n h = .inl (s.refuse .range) := by
  rw [State.extendNow, hn]

theorem extendNow_notEnabled (hn : asRoom n = some r) (off : (s.room r).cfg.enabled = false) :
    s.extendNow n h = .inl (s.refuse .notEnabled) := by
  simp [State.extendNow, hn, off]

theorem extendNow_slot (hn : asRoom n = some r) (enabled : (s.room r).cfg.enabled = true) (high : 512 ≤ h.slot) :
    s.extendNow n h = .inl (s.refuse .range) := by
  simp [State.extendNow, hn, enabled, high]

theorem extendNow_notFound (hn : asRoom n = some r) (enabled : (s.room r).cfg.enabled = true) (fits : h.slot < 512)
    (other : ¬ ((s.base r = .inUse ∨ s.base r = .vacated) ∧ s.govHandle r = some h)) :
    s.extendNow n h = .inl (s.refuse .notFound) := by
  rw [State.extendNow, hn]
  dsimp only
  rw [enabled, if_neg (by simp), if_neg (not_le.2 fits), if_neg other]

theorem extendNow_asked (hn : asRoom n = some r) (enabled : (s.room r).cfg.enabled = true) (fits : h.slot < 512)
    (service : s.base r = .inUse ∨ s.base r = .vacated) (governs : s.govHandle r = some h) :
    s.extendNow n h = .inr (.extend (s.govRoom r) h (s.govProfile r).extStep) := by
  rw [State.extendNow, hn]
  dsimp only
  rw [enabled, if_neg (by simp), if_neg (not_le.2 fits), if_pos ⟨service, governs⟩]

/-- An EXTEND_OCCURRENCE that its checks refuse is answered at once (R92). -/
theorem exec_extendOccurrence_refused {e : Status} (hs : s.slotOpen = true)
    (he : s.hostHeard.extendNow n h = .inl (s.hostHeard.refuse e)) (refused : e.accepted = false) :
    exec (.extendOccurrence n h) s = .next (s.answered (.extendOccurrence n h) e .none) :=
  congrArg Host.Outcome.next (queuedEither_refused hs he refused)

theorem exec_extendOccurrence_asked {op : HostOp} (hs : s.slotOpen = true)
    (he : s.hostHeard.extendNow n h = .inr op) : exec (.extendOccurrence n h) s =
      .next ((s.hostHeard.storeCommand (.extendOccurrence n h) op).takeNext) :=
  congrArg Host.Outcome.next (queuedEither_operation hs he)

end Host

section HostServed
variable {s : State} {now : Instant} {r : RoomId} {h : Handle} {step : Nat}

theorem extendForHost_granted {stop ext : Nat} (hc : s.extendChecks now r h step = .granted stop ext) :
    s.extendForHost now r h step = ((s.extended h step).reportChanges s none, .ok, .extended h stop ext) := by
  rw [State.extendForHost, extend_granted hc]

theorem extendForHost_refused {e : Status} {x : Result} (hc : s.extendChecks now r h step = .refused e x) :
    s.extendForHost now r h step = (s, e, x) := by
  rw [State.extendForHost, extend_refused hc]

/-- A handle whose slot lies above 511 is refused RANGE, at the store as at the room's checks (R202). -/
theorem extendChecks_slot (high : 512 ≤ h.slot) : s.extendChecks now r h step = .refused .range .none := by
  have range : s.resolve h = .refused .range := by simp [State.resolve, asIndex, not_lt.2 high]
  rw [State.extendChecks, range]

/-- A command answered at once leaves nothing that completes. -/
theorem performed_at_once {c : Instr} {e : Status} {x : Result} (idle : s.store.running = none)
    (hexec : exec c s = .next (s.answered c e x)) : Performed c s (Follows (s.answered c e x)) := by
  have still : (s.answered c e x).completeOp = s.answered c e x := by
    have none : (s.answered c e x).store.running = none := idle
    rw [State.completeOp, none]
  exact ⟨_, _, hexec, congrArg Host.Outcome.next still, .refl _⟩

end HostServed

/-- EXTEND_OCCURRENCE as the store serves it: granted, or refused as its checks answer (R39, R92). -/
theorem hostExtension {s : State} {n : Nat} {r : RoomId} {h : Handle} (hr : s.ready) (hn : asRoom n = some r)
    (enabled : (s.room r).cfg.enabled = true) (service : s.base r = .inUse ∨ s.base r = .vacated)
    (governs : s.govHandle r = some h) :
    (∀ stop ext, s.extendChecks s.instant (s.govRoom r) h (s.govProfile r).extStep = .granted stop ext →
      Performed (.extendOccurrence n h) s fun t =>
        t.answeredWith (.extendOccurrence n h) .ok (.extended h stop ext) ∧
        (∀ q, t.keys q = (s.extended h (s.govProfile r).extStep).keys q) ∧
        Settles (s.answered (.extendOccurrence n h) .ok (.extended h stop ext)) t) ∧
    ∀ e x, s.extendChecks s.instant (s.govRoom r) h (s.govProfile r).extStep = .refused e x →
      Performed (.extendOccurrence n h) s (Follows (s.answered (.extendOccurrence n h) e x)) := by
  have asked (fits : h.slot < 512) := exec_extendOccurrence_asked hr.1
    (extendNow_asked (s := s.hostHeard) hn enabled fits service governs)
  refine ⟨fun stop ext hc => ?granted, fun e x hc => ?refused⟩
  case granted =>
    have fits : h.slot < 512 := by
      by_contra high
      rw [extendChecks_slot (not_lt.1 high)] at hc
      exact absurd hc nofun
    refine performed_told (v := s) (w := (s.serving (.extendOccurrence n h) (.extend (s.govRoom r) h
        (s.govProfile r).extStep)).extended h (s.govProfile r).extStep) hr (asked fits)
      (extendForHost_granted (s := s.serving ..) hc) (running_of_ready hr) (work_of_ready hr) (fun _ => rfl)
      (.mapHandle ..) fun t told => ?_
    exact ⟨told.answered, fun q => keys_of_bookings (told.bookings q), told.settles⟩
  case refused =>
    by_cases fits : h.slot < 512
    · exact performed_refused hr (asked fits) (extendForHost_refused (s := s.serving ..) hc)
    · rw [extendChecks_slot (not_lt.1 fits)] at hc
      obtain ⟨rfl, rfl⟩ := Extended.refused.inj hc
      exact performed_at_once (running_of_ready hr) (exec_extendOccurrence_refused hr.1
        (extendNow_slot (s := s.hostHeard) hn enabled (not_lt.1 fits)) rfl)

/-- Settles O24: the panel by the cases of `panelExtend`, a served request by the outcome of its checks, and a request
of the host by the checks of its room. -/
theorem extensionServed : Obligations.ExtensionServed := by
  refine ⟨fun s r => ⟨fun unheard => ?_, fun heard idle => ?_, fun heard asks pending => ?_,
    fun heard asks pending h gov => ?_⟩, fun s h step => ⟨fun r now running => ⟨fun stop ext hc => ?granted,
    fun e x hc => ?refused⟩, fun n r hr hn enabled service governs hstep => ?host, fun n open_ => ?once⟩⟩
  · exact panelEvent_unheard fun heard => unheard ((panelHeard_extend_iff s r).1 heard)
  · exact (panelEvent_heard ((panelHeard_extend_iff s r).2 heard)).trans (panelExtend_refused idle)
  · exact (panelEvent_heard ((panelHeard_extend_iff s r).2 heard)).trans (panelExtend_again asks pending)
  · exact (panelEvent_heard ((panelHeard_extend_iff s r).2 heard)).trans (panelExtend_asked asks pending gov)
  case granted =>
    obtain ⟨t, ht, keys, rest⟩ := panelExtension_granted running hc
    obtain ⟨pending, slots, slot, result⟩ := rest
    refine ⟨t, ht, fun q => (keys q).trans (keys_extended ..), pending, slots, slot,
      fun runs => result fun q going => ?_⟩
    obtain ⟨enabled, opened, gov, running⟩ := runs q going
    exact ⟨enabled, opened, gov, running⟩
  case refused =>
    have effect : s.opEffect ⟨.room r (.extend h step), now⟩ = s.extensionAnswered r h (.refused e x) := by
      show s.serveRoom now r (.extend h step) = _
      rw [serveRoom_extend, extend_refused hc]
    exact completed_follows (c := .extensionRequestServed r) running rfl (beq_self_eq_true r) effect running.2
  case host =>
    subst hstep
    obtain ⟨granted, refused⟩ := hostExtension hr hn enabled service governs
    refine ⟨fun stop ext hc => ?_, refused⟩
    obtain ⟨m, t, taken, completed, answered, keys, settles⟩ := granted stop ext hc
    exact ⟨m, t, taken, completed, answered, fun q => (keys q).trans (keys_extended ..), settles⟩
  case once =>
    refine ⟨fun hn => exec_extendOccurrence_refused open_ (extendNow_range hn) rfl, fun r hn => ⟨fun off => ?_,
      fun enabled high => ?_, fun enabled fits other => ?_⟩⟩
    · exact exec_extendOccurrence_refused open_ (extendNow_notEnabled (s := s.hostHeard) hn off) rfl
    · exact exec_extendOccurrence_refused open_ (extendNow_slot (s := s.hostHeard) hn enabled high) rfl
    · exact exec_extendOccurrence_refused open_ (extendNow_notFound (s := s.hostHeard) hn enabled fits other) rfl

end Sys2Proof.Machine
end

section
/-! PROOFS. Which commands and events leave the wing clock and the closures as they are (R46, R47, R48). -/
namespace Sys2Proof.Machine

/-! ## A clock that stays as it is -/

/-- What the clock shows, with the closures: the calendar without the minute that is due, the rollover flag, the gap and
the work it holds. -/
def Calendar.face (c : Calendar) : Calendar := { c with minuteDue := false, rolloverFlag := false, gap := 0, work := [] }

/-- The clock shows what it showed, and the closures are as they were. -/
structure SameClock (s t : State) : Prop where
  face : t.cal.face = s.cal.face

theorem SameClock.refl (s : State) : SameClock s s := ⟨rfl⟩

theorem SameClock.trans {s t u : State} (a : SameClock s t) (b : SameClock t u) : SameClock s u :=
  ⟨b.face.trans a.face⟩

theorem SameClock.foldl {α : Type} {f : State → α → State} (h : ∀ s a, SameClock s (f s a)) (l : List α) (s : State) :
    SameClock s (l.foldl f s) := by
  induction l generalizing s with
  | nil => exact .refl s
  | cons a l ih => exact (h s a).trans (ih _)

theorem RoomWork.sameClock {s t : State} (h : RoomWork s t) : SameClock s t := ⟨by rw [h.clock]; rfl⟩

theorem Follows.sameClock {s t : State} (h : Follows s t) : SameClock s t := ⟨congrArg Calendar.face h.cal⟩

theorem SameClock.finish {s t : State} (h : SameClock s t) (b : State) : SameClock s (t.finish b) :=
  h.trans (Follows.finish t b).sameClock

theorem SameClock.completeCommand (s : State) (e : Status) (x : Result) : SameClock s (s.completeCommand e x) :=
  (RoomWork.completeCommand s e x).sameClock

/-! ### Commands as they arrive -/

theorem SameClock.arrive {act : State → State} (h : ∀ t, SameClock t (act t)) (s : State) :
    SameClock s (s.arrive act) := by
  unfold State.arrive; split
  · exact ⟨rfl⟩
  · exact h s

theorem SameClock.hostHeard_arrive {act : State → State} (h : ∀ t, SameClock t (act t)) (s : State) :
    SameClock s (s.hostHeard.arrive act) := ⟨(SameClock.arrive h s.hostHeard).face⟩

theorem SameClock.queued {act : State → State × Status × Result} (h : ∀ t, SameClock t (act t).1) (s : State)
    (c : Instr) : SameClock s (s.queued c act) := by
  unfold State.queued
  refine .hostHeard_arrive (fun t => ?_) s
  exact (h t).trans ⟨rfl⟩

theorem SameClock.queuedRead (s : State) (c : Instr) (answer : State → Status × Result) :
    SameClock s (s.queuedRead c answer) := .queued (fun t => .refl t) s c

theorem SameClock.queuedTouching {act : State → State × Status × Result} (h : ∀ t, SameClock t (act t).1) (s : State)
    (c : Instr) (touched : RoomId → Bool) : SameClock s (s.queuedTouching c touched act) := by
  refine .queued (fun t => ?_) s c
  change SameClock t (if (act t).2.1.accepted then (act t).1.finishWith t touched else (act t).1)
  split
  · exact (h t).trans (Follows.finishWith ..).sameClock
  · exact h t

theorem SameClock.queuedEffect {act : State → State × Status × Result} (h : ∀ t, SameClock t (act t).1) (s : State)
    (c : Instr) : SameClock s (s.queuedEffect c act) := .queuedTouching h s c _

theorem SameClock.queuedOperation (s : State) (c : Instr) (op : HostOp) : SameClock s (s.queuedOperation c op) :=
  .hostHeard_arrive (fun t => ⟨(Follows.takeNext (t.storeCommand c op)).sameClock.face⟩) s

theorem SameClock.queuedEither {act : State → (State × Status × Result) ⊕ HostOp}
    (h : ∀ t a, act t = .inl a → SameClock t a.1) (s : State) (c : Instr) : SameClock s (s.queuedEither c act) := by
  refine .hostHeard_arrive (fun t => ?_) s
  split
  · rename_i u e x ha
    have kept : SameClock t u := h t _ ha
    split
    · exact ⟨(kept.finish t).face⟩
    · exact ⟨kept.face⟩
  · exact ⟨(Follows.takeNext (t.storeCommand c _)).sameClock.face⟩

/-! ### Configuration -/

theorem SameClock.leaveSafe (s : State) (r : RoomId) : SameClock s (s.leaveSafe r) := by
  unfold State.leaveSafe; split
  · exact ⟨((RoomWork.thawRoom ..).trans (.offerWork ..)).sameClock.face⟩
  · exact .refl s

theorem SameClock.readdress (s : State) (r : RoomId) (address : Nat) : SameClock s (s.readdress r address) := by
  obtain ⟨work, -⟩ := readdress_after s r address
  exact ⟨work.sameClock.face.trans (SameClock.leaveSafe s r).face⟩

theorem SameClock.refitTally (s : State) (r : RoomId) (off : Bool) : SameClock s (s.refitTally r off) := by
  have own : SameClock s (if off then
      s.modifyOce r fun o => { o.unbase with est := { o.est with tally := 0 } }
    else s.modifyOce r fun o =>
      { o with est := { o.est with tally := min (s.room r).cfg.tallyLimit o.est.tally } }) := by
    split <;> exact ⟨rfl⟩
  unfold State.refitTally; dsimp only; split
  · exact ⟨own.face⟩
  · exact own

theorem SameClock.moveAirGroup (s : State) (r : RoomId) (old new : Option AirId) :
    SameClock s (s.moveAirGroup r old new) := by
  unfold State.moveAirGroup; dsimp only
  repeat' split
  all_goals exact ⟨rfl⟩

theorem SameClock.rewriteRoom (s : State) (r : RoomId) (c : RoomRec) : SameClock s (s.rewriteRoom r c) := by
  have recorded : SameClock s (s.recorded r c) := by
    unfold State.recorded; dsimp only; split
    · exact ⟨rfl⟩
    · exact ⟨(SameClock.readdress ..).face⟩
  rw [rewriteRoom_eq]
  exact recorded.trans ((SameClock.refitTally ..).trans ((SameClock.moveAirGroup ..).trans ⟨rfl⟩))

theorem SameClock.applyRoom (s : State) (r : RoomId) (c : RoomRec) : SameClock s (s.applyRoom r c) := by
  unfold State.applyRoom; split
  · exact ⟨rfl⟩
  · exact ⟨rfl⟩
  · exact .rewriteRoom ..
  · exact ⟨rfl⟩

theorem SameClock.writeRoom (s : State) (r : RoomId) (w : RoomWrite) : SameClock s (s.writeRoom r w).1 := by
  unfold State.writeRoom; split
  · exact ⟨rfl⟩
  · exact .applyRoom ..

theorem SameClock.writeRoomStored (s : State) (n : Nat) (w : RoomWrite) : SameClock s (s.writeRoomStored n w).1 := by
  unfold State.writeRoomStored
  repeat' split
  all_goals first
    | exact ⟨rfl⟩
    | exact .writeRoom ..

theorem SameClock.writeRoomNow {s : State} {n : Nat} {w : RoomWrite} {a : Answered} (h : s.writeRoomNow n w = .inl a) :
    SameClock s a.1 := by
  unfold State.writeRoomNow at h
  repeat' split at h
  all_goals cases h
  · exact ⟨rfl⟩
  · exact ⟨rfl⟩
  · exact .writeRoom ..

theorem SameClock.writeWing (s : State) (gap : Nat) (b : Band) (silence : Nat) (check : State → Nat → Option Result) :
    SameClock s (s.writeWing gap b silence check).1 := by
  unfold State.writeWing; dsimp only
  repeat' split
  all_goals exact ⟨rfl⟩

theorem SameClock.writeWingNow {s : State} {gap silence : Nat} {b : Band} {a : Answered}
    (h : s.writeWingNow gap b silence = .inl a) : SameClock s a.1 := by
  unfold State.writeWingNow at h
  split at h
  · cases h
  · cases h; exact .writeWing ..

theorem SameClock.writePartition (s : State) (n : Nat) (rooms : List Nat) :
    SameClock s (s.writePartition n rooms).1 := by
  unfold State.writePartition
  repeat' split
  all_goals first
    | exact ⟨rfl⟩
    | exact ⟨(RoomWork.splitIfMerged ..).sameClock.face⟩

theorem SameClock.deletePartition (s : State) (n : Nat) : SameClock s (s.deletePartition n).1 := by
  unfold State.deletePartition
  repeat' split
  all_goals first
    | exact ⟨rfl⟩
    | exact ⟨(RoomWork.splitIfMerged ..).sameClock.face⟩

theorem SameClock.writeProfile (s : State) (n : Nat) (w : ProfileWrite) : SameClock s (s.writeProfile n w).1 := by
  unfold State.writeProfile; repeat' split
  all_goals exact ⟨rfl⟩

theorem SameClock.writeAirGroup (s : State) (n fallback period : Nat) (mask : TriggerMask) :
    SameClock s (s.writeAirGroup n fallback period mask).1 := by
  unfold State.writeAirGroup; split <;> exact ⟨rfl⟩

theorem SameClock.writeCalibration (s : State) (n : Nat) (c : Calibration) :
    SameClock s (s.writeCalibration n c).1 := by
  unfold State.writeCalibration; split <;> exact ⟨rfl⟩

/-! ### Service, air, light and loop -/

theorem SameClock.holdRoomNow (s : State) (n : Nat) (f : HoldFields) : SameClock s (s.holdRoomNow n f).1 := by
  unfold State.holdRoomNow State.holdRoom; repeat' split
  all_goals exact ⟨rfl⟩

theorem SameClock.releaseHoldNow (s : State) (n : Nat) : SameClock s (s.releaseHoldNow n).1 := by
  unfold State.releaseHoldNow State.releaseHold; repeat' split
  all_goals exact ⟨rfl⟩

theorem SameClock.extendNow {s : State} {n : Nat} {h : Handle} {a : Answered} (ha : s.extendNow n h = .inl a) :
    SameClock s a.1 := by
  unfold State.extendNow at ha
  repeat' split at ha
  all_goals cases ha
  all_goals exact ⟨rfl⟩

theorem SameClock.closeRoom (s : State) (r : RoomId) : SameClock s (s.closeRoom r) := by
  have left : RoomWork s ((s.evaluateRoom r).setService r .setback none) :=
    (RoomWork.evaluateRoom s r).trans (.setService ..)
  exact ⟨(RoomWork.offerWork (((s.evaluateRoom r).setService r .setback none).modifyCtx r Context.clearOutputs)
    (.closed r)).sameClock.face.trans left.sameClock.face⟩

theorem SameClock.applyOpenRange (s : State) (first last : RoomId) : SameClock s (s.applyOpenRange first last) := by
  unfold State.applyOpenRange; dsimp only
  refine SameClock.trans ?_ (RoomWork.offerWork ..).sameClock
  refine SameClock.trans (t := { s with openFirst := first, openLast := last }) ⟨rfl⟩ (.foldl (fun u r => ?_) ..)
  split
  · exact (RoomWork.offerWork ..).sameClock
  · exact .closeRoom ..

theorem SameClock.endOccurrence {s t : State} {n : Nat} {h : Handle} (hx : execEndOccurrence n h s = .next t) :
    SameClock s t := by
  cases hx
  refine .hostHeard_arrive (fun t => ?_) s
  repeat' split
  all_goals exact ⟨rfl⟩

theorem SameClock.setOpenRange {s t : State} {first last : Nat} (hx : execSetOpenRange first last s = .next t) :
    SameClock s t := by
  cases hx
  refine .hostHeard_arrive (fun t => ?_) s
  split
  · refine SameClock.finish ?_ t
    exact SameClock.trans (t := t.takeCommand (.setOpenRange first last)) ⟨rfl⟩ (.applyOpenRange ..)
  · exact ⟨rfl⟩

theorem SameClock.readStatus (s : State) (n : Nat) : SameClock s (s.readStatus n).1 := by
  unfold State.readStatus; split <;> exact ⟨rfl⟩

theorem SameClock.setCapacity (s : State) (n capacity : Nat) : SameClock s (s.setCapacity n capacity).1 := by
  unfold State.setCapacity; split <;> exact ⟨rfl⟩

theorem SameClock.requestAllocation (s : State) (n : Nat) : SameClock s (s.requestAllocation n).1 := by
  unfold State.requestAllocation; split <;> exact ⟨rfl⟩

theorem SameClock.sceneWindow (s : State) (f : WindowFields) : SameClock s (s.sceneWindow f).1 := by
  unfold State.sceneWindow; split <;> exact ⟨rfl⟩

theorem SameClock.takeLevel (s : State) (n : SceneTally) (level : Nat) : SameClock s (s.takeLevel n level).1 := by
  unfold State.takeLevel; dsimp only; repeat' split
  all_goals exact ⟨rfl⟩

theorem SameClock.sceneWrite (s : State) (count : Nat) (levels : List Nat) :
    SameClock s (s.sceneWrite count levels).1 := by
  have run (l : List Nat) (p : State × SceneTally) :
      SameClock p.1 (l.foldl (fun p level => p.1.takeLevel p.2 level) p).1 := by
    induction l generalizing p with
    | nil => exact .refl _
    | cons a l ih => exact (SameClock.takeLevel ..).trans (ih _)
  exact run _ (s, ⟨0, 0, false⟩)

theorem SameClock.rewound (s : State) (count : Nat) (levels : List Nat) :
    SameClock s (s.rewindWindow.sceneWrite count levels).1 :=
  SameClock.trans (t := s.rewindWindow) ⟨rfl⟩ (.sceneWrite ..)

/-- A run of levels is taken or read where its count is in range, and refused otherwise (R151, R152). -/
theorem SameClock.whereCounted {s : State} {a : Answered} {count : Nat} (h : SameClock s a.1) :
    SameClock s (if countOk count then a else s.refuse .range).1 := by
  split
  · exact h
  · exact .refl s

theorem SameClock.setEconomy (s : State) (e : Option Switch) (cap : Nat) : SameClock s (s.setEconomy e cap).1 := by
  unfold State.setEconomy; split <;> exact ⟨rfl⟩

theorem SameClock.setFacade (s : State) (n : Nat) (a : Option Sun) (b : Option Season) (c : Option Switch) :
    SameClock s (s.setFacade n a b c).1 := by
  unfold State.setFacade; split <;> exact ⟨rfl⟩

theorem SameClock.readmitStation (s : State) (n : Nat) : SameClock s (s.readmitStation n).1 := by
  unfold State.readmitStation; repeat' split
  all_goals exact ⟨rfl⟩

theorem SameClock.readStation (s : State) (n : Nat) : SameClock s (s.readStation n).1 := by
  unfold State.readStation; repeat' split
  all_goals exact ⟨rfl⟩

theorem SameClock.startRound (s : State) : SameClock s s.startRound := by
  unfold State.startRound; split <;> exact ⟨rfl⟩

theorem SameClock.visit (s : State) : SameClock s s.visit := by
  unfold State.visit; repeat' split
  all_goals exact ⟨rfl⟩

theorem SameClock.logFailure (s : State) : SameClock s s.logFailure := by
  unfold State.logFailure; split <;> exact ⟨rfl⟩

theorem SameClock.gradeStation (s : State) (r : RoomId) (was : StationState) (health : Nat) :
    SameClock s (s.gradeStation r was health) := by
  unfold State.gradeStation; dsimp only; split <;> exact ⟨rfl⟩

theorem SameClock.enterSafe (s : State) (r : RoomId) : SameClock s (s.enterSafe r) := by
  unfold State.enterSafe
  exact ⟨(RoomWork.offerWork ..).sameClock.face.trans (RoomWork.freezeRoom (s.modifyCtx r _) r).sameClock.face⟩

theorem SameClock.stationOff (s : State) (r : RoomId) : SameClock s (s.stationOff r) := by
  unfold State.stationOff
  exact ⟨(SameClock.enterSafe _ r).face⟩

theorem SameClock.setpointFailed (s : State) (r : RoomId) (x : Station) : SameClock s (s.setpointFailed r x) := by
  unfold State.setpointFailed; split
  · exact .stationOff ..
  · exact .gradeStation ..

theorem SameClock.failedAt (s : State) (x : Exchange) (code : Nat) : SameClock s (s.failedAt x code) := by
  unfold State.failedAt; split
  · exact .refl s
  · dsimp only; split
    · exact ⟨(SameClock.setpointFailed ..).face⟩
    · exact ⟨rfl⟩

theorem SameClock.fail (s : State) (x : Exchange) (code : Nat) : SameClock s (s.fail x code) := by
  have logged := (SameClock.logFailure { s with loop := { s.loop with exchange := none } }).face
  unfold State.fail; dsimp only; split
  · exact ⟨logged⟩
  · exact ⟨(SameClock.failedAt _ x code).face.trans logged⟩

theorem SameClock.takeEvent (s : State) (r : RoomId) (rep : Report) : SameClock s (s.takeEvent r rep) := by
  unfold State.takeEvent; dsimp only
  repeat' split
  all_goals first
    | exact ⟨rfl⟩
    | exact ⟨(RoomWork.panelEvent ..).sameClock.face⟩

theorem SameClock.deliverReport (s : State) (r : RoomId) (rep : Report) : SameClock s (s.deliverReport r rep) := by
  unfold State.deliverReport; dsimp only
  have restarted : SameClock s
      (if rep.flags.restarted then s.modifyStation r fun x => { x with lastEvent := none } else s) := by
    split <;> exact ⟨rfl⟩
  have reported := restarted.trans ((RoomWork.intake _ r rep).trans (.contactReported _ r rep.contactOpen)).sameClock
  exact ⟨(reported.trans (.takeEvent _ r rep)).face⟩

theorem SameClock.goodAt (s : State) (x : Exchange) (rep : Report) : SameClock s (s.goodAt x rep) := by
  unfold State.goodAt; split
  · exact .refl s
  · dsimp only; repeat' split
    · exact ⟨((SameClock.gradeStation ..).trans (.deliverReport ..)).face⟩
    · exact ⟨(SameClock.leaveSafe ..).face⟩
    · exact ⟨rfl⟩

theorem SameClock.succeed (s : State) (x : Exchange) (rep : Report) : SameClock s (s.succeed x rep) := by
  unfold State.succeed; dsimp only; split
  · exact ⟨rfl⟩
  · exact ⟨(SameClock.goodAt ..).face⟩

theorem SameClock.noReply (s : State) : SameClock s s.noReply := by
  unfold State.noReply; split
  · exact ⟨rfl⟩
  · exact (SameClock.fail ..).finish s

theorem SameClock.replyReceived (s : State) (reply : Reply) : SameClock s (s.replyReceived reply) := by
  unfold State.replyReceived; repeat' split
  · exact ⟨rfl⟩
  · exact (SameClock.fail ..).finish s
  · exact (SameClock.succeed ..).finish s

/-! ### The clock and the timers -/

theorem SameClock.overrunChecks (s : State) : SameClock s s.overrunChecks :=
  .foldl (fun s r => (RoomWork.overrunCheck s r).sameClock) ..

theorem SameClock.offerWork (s : State) (w : CalWork) : SameClock s (s.offerWork w) :=
  (RoomWork.offerWork s w).sameClock

theorem SameClock.noShowExpiry (s : State) (r : RoomId) : SameClock s (s.noShowExpiry r) := by
  unfold State.noShowExpiry; repeat' split
  · exact (SameClock.offerWork ..).finish s
  · exact ⟨rfl⟩
  · exact ⟨rfl⟩

theorem SameClock.requestTaken (s : State) (p : CalWork → Bool) : SameClock s (s.requestTaken p) := by
  unfold State.requestTaken; split
  · exact (RoomWork.takeWork s p).sameClock.finish s
  · exact ⟨rfl⟩

theorem SameClock.absenceEvent (s : State) (r : RoomId) : SameClock s (s.absenceEvent r) := by
  unfold State.absenceEvent; split
  · exact (RoomWork.absenceExpiry s r).sameClock.finish s
  · exact ⟨rfl⟩

theorem SameClock.quietEvent (s : State) (r : RoomId) : SameClock s (s.quietEvent r) := by
  unfold State.quietEvent; split
  · exact (RoomWork.quietExpiry s r).sameClock.finish s
  · exact ⟨rfl⟩

theorem SameClock.settleEvent (s : State) (r : RoomId) : SameClock s (s.settleEvent r) := by
  unfold State.settleEvent; split
  · exact (RoomWork.settleExpiry s r).sameClock.finish s
  · exact ⟨rfl⟩

theorem SameClock.holdEvent (s : State) (r : RoomId) : SameClock s (s.holdEvent r) := by
  unfold State.holdEvent; split
  · exact ⟨(Follows.finishWith (s.endHold r) ..).sameClock.face⟩
  · exact ⟨rfl⟩

theorem SameClock.silenceExpiry (s : State) : SameClock s s.silenceExpiry := by
  unfold State.silenceExpiry; split
  · exact ⟨(Follows.finishWith s.hostAbsent ..).sameClock.face⟩
  · exact ⟨rfl⟩

theorem SameClock.periodEvent (s : State) (g : AirId) : SameClock s (s.periodEvent g) := by
  unfold State.periodEvent; split <;> exact ⟨rfl⟩

theorem SameClock.passEvent (s : State) (g : AirId) : SameClock s (s.passEvent g) := by
  unfold State.passEvent State.completePass; dsimp only; repeat' split
  all_goals exact ⟨rfl⟩

theorem SameClock.travelEvent (s : State) (r : RoomId) (b : BlindId) : SameClock s (s.travelEvent r b) := by
  unfold State.travelEvent; split
  · exact ⟨(Follows.finish (s.modifyBlind r b _) s).sameClock.face⟩
  · exact ⟨rfl⟩

theorem SameClock.pauseEvent (s : State) (r : RoomId) (b : BlindId) : SameClock s (s.pauseEvent r b) := by
  unfold State.pauseEvent; split
  · exact ⟨(Follows.finish (s.modifyBlind r b _) s).sameClock.face⟩
  · exact ⟨rfl⟩

theorem SameClock.drainRoom (s : State) (r : RoomId) : SameClock s (s.drainRoom r) :=
  (((((SameClock.noShowExpiry s r).trans (.absenceEvent ..)).trans (.quietEvent ..)).trans (.settleEvent ..)).trans
    (.holdEvent ..)).trans
    ((((SameClock.travelEvent ..).trans (.pauseEvent ..)).trans (.travelEvent ..)).trans (.pauseEvent ..))

end Sys2Proof.Machine
end

section
/-! PROOFS. Which steps move the wing clock and the closures, and why every step keeps them within their ranges (R46, R47,
R48, R63). -/
namespace Sys2Proof.Machine

/-! ## Store operations that leave the clock as it is -/

section Operations
variable (s : State)

theorem SameClock.createBooking (now : Instant) (f : BookingFields) : SameClock s (s.createBooking now f).1 := by
  unfold State.createBooking
  repeat' split
  all_goals first
    | exact ⟨rfl⟩
    | exact ⟨((RoomWork.placeToday ..).trans (.reportChanges ..)).sameClock.face⟩

theorem SameClock.amendAgendas (now : Instant) (g : Handle) (b : Record) : SameClock s (s.amendAgendas now g b) :=
  ⟨congrArg Calendar.face (OnlyAgendas.amendAgendas s now g b).cal⟩

theorem SameClock.amendBooking (now : Instant) (g : Handle) (f : BookingFields) :
    SameClock s (s.amendBooking now g f).1 := by
  cases hr : s.resolve g with
  | refused e => rw [amendBooking_refused hr]; exact .refl s
  | live k old =>
    cases hf : recordOf f with
    | none => rw [amendBooking_range hr hf]; exact .refl s
    | some p =>
      rw [amendBooking_checks hr hf]
      repeat' split
      all_goals first
        | exact ⟨rfl⟩
        | exact ⟨((SameClock.amendAgendas ..).trans (RoomWork.reportChanges ..).sameClock).face⟩

theorem SameClock.cancelBooking (g : Handle) : SameClock s (s.cancelBooking g).1 := by
  unfold State.cancelBooking; split
  · exact .refl s
  · exact ⟨((RoomWork.removeHandle ..).trans (.reportChanges ..)).sameClock.face⟩

theorem SameClock.suspendBooking (g : Handle) : SameClock s (s.suspendBooking g).1 := by
  unfold State.suspendBooking; split
  · exact .refl s
  · exact ⟨((RoomWork.removeHandle ..).trans (.reportChanges ..)).sameClock.face⟩

theorem SameClock.resumeBooking (now : Instant) (g : Handle) : SameClock s (s.resumeBooking now g).1 := by
  unfold State.resumeBooking; dsimp only
  repeat' split
  all_goals first
    | exact ⟨rfl⟩
    | exact ⟨((RoomWork.placeToday ..).trans (.reportChanges ..)).sameClock.face⟩

theorem SameClock.retire (d : Date) : SameClock s (s.retire d).1 := ⟨(RoomWork.retire s d).sameClock.face⟩

theorem SameClock.serveNote (kind : NoteKind) (g : Handle) : SameClock s (s.serveNote kind g) := by
  have reclaimed (t : State) (k : SlotId) : SameClock t (t.reclaim k g) :=
    ⟨((RoomWork.removeHandle ..).trans (.reportChanges ..)).sameClock.face⟩
  unfold State.serveNote; dsimp only
  repeat' split
  all_goals first
    | exact ⟨rfl⟩
    | exact ⟨(reclaimed ..).face⟩

theorem SameClock.extend (now : Instant) (r : RoomId) (g : Handle) (step : Nat) :
    SameClock s (s.extend now r g step).1 := by
  unfold State.extend; split
  · exact ((RoomWork.mapHandle ..).trans (.reportChanges ..)).sameClock
  · exact .refl s

theorem SameClock.extendForHost (now : Instant) (r : RoomId) (g : Handle) (step : Nat) :
    SameClock s (s.extendForHost now r g step).1 := by
  have kept := SameClock.extend s now r g step
  unfold State.extendForHost
  split <;> simp_all

theorem SameClock.serveRoom (now : Instant) (r : RoomId) (q : RoomReq) : SameClock s (s.serveRoom now r q) := by
  cases q with
  | note kind g => exact .serveNote s kind g
  | extend g step => exact (SameClock.extend s now r g step).trans ⟨rfl⟩

theorem SameClock.stepEffect (now : Instant) (st : CalStep) : SameClock s (s.stepEffect now st) := by
  cases st with
  | retire => exact .retire s now.date
  | build r =>
    have ended (t : State) : SameClock t t.endRebuild := by
      unfold State.endRebuild; dsimp only
      repeat' split
      all_goals exact ⟨rfl⟩
    exact (RoomWork.build s now r).sameClock.trans (ended _)
  | termEnd => exact (RoomWork.termStepped s).sameClock

end Operations

/-! ## A clock within its ranges -/

theorem SameClock.cal {s t : State} (h : SameClock s t) :
    t.cal = { s.cal with minuteDue := t.cal.minuteDue, rolloverFlag := t.cal.rolloverFlag, gap := t.cal.gap,
                         work := t.cal.work } := by
  obtain ⟨face⟩ := h
  generalize s.cal = c at face ⊢
  generalize t.cal = d at face ⊢
  cases c; cases d
  simp_all [Calendar.face]

theorem ClockOk.of_same {s t : State} (h : ClockOk s) (same : SameClock s t) : ClockOk t := by
  unfold ClockOk
  rw [same.cal]
  exact h

/-- A clock that is VALID and within its ranges, with the closures of one that was. -/
theorem ClockOk.valid {s t : State} (h : ClockOk s) (closures : t.cal.closures = s.cal.closures)
    (valid : t.cal.valid = true) (week : t.cal.week < 64) (weekday : t.cal.weekday < 7) (minute : t.cal.minute < 1440)
    (second : t.cal.second < 60) : ClockOk t := by
  obtain ⟨-, -, -, -, -, list⟩ := h
  rw [← closures] at list
  exact ⟨week, weekday, minute, second, fun invalid => by simp [valid] at invalid, list⟩

theorem ClockOk.withClosures {s t : State} (h : ClockOk s) {l : List Date}
    (cal : t.cal = { s.cal with closures := l }) (count : l.length ≤ 24) (dates : ∀ d ∈ l, d.week < 64 ∧ d.weekday < 7)
    (order : l.Pairwise fun a b => a.day < b.day) : ClockOk t := by
  obtain ⟨week, weekday, minute, second, invalid, -⟩ := h
  unfold ClockOk; rw [cal]
  exact ⟨week, weekday, minute, second, invalid, count, dates, order⟩

/-! ### Closures -/

theorem day_inj {a b : Date} (ha : a.weekday < 7) (hb : b.weekday < 7) (h : a.day = b.day) : a = b := by
  cases a; cases b
  simp only [Date.day, Date.mk.injEq] at *
  omega

theorem mem_insertDate {d x : Date} {l : List Date} : x ∈ insertDate d l ↔ x = d ∨ x ∈ l := by
  induction l with
  | nil => simp [insertDate]
  | cons y l ih =>
    unfold insertDate
    split
    · simp
    · simp [ih, or_left_comm]

theorem length_insertDate (d : Date) (l : List Date) : (insertDate d l).length = l.length + 1 := by
  induction l with
  | nil => rfl
  | cons y l ih => unfold insertDate; split <;> simp [ih]

theorem pairwise_insertDate {d : Date} {l : List Date} (h : l.Pairwise fun a b => a.day < b.day)
    (new : ∀ x ∈ l, x.day ≠ d.day) : (insertDate d l).Pairwise fun a b => a.day < b.day := by
  induction l with
  | nil => simp [insertDate]
  | cons y l ih =>
    obtain ⟨first, rest⟩ := List.pairwise_cons.mp h
    unfold insertDate
    split
    · rename_i before
      refine List.pairwise_cons.mpr ⟨fun x hx => ?_, h⟩
      obtain rfl | hx := List.mem_cons.mp hx
      · exact before
      · exact before.trans (first x hx)
    · rename_i after
      have other := new y (List.mem_cons_self ..)
      refine List.pairwise_cons.mpr ⟨fun x hx => ?_, ih rest fun x hx => new x (List.mem_cons_of_mem _ hx)⟩
      obtain rfl | hx := mem_insertDate.mp hx
      · omega
      · exact first x hx

theorem OnlyAgendas.broughtBack (s : State) (now : Instant) (l : List RoomId) :
    OnlyAgendas s (l.foldl (fun u r =>
      (u.broughtBack now r).foldl (fun u p => u.placeIn now.minute r p.1 p.2) u) s) :=
  .foldl (fun u r => .foldl (fun u (p : Handle × Record) => .placeIn u now.minute r p.1 p.2) _ u) l s

section Moves
variable {s : State}

theorem ClockOk.addClosure (h : ClockOk s) (now : Instant) (d : Date) : ClockOk (s.addClosure now d).1 := by
  unfold State.addClosure; dsimp only
  split
  · exact h
  · rename_i term
    split
    · exact h
    · rename_i new
      split
      · exact h
      · rename_i room
        obtain ⟨week, weekday⟩ := inTerm_iff.mp (by simpa using term)
        have ⟨_, _, _, _, _, _, dates, order⟩ := h
        have listed : ClockOk { s with cal := { s.cal with closures := insertDate d s.cal.closures } } := by
          refine h.withClosures rfl ?_ (fun x hx => ?_) (pairwise_insertDate order fun x hx same => ?_)
          · rw [length_insertDate]; omega
          · obtain rfl | hx := mem_insertDate.mp hx
            · exact ⟨by omega, by omega⟩
            · exact dates x hx
          · have known : x = d := day_inj (dates x hx).2 (by omega) same
            exact new (by simpa [known] using hx)
        refine listed.of_same (.trans ?_ (RoomWork.reportChanges ..).sameClock)
        split <;> exact ⟨rfl⟩

theorem ClockOk.removeClosure (h : ClockOk s) (now : Instant) (d : Date) : ClockOk (s.removeClosure now d).1 := by
  have ⟨_, _, _, _, _, count, dates, order⟩ := h
  unfold State.removeClosure; dsimp only
  split
  · exact h
  · split
    · exact h
    · have erased : ClockOk { s with cal := { s.cal with closures := s.cal.closures.erase d } } :=
        h.withClosures rfl ((List.length_erase_le ..).trans count) (fun x hx => dates x (List.mem_of_mem_erase hx))
          (order.sublist List.erase_sublist)
      refine erased.of_same (.trans ?_ (RoomWork.reportChanges ..).sameClock)
      split
      · exact (OnlyAgendas.broughtBack _ now allRooms).roomWork.sameClock
      · exact .refl _

/-! ### SET_CLOCK -/

theorem ClockOk.putClock (h : ClockOk s) {d : Date} {m : Nat} (term : d.inTerm = true) (minute : m < 1440) :
    ClockOk (s.putClock d m) :=
  h.valid rfl rfl (Nat.lt_succ_of_le (inTerm_iff.mp term).1) (Nat.lt_succ_of_le (inTerm_iff.mp term).2) minute
    (by decide : 0 < 60)

theorem ClockOk.setClock (h : ClockOk s) (d : Date) (m : Nat) : ClockOk (s.setClock d m).1 := by
  unfold State.setClock
  split
  · exact h
  · rename_i fits
    have put : ClockOk (s.putClock d m) := by
      simp only [Bool.or_eq_true, Bool.not_eq_true', decide_eq_true_eq, not_or, Bool.not_eq_false] at fits
      exact h.putClock fits.1 (by omega)
    split
    · exact put.of_same (RoomWork.jump ..).sameClock
    · refine put.of_same (.trans (.retire _ d) (.trans (RoomWork.mapAgendas _ fun _ _ => []).sameClock ?_))
      exact (RoomWork.buildAll ..).sameClock

/-! ### Store operations -/

theorem ClockOk.hostEffect (h : ClockOk s) (now : Instant) (op : HostOp) : ClockOk (s.hostEffect now op).1 := by
  cases op with
  | extend r g step => exact h.of_same (.extendForHost ..)
  | command c =>
    cases c
    case createBooking f => exact h.of_same (.createBooking ..)
    case amendBooking g f => exact h.of_same (.amendBooking ..)
    case cancelBooking g => exact h.of_same (.cancelBooking ..)
    case suspendBooking g => exact h.of_same (.suspendBooking ..)
    case resumeBooking g => exact h.of_same (.resumeBooking ..)
    case setClock w d m => exact h.setClock _ _
    case addClosure w d => exact h.addClosure _ _
    case removeClosure w d => exact h.removeClosure _ _
    case writeRoom r w => exact h.of_same (.writeRoomStored ..)
    case writeWing gap b t => exact h.of_same (.writeWing ..)
    case writePartition g rs => exact h.of_same (.writePartition ..)
    case deletePartition g => exact h.of_same (.deletePartition ..)
    all_goals exact h

theorem ClockOk.opEffect (h : ClockOk s) (run : Running) : ClockOk (s.opEffect run) := by
  unfold State.opEffect; split
  · exact (h.hostEffect _ _).of_same (.completeCommand ..)
  · exact h.of_same (.serveRoom ..)
  · exact h.of_same (.stepEffect ..)

theorem ClockOk.completeOp (h : ClockOk s) : ClockOk s.completeOp := by
  unfold State.completeOp; split
  · exact h
  · rename_i run _
    have released : SameClock (s.opEffect run) (s.opEffect run).releaseStore := ⟨rfl⟩
    exact (h.opEffect run).of_same ((released.trans (RoomWork.applyHeld _).sameClock).finish s)

theorem ClockOk.completeIf (h : ClockOk s) (p : StoreOp → Bool) : ClockOk (s.completeIf p) := by
  unfold State.completeIf; split
  · exact h.completeOp
  · exact h

/-! ### Minutes, days and seconds -/

theorem valid_of_minuteReady (h : s.minuteReady = true) : s.cal.valid = true := by
  simp only [State.minuteReady, Bool.and_eq_true] at h
  exact h.1.1

theorem ClockOk.minuteEvent (h : ClockOk s) : ClockOk s.minuteEvent := by
  have ⟨week, weekday, _⟩ := h
  unfold State.minuteEvent; split
  · rename_i due
    obtain ⟨ready, before⟩ : s.minuteReady = true ∧ s.cal.minute < 1439 := by simpa [State.minuteEventDue] using due
    have moved : ClockOk { s with cal := { s.cal with minute := s.cal.minute + 1, second := 0, minuteDue := false } } :=
      h.valid rfl (valid_of_minuteReady (s := s) ready) week weekday (show s.cal.minute + 1 < 1440 by omega)
        (by decide : 0 < 60)
    exact moved.of_same (((SameClock.offerWork ..).trans (.overrunChecks _)).finish s)
  · exact h

/-- The day after one that is not the term's last lies within the term. -/
theorem nextDay_inTerm {c : Calendar} (week : c.week < 64) (weekday : c.weekday < 7) (last : c.lastDay = false) :
    c.nextDay.week < 64 ∧ c.nextDay.weekday < 7 := by
  have notLast : ¬ (c.week = 63 ∧ c.weekday = 6) := by simpa [Calendar.lastDay] using last
  unfold Calendar.nextDay; split
  · exact ⟨week, show c.weekday + 1 < 7 by omega⟩
  · exact ⟨show c.week + 1 < 64 by omega, (by decide : 0 < 7)⟩

theorem ClockOk.rolloverEvent (h : ClockOk s) : ClockOk s.rolloverEvent := by
  unfold State.rolloverEvent; split
  · rename_i due
    obtain ⟨⟨ready, -⟩, last⟩ : (s.minuteReady = true ∧ 1439 ≤ s.cal.minute) ∧ s.cal.lastDay = false := by
      simpa [State.rolloverDue] using due
    have ended := h.of_same (SameClock.offerWork s (.minute 1440))
    have cal := (RoomWork.offerWork s (.minute 1440)).clock
    refine ClockOk.of_same ?_ ((SameClock.overrunChecks _).finish s)
    generalize s.offerWork (.minute 1440) = t at ended cal
    have ⟨week, weekday, _⟩ := ended
    obtain ⟨valid, closures, -⟩ := nextDay_rest t.cal
    have next := nextDay_inTerm week weekday (by rw [cal]; exact last)
    exact ended.valid closures (valid.trans (by rw [cal]; exact valid_of_minuteReady ready)) next.1 next.2
      (by decide : 0 < 1440) (by decide : 0 < 60)
  · exact h

theorem ClockOk.termEnd (h : ClockOk s) : ClockOk s.termEnd := by
  unfold State.termEnd; split
  · have ended := h.of_same (SameClock.offerWork s (.minute 1440))
    refine ClockOk.of_same ?_ ((SameClock.overrunChecks _).finish s)
    obtain ⟨-, -, -, -, -, list⟩ := ended
    exact ⟨(by decide : 0 < 64), (by decide : 0 < 7), (by decide : 0 < 1440), (by decide : 0 < 60),
      fun _ => ⟨rfl, rfl, rfl, rfl⟩, list⟩
  · exact h

theorem ClockOk.countSecond (h : ClockOk s) : ClockOk s.countSecond := by
  have counted : ClockOk { s with cal := s.countClock } := by
    have ⟨week, weekday, minute, _⟩ := h
    unfold State.countClock; split
    · exact h
    · rename_i counts
      split
      · rename_i second
        refine h.valid rfl ?_ week weekday minute (show s.cal.second + 1 < 60 by omega)
        simp only [Bool.or_eq_true, Bool.not_eq_true', not_or, Bool.not_eq_false] at counts
        exact counts.1
      · exact h
  exact counted

theorem ClockOk.drain (h : ClockOk s) : ClockOk s.drain := by
  have held (t : State) : SameClock t
      (if t.store.running.isNone && !t.cal.work.isEmpty then t.applyHeld.finish t else t) := by
    split
    · exact (RoomWork.applyHeld t).sameClock.finish t
    · exact .refl t
  unfold State.drain; dsimp only
  refine h.minuteEvent.rolloverEvent.termEnd.of_same ?_
  exact (held _).trans ((SameClock.foldl SameClock.drainRoom allRooms _).trans
    ((SameClock.silenceExpiry _).trans (.foldl SameClock.periodEvent _ _)))

theorem ClockOk.second (h : ClockOk s) : ClockOk s.second := h.drain.countSecond

theorem ClockOk.tick (h : ClockOk s) : ClockOk s.tick := by
  have passed : ClockOk (s.cycles 1) := h
  unfold State.tick; dsimp only; split
  · exact ClockOk.second (s := (s.cycles 1).wrapDivider) passed
  · exact passed

theorem ClockOk.secondEvent (h : ClockOk s) : ClockOk s.secondEvent :=
  ClockOk.second (s := (s.cycles (secondCycles - s.divider)).wrapDivider) h

end Moves

/-! ## Every step keeps the clock within its ranges -/

/-- The commands and events that may move the clock: power-on, the completion of a store operation, and the clock's own
events. -/
theorem ClockOk.of_exec {s t : State} (h : ClockOk s) (c : Instr) (hx : exec c s = .next t) : ClockOk t := by
  have next {u : State} (same : exec c s = .next u) (hu : ClockOk u) : ClockOk t := by
    cases same.symm.trans hx; exact hu
  have kept {u : State} (same : exec c s = .next u) (hu : SameClock s u) : ClockOk t := next same (h.of_same hu)
  cases c
  case powerOn => exact next rfl clockOk_reset
  case storeOperationComplete => exact next rfl h.completeOp
  case retirementPass => exact next rfl (h.completeIf _)
  case agendaBuild r => exact next rfl (h.completeIf _)
  case termEndStep => exact next rfl (h.completeIf _)
  case noteServed r => exact next rfl (h.completeIf _)
  case extensionRequestServed r => exact next rfl (h.completeIf _)
  case secondEvent => exact next rfl h.secondEvent
  case minuteEvent => exact next rfl h.minuteEvent
  case rolloverEvent => exact next rfl h.rolloverEvent
  case termEnd => exact next rfl h.termEnd
  case resetLine => exact kept rfl ⟨(follows_warmReset s .resetLine).sameClock.face⟩
  case restart => exact kept rfl ⟨(follows_warmReset s .restart).sameClock.face⟩
  case poll | readResponse | readAttention | ackAttention | readRoomChanges | readBookingChanges => exact kept rfl ⟨rfl⟩
  case malformed => exact kept rfl (.arrive (fun t => (RoomWork.respond ..).sameClock) s)
  case unknownCommand | setAttention | readLoopLog => exact kept rfl (.queued (fun t => ⟨rfl⟩) s _)
  case readResetCause | readRoom | readProfile | readWing | readPartition | readAirGroup | readCalibration | readClock |
      listClosures | readRoomSensors | readAllocation | readRoomAir | readRoomLighting | readWingLighting =>
    exact kept rfl (.queuedRead ..)
  case writePartition | deletePartition | createBooking | amendBooking | cancelBooking | suspendBooking | resumeBooking |
      readBooking | listRoomBookings | readAgenda | findFreeRoom | setClock | addClosure | removeClosure =>
    exact kept rfl (.queuedOperation ..)
  case writeRoom => exact kept rfl (.queuedEither (fun t a => .writeRoomNow) s _)
  case writeProfile => exact kept rfl (.queuedEffect (fun t => .writeProfile ..) s _)
  case writeWing => exact kept rfl (.queuedEither (fun t a => .writeWingNow) s _)
  case writeAirGroup => exact kept rfl (.queued (fun t => .writeAirGroup ..) s _)
  case writeCalibration => exact kept rfl (.queued (fun t => .writeCalibration ..) s _)
  case holdRoom => exact kept rfl (.queuedTouching (fun t => .holdRoomNow ..) s _ _)
  case releaseHold => exact kept rfl (.queuedTouching (fun t => .releaseHoldNow ..) s _ _)
  case endOccurrence => exact h.of_same (.endOccurrence hx)
  case extendOccurrence => exact kept rfl (.queuedEither (fun t a => .extendNow) s _)
  case setOpenRange => exact h.of_same (.setOpenRange hx)
  case readRoomStatus => exact kept rfl (.queued (fun t => .readStatus ..) s _)
  case setCapacity => exact kept rfl (.queued (fun t => .setCapacity ..) s _)
  case requestAllocation => exact kept rfl (.queued (fun t => .requestAllocation ..) s _)
  case sceneWindow => exact kept rfl (.queued (fun t => .sceneWindow ..) s _)
  case sceneWriteStart => exact kept rfl (.queuedEffect (fun t => .whereCounted (.rewound ..)) s _)
  case sceneWriteContinue => exact kept rfl (.queuedEffect (fun t => .whereCounted (.sceneWrite ..)) s _)
  case sceneReadStart | sceneReadContinue => exact kept rfl (.queued (fun t => .whereCounted ⟨rfl⟩) s _)
  case setEconomy => exact kept rfl (.queuedEffect (fun t => .setEconomy ..) s _)
  case setFacade => exact kept rfl (.queuedEffect (fun t => .setFacade ..) s _)
  case readmitStation => exact kept rfl (.queued (fun t => .readmitStation ..) s _)
  case readStation => exact kept rfl (.queued (fun t => .readStation ..) s _)
  case noShowExpiry => exact kept rfl (.noShowExpiry ..)
  case confirmRequest | endNowRequest => exact kept rfl (.requestTaken ..)
  case sensedAbsenceExpiry => exact kept rfl (.absenceEvent ..)
  case quietTimerExpiry => exact kept rfl (.quietEvent ..)
  case settleTimerExpiry => exact kept rfl (.settleEvent ..)
  case holdExpiry => exact kept rfl (.holdEvent ..)
  case hostSilenceExpiry => exact kept rfl (.silenceExpiry s)
  case periodTimerMatch => exact kept rfl (.periodEvent ..)
  case allocationPassComplete => exact kept rfl (.passEvent ..)
  case roundStart => exact kept rfl (.startRound s)
  case stationVisit => exact kept rfl (.visit s)
  case noReply => exact kept rfl (.noReply s)
  case reportReceived => exact kept rfl (.replyReceived ..)
  case blindTravelComplete => exact kept rfl (.travelEvent ..)
  case blindPauseEnd => exact kept rfl (.pauseEvent ..)

/-- Settles O56: a step runs a command or lets a cycle pass, and either keeps every field of the clock in its range. -/
theorem clockKept : Obligations.ClockKept := by
  intro s t h hx
  unfold step at hx
  split at hx
  · rename_i c rest _
    have dequeued : ClockOk { s with pending := rest } := h
    exact dequeued.of_exec c hx
  · cases hx
    exact h.tick

end Sys2Proof.Machine
end

section
/-! PROOFS. The reads of the units' own state, one cycle of the wing-clock input, and the second it completes (R46, R54,
R55, R90, R95, R98, R109, R118, R136, R162, R176, R198). -/
namespace Sys2Proof.Machine

/-! ## Reads of the units' own state -/

/-- Settles O9: each read is answered at once, by the number where it takes one; the status read clears NOTE_LOST in the
room it answers for. -/
theorem unitReads : Obligations.UnitReads := by
  intro s n k h
  refine ⟨?_, ?_, ?_, ?_, ?_, ?_, ?_, ?_⟩ <;> refine congrArg Host.Outcome.next ?_
  case refine_1 =>
    cases hn : asRoom n with
    | none => exact queued_of_slotOpen h (by rw [State.readStatus, hn]; rfl)
    | some r => exact queued_of_slotOpen h (by rw [State.readStatus, hn]; rfl)
  case refine_2 => cases asRoom n <;> exact queuedRead_of_slotOpen h rfl
  case refine_3 =>
    cases asIndex 4 n with
    | none => exact queuedRead_of_slotOpen h rfl
    | some g =>
      dsimp only
      by_cases range : k ≤ 47
      · rw [if_pos range]; exact queuedRead_of_slotOpen (e := .ok) h (if_neg (show ¬ 47 < k by omega))
      · rw [if_neg range]; exact queuedRead_of_slotOpen (e := .range) h (if_pos (show 47 < k by omega))
  case refine_4 => cases asRoom n <;> exact queuedRead_of_slotOpen h rfl
  case refine_5 => cases asRoom n <;> exact queuedRead_of_slotOpen h rfl
  case refine_6 => exact queuedRead_of_slotOpen h rfl
  case refine_7 => exact queuedRead_of_slotOpen h rfl
  case refine_8 => exact queuedRead_of_slotOpen h rfl

/-! ## One cycle -/

theorem room_cycles (s : State) (n : Nat) (r : RoomId) :
    (s.cycles n).room r = { s.room r with blinds := (s.room r).blinds.mapIdx fun _ b => b.cycles n } :=
  room_mapRooms ..

theorem step_of_no_command {s : State} (h : s.pending = []) : step s = .next s.tick := by simp only [step, h]

theorem tick_within_second {s : State} (h : s.divider + 1 < 32768) : s.tick = s.cycles 1 :=
  if_neg (show ¬ 32768 ≤ s.divider + 1 by omega)

/-- A travel timer counts for the move that is being stopped, where there is one, and else for the command. -/
theorem travelling_iff (x : Blind) : x.travelling = true ↔
    (∃ m, x.stopped = some m ∧ m.echoed = true) ∨
      (x.stopped = none ∧ ∃ c, x.cmd = some c ∧ c.echoed = true ∧ c.dir ≠ .stop) := by
  unfold Blind.travelling
  split <;> simp_all

/-- Settles O2: the step is a tick that stays within the second, so it counts one cycle in every room. -/
theorem idleStepCountsOneCycle : Obligations.IdleStepCountsOneCycle := by
  refine ⟨fun s idle within => ⟨s.cycles 1, ?_, rfl, fun r => ⟨?_, fun b => ?_⟩⟩, travelling_iff⟩
  · rw [step_of_no_command idle, tick_within_second within]
  · rw [room_cycles]
  · rw [room_cycles]; exact Table.get_mapIdx ..

/-! ## One second -/

section Second
variable (s : State)

/-- The state at the end of a second: the cycles left of it have passed. -/
def State.secondOver : State := (s.cycles (32768 - s.divider)).wrapDivider

theorem secondEvent_of_drained {s : State} (h : s.secondOver.drain = s.secondOver) :
    s.secondEvent = s.secondOver.countSecond := congrArg State.countSecond h

theorem room_counted (r : RoomId) : (s.secondOver.countSecond.room r) =
    Room.second { s.room r with blinds := (s.room r).blinds.mapIdx fun _ b => b.cycles (32768 - s.divider) } := by
  have counted (t : State) : t.countSecond.room r = (t.room r).second := room_mapRooms ..
  rw [counted]
  exact congrArg Room.second (room_cycles s (32768 - s.divider) r)

variable {s}

theorem countClock_invalid (h : s.cal.valid = false) : s.countClock = s.cal := by simp [State.countClock, h]

theorem countClock_within (h : s.cal.valid = true) (set : s.settingClock = false) (within : s.cal.second < 59) :
    s.countClock = { s.cal with second := s.cal.second + 1 } := by simp [State.countClock, h, set, within]

theorem countClock_past (h : s.cal.valid = true) (set : s.settingClock = false) (past : 59 ≤ s.cal.second) :
    s.countClock = { s.cal with minuteDue := true } := by
  simp [State.countClock, h, set, Nat.not_lt.mpr past]

end Second

/-- Settles O30: with nothing left due the event is one count of every timer, so each clause reads one field of it. -/
theorem secondCounts : Obligations.SecondCounts := by
  intro s u drained
  have counted : exec .secondEvent s = .next u.countSecond :=
    congrArg Host.Outcome.next (secondEvent_of_drained (s := s) drained)
  refine ⟨u.countSecond, counted, rfl, rfl, rfl, countClock_invalid, countClock_within, countClock_past, ?_⟩
  have room (r : RoomId) : u.countSecond.room r = ({ s.room r with blinds := _ } : Room).second := room_counted s r
  refine ⟨fun r => ?_, fun r => ?_, fun r => ?_, fun e => rfl, fun g => ?_, fun r => ?_, fun g => ?_, ?_⟩
  · rw [room]; rfl
  · rw [room]; rfl
  · rw [room]; exact ⟨rfl, rfl⟩
  · exact Table.get_mapIdx ..
  · rw [room]; exact ⟨rfl, rfl, rfl, rfl⟩
  · have air : u.countSecond.airs.get g = (s.airs.get g).second := Table.get_mapIdx ..
    rw [air]; unfold AirGroup.second; split <;> rfl
  · have port : u.countSecond.port = s.port.second := rfl
    rw [port]; unfold Port.second; split <;> rfl

end Sys2Proof.Machine
end

section
/-! PROOFS. MINUTE_EVENT: every agenda evaluated at the new minute, at once or held behind a running operation (R46, R52,
R53, R59). -/
namespace Sys2Proof.Machine

/-! ## Work that is held -/

theorem offerWork_of_running {s : State} (h : s.store.running.isSome = true) (w : CalWork) :
    s.offerWork w = s.postWorkOnce w := if_pos h

theorem mem_postWorkOnce (s : State) (w : CalWork) : w ∈ (s.postWorkOnce w).cal.work := by
  unfold State.postWorkOnce; split
  · rename_i held; exact List.contains_iff_mem.mp held
  · exact List.mem_append_right _ (List.mem_singleton.mpr rfl)

theorem Quiet.postWorkOnce (s : State) (w : CalWork) : Quiet s (s.postWorkOnce w) := by
  unfold State.postWorkOnce; split
  · exact .refl s
  · exact .postWork s w

/-- What the rooms send while they meet their overrun limits stands behind the work that is there. -/
theorem Sends.overrunChecks (s : State) : Sends s s.overrunChecks :=
  .foldl (fun t r => serviceClosed_sends.overrunCheck t r) allRooms s

theorem Sends.keeps_work {s t : State} (h : Sends s t) {w : CalWork} (hw : w ∈ s.cal.work) : w ∈ t.cal.work := by
  obtain ⟨sent, work, -⟩ := h.work
  exact work ▸ List.mem_append_left _ hw

/-! ## The table of R53 -/

section Table
variable (m lead : Nat) (closed : Bool) (e : Entry)

theorem evalState_of_terminal (h : e.state.terminal = true) : evalState m lead closed e = e.state := by
  unfold evalState
  cases st : e.state <;> simp_all [EntryState.terminal]

variable {m}

theorem evalState_past (h : e.curEnd ≤ m) :
    (e.state = .waiting ∨ e.state = .preconditioning → evalState m lead closed e = .skipped) ∧
      (e.state = .started ∨ e.state = .confirmed → evalState m lead closed e = .ended) := by
  constructor <;> rintro (st | st) <;> simp only [evalState, st, if_pos h]

theorem evalState_ahead (h : m < e.curEnd) :
    (e.start ≤ m → closed = false → e.state = .waiting ∨ e.state = .preconditioning →
      evalState m lead closed e = .started) ∧
    (e.start ≤ m → closed = true → e.state = .waiting → evalState m lead closed e = .skipped) ∧
    (m < e.start → closed = false → e.state = .waiting → 0 < lead → e.start ≤ m + lead →
      evalState m lead closed e = .preconditioning) ∧
    (m < e.start → e.state = .waiting → closed = true ∨ lead = 0 ∨ m + lead < e.start →
      evalState m lead closed e = .waiting) ∧
    (m < e.start ∨ closed = true → e.state = .preconditioning → evalState m lead closed e = .preconditioning) ∧
    (e.state = .started ∨ e.state = .confirmed → evalState m lead closed e = e.state) := by
  have going : ¬ e.curEnd ≤ m := by omega
  refine ⟨fun begun opened st => ?_, fun begun shut st => ?_, fun ahead opened st long near => ?_,
    fun ahead st far => ?_, fun waits st => ?_, fun st => ?_⟩
  · obtain st | st := st <;> simp [evalState, st, going, begun, opened]
  · simp [evalState, st, going, begun, shut]
  · simp [evalState, st, going, Nat.not_le.mpr ahead, opened, long, near]
  · obtain shut | none | far := far
    · simp [evalState, st, going, Nat.not_le.mpr ahead, shut]
    · simp [evalState, st, going, Nat.not_le.mpr ahead, none]
    · simp [evalState, st, going, Nat.not_le.mpr ahead, Nat.not_le.mpr far]
  · obtain ahead | shut := waits
    · simp [evalState, st, going, Nat.not_le.mpr ahead]
    · simp [evalState, st, going, shut]
  · obtain st | st := st <;> simp [evalState, st, going]

end Table

/-! ## MINUTE_EVENT -/

/-- The state at the minute that a minute event makes, before anything is evaluated at it. -/
def State.nextMinute (s : State) : State :=
  { s with cal := { s.cal with minute := s.cal.minute + 1, second := 0, minuteDue := false } }

theorem minuteEvent_of_due {s : State} (h : s.minuteEventDue = true) :
    s.minuteEvent = ((s.nextMinute.offerWork (.minute (s.cal.minute + 1))).overrunChecks).finish s := if_pos h

section Offered
variable (u b : State) (m : Nat)

theorem slot_offerMinute : (u.offerWork (.minute m)).port.slot = u.port.slot := by
  cases running : u.store.running with
  | none => rw [offerWork_of_idle running]; exact congrArg Port.slot (SamePort.evalAgendas u m)
  | some run =>
    rw [offerWork_of_running (by rw [running]; rfl)]
    exact congrArg Port.slot (Quiet.postWorkOnce u _).port

theorem settles_offerMinute : Settles u ((u.offerWork (.minute m)).overrunChecks.finish b) :=
  ⟨_, (RoomWork.offerWork ..).trans (.overrunChecks _), .finish ..⟩

/-- The overrun checks and what follows them leave slot and agendas as the offered work left them. -/
theorem offerMinute_kept : ((u.offerWork (.minute m)).overrunChecks.finish b).port.slot = u.port.slot ∧
    ∀ r, (((u.offerWork (.minute m)).overrunChecks.finish b).room r).agenda =
      ((u.offerWork (.minute m)).room r).agenda := by
  have checked := Quiet.overrunChecks (u.offerWork (.minute m))
  have follows := Follows.finish (u.offerWork (.minute m)).overrunChecks b
  exact ⟨follows.slot.trans ((congrArg Port.slot checked.port).trans (slot_offerMinute u m)),
    fun r => (follows.agenda r).trans (checked.agenda r)⟩

variable {u}

theorem untimed_offerMinute (idle : u.store.running = none) (r : RoomId) :
    ((u.offerWork (.minute m)).overrunChecks.finish b).untimed r = (u.room r).agenda.map fun e =>
      { e with state := evalState m (u.profiles.get e.cls).lead (u.closed r) e, timer := none } := by
  have agenda := congrArg (List.map Entry.untimed) ((offerMinute_kept u b m).2 r)
  rw [offerWork_of_idle idle] at agenda ⊢
  exact agenda.trans (untimed_evalAgendas u m r)

theorem held_offerMinute (running : u.store.running.isSome = true) :
    .minute m ∈ ((u.offerWork (.minute m)).overrunChecks.finish b).cal.work ∧
      ∀ r, (((u.offerWork (.minute m)).overrunChecks.finish b).room r).agenda = (u.room r).agenda := by
  have agenda := (offerMinute_kept u b m).2
  rw [offerWork_of_running running] at agenda ⊢
  refine ⟨?_, fun r => (agenda r).trans ((Quiet.postWorkOnce u _).agenda r)⟩
  rw [(Follows.finish ..).cal]
  exact (Sends.overrunChecks _).keeps_work (mem_postWorkOnce u _)

end Offered

/-- Settles O31: between operations the evaluation takes place at once, and behind one it stands in the held work. -/
theorem minuteEvaluated : Obligations.MinuteEvaluated :=
  ⟨fun s due => ⟨_, congrArg Host.Outcome.next (minuteEvent_of_due due), settles_offerMinute ..,
      (offerMinute_kept s.nextMinute s _).1, untimed_offerMinute (u := s.nextMinute) s _,
      held_offerMinute (u := s.nextMinute) s _⟩,
    fun m lead closed e => ⟨evalState_of_terminal m lead closed e, evalState_past lead closed e,
      evalState_ahead lead closed e⟩⟩

end Sys2Proof.Machine
end

section
/-! PROOFS. AGENDA_BUILD: what one build leaves in every agenda, and the end of a run of builds (R61, R62, R65). -/
namespace Sys2Proof.Machine

/-! ## The agendas of the other rooms -/

section Other
variable {r q : RoomId} (other : q ≠ r)
include other

theorem bookings_addEntry_other (s : State) (e : Entry) : (s.addEntry r e).bookings q = s.bookings q := by
  rw [bookings_addEntry, if_neg other]

theorem bookings_placeIn_other (s : State) (m : Nat) (h : Handle) (b : Record) :
    (s.placeIn m r h b).bookings q = s.bookings q := by
  have added := bookings_addEntry_other other s
  unfold State.placeIn; dsimp only
  repeat' split
  · rw [bookings_setTimer]; exact added _
  · rw [State.loadTimer, bookings_setTimer]; exact added _
  · exact added _

theorem bookings_buildEntry_other (s : State) (m : Nat) (h : Handle) (b : Record) :
    (s.buildEntry m r h b).bookings q = s.bookings q := by
  unfold State.buildEntry; split
  · exact bookings_addEntry_other other s _
  · exact bookings_placeIn_other other s m h b

theorem bookings_build_other (s : State) (now : Instant) : (s.build now r).bookings q = s.bookings q := by
  have placed : (s.placedAt now r).bookings q = (s.modifyRoom r fun x => { x with agenda := [] }).bookings q :=
    foldl_keeps (fun t => t.bookings q) (fun t (p : Handle × Record) =>
      bookings_buildEntry_other other t now.minute p.1 p.2) ..
  have emptied : (s.modifyRoom r fun x => { x with agenda := [] }).bookings q = s.bookings q :=
    bookings_of_agenda (by rw [room_modifyRoom_other _ _ other])
  have derived := ((Quiet.derive (s.placedAt now r) r).trans (.clearForBuild _ r)).bookings q
  exact derived.trans (placed.trans emptied)

end Other

/-! ## The end of a run of builds -/

section EndRebuild
variable {s : State}

theorem endRebuild_of_more (h : s.store.steps.any CalStep.isBuild = true) : s.endRebuild = s := if_pos h

/-- The part with the run of builds over, before DAY_ROLLOVER is raised. -/
def State.rebuilt (s : State) : State :=
  { s with cal := { s.cal with rolloverFlag := false }, store := { s.store with rebuild := .none } }

theorem endRebuild_of_last (h : s.store.steps.any CalStep.isBuild = false) :
    s.endRebuild = if s.store.rebuild = .rollover then s.rebuilt.raise .dayRollover else s.rebuilt :=
  if_neg (by rw [h]; exact Bool.false_ne_true)

theorem rooms_endRebuild (s : State) : s.endRebuild.rooms = s.rooms := by
  unfold State.endRebuild; dsimp only
  repeat' split
  all_goals rfl

theorem work_endRebuild (s : State) : s.endRebuild.cal.work = s.cal.work := by
  unfold State.endRebuild; dsimp only
  repeat' split
  all_goals rfl

theorem port_endRebuild (s : State) :
    s.endRebuild.port = s.port ∨ s.endRebuild.port = s.port.raise .dayRollover := by
  unfold State.endRebuild; dsimp only
  repeat' split
  · exact .inl rfl
  · exact .inr rfl
  · exact .inl rfl

theorem flagged_raise {k : Cause} (h : s.flagged k = true) (c : Cause) : (s.raise c).flagged k = true := by
  have kept : s.port.flags.getLsbD k.index = true := h
  simp [State.flagged, State.raise, Port.raise, kept]

theorem flagged_endRebuild {k : Cause} (h : s.flagged k = true) : s.endRebuild.flagged k = true := by
  unfold State.endRebuild; dsimp only
  repeat' split
  · exact h
  · exact flagged_raise (s := s.rebuilt) h .dayRollover
  · exact h

end EndRebuild

/-! ## AGENDA_BUILD -/

theorem Settles.cal {u t : State} (h : Settles u t) : t.cal = { u.cal with work := t.cal.work } := by
  obtain ⟨v, work, follows⟩ := h
  rw [follows.cal]
  exact work.clock

theorem Settles.rebuild {u t : State} (h : Settles u t) : t.store.rebuild = u.store.rebuild := by
  obtain ⟨v, work, follows⟩ := h
  rw [follows.rebuild, work.store]

/-- A room that an operation has put into the room change set is in it when the operation is over. -/
theorem roomChanges_concluded {u : State} {r : RoomId} (confirms : ∀ w ∈ u.cal.work, w.isConfirm = true)
    (h : u.port.roomChanges.get r = true) (b : State) :
    ((u.releaseStore.applyHeld).finish b).port.roomChanges.get r = true := by
  have held : u.releaseStore.applyHeld.port = u.port := (Confirmed.applyHeld (s := u.releaseStore) confirms).port
  exact roomChanges_finish (by rw [held]; exact h) b

theorem build_noted (s : State) (now : Instant) (r : RoomId) :
    (s.build now r).port.roomChanges.get r = true ∧ (s.build now r).flagged .roomsChanged = true :=
  ⟨Table.get_set_self .., getLsbD_raise ..⟩

section Build
variable (s : State) (now : Instant) (r : RoomId)

/-- The part when the effect of a build has taken place. -/
def State.buildDone : State := (s.build now r).endRebuild

theorem bookings_buildDone (q : RoomId) : (s.buildDone now r).bookings q = (s.build now r).bookings q := by
  unfold State.bookings State.room State.buildDone
  rw [rooms_endRebuild]

theorem slot_buildDone : (s.buildDone now r).port.slot = s.port.slot := by
  obtain same | raised := port_endRebuild (s.build now r)
  · rw [State.buildDone, same, slot_build]
  · rw [State.buildDone, raised]; exact slot_build s now r

theorem roomChanges_buildDone : (s.buildDone now r).port.roomChanges.get r = true := by
  obtain same | raised := port_endRebuild (s.build now r)
  · rw [State.buildDone, same]; exact (build_noted s now r).1
  · rw [State.buildDone, raised]; exact (build_noted s now r).1

variable {s now r}

theorem confirms_buildDone (idle : s.cal.work = []) : ∀ w ∈ (s.buildDone now r).cal.work, w.isConfirm = true := by
  rw [State.buildDone, work_endRebuild]
  exact (Sends.build s now r).confirms idle

theorem buildDone_of_more (h : s.store.steps.any CalStep.isBuild = true) : s.buildDone now r = s.build now r :=
  endRebuild_of_more (by rw [(RoomWork.build s now r).store]; exact h)

theorem buildDone_of_last (h : s.store.steps.any CalStep.isBuild = false) : s.buildDone now r =
    if s.store.rebuild = .rollover then (s.build now r).rebuilt.raise .dayRollover else (s.build now r).rebuilt := by
  have store := (RoomWork.build s now r).store
  rw [State.buildDone, endRebuild_of_last (by rw [store]; exact h), store]

theorem slots_buildDone : (s.buildDone now r).store.slots = s.store.slots := by
  rw [State.buildDone, (SlotsKept.endRebuild _).slots, (RoomWork.build s now r).store]

/-- The build that runs is over: its effect, the confirm requests that the room has sent, and what follows. -/
theorem agendaBuild_performing (h : s.performing (.step (.build r)) now) :
    exec (.agendaBuild r) s = .next (((s.buildDone now r).releaseStore.applyHeld).finish s) := by
  have effect : s.opEffect ⟨.step (.build r), now⟩ = s.buildDone now r := rfl
  rw [← effect]
  exact congrArg Host.Outcome.next (completeIf_of_running (p := StoreOp.isBuild r) h.1 (beq_self_eq_true r))

end Build

/-- Settles O26: the entries are those of the build; the change set, the flags and the rebuild are as the effect has left
them. -/
theorem agendaBuilt : Obligations.AgendaBuilt := by
  intro s r now running
  have confirms := confirms_buildDone (now := now) (r := r) running.2
  have done := concluded (.refl (s.buildDone now r)) confirms s
  refine ⟨_, agendaBuild_performing running, fun h => ?_, fun q other => ?_, ?_, ?_, ?_, ?_, fun more => ?_,
    fun last => ?_⟩
  case refine_1 =>
    rw [← exists_booking (p := fun e => e.handle = h) fun _ => Iff.rfl, done.bookings, bookings_buildDone,
      exists_booking (p := fun e => e.handle = h) fun _ => Iff.rfl, exists_entry_build, if_pos rfl]
    simp only [mem_dueAt, exists_and_left]
  case refine_2 =>
    exact keys_of_bookings ((done.bookings q).trans
      ((bookings_buildDone ..).trans (bookings_build_other other s now)))
  case refine_3 => exact roomChanges_concluded confirms (roomChanges_buildDone ..) s
  case refine_4 => exact done.flagged _ (flagged_endRebuild (build_noted s now r).2)
  case refine_5 => exact done.settles.slots.trans slots_buildDone
  case refine_6 => exact done.slot.trans (slot_buildDone ..)
  case refine_7 =>
    have work := RoomWork.build s now r
    rw [buildDone_of_more more] at done ⊢
    refine ⟨?_, ?_⟩
    · rw [done.settles.cal]; show (s.build now r).cal.rolloverFlag = _; rw [work.clock]
    · rw [done.settles.rebuild]; show (s.build now r).store.rebuild = _; rw [work.store]
  case refine_8 =>
    have flag : (s.buildDone now r).cal.rolloverFlag = false ∧ (s.buildDone now r).store.rebuild = .none := by
      rw [buildDone_of_last last]; split <;> exact ⟨rfl, rfl⟩
    refine ⟨?_, ?_, fun rollover => done.flagged _ ?_⟩
    · rw [done.settles.cal]; exact flag.1
    · rw [done.settles.rebuild]; exact flag.2
    · rw [buildDone_of_last last, if_pos rollover]; exact getLsbD_raise ..

end Sys2Proof.Machine
end

section
/-! PROOFS. Requests of the rooms and of the host taken by the calendar: CONFIRM_REQUEST and END_NOW (R52, R57, R58, R71,
R78, R81, R91, R102). -/
namespace Sys2Proof.Machine

/-! ## A request taken -/

/-- The part with a piece of held work taken out. -/
def State.without (s : State) (w : CalWork) : State := { s with cal := { s.cal with work := s.cal.work.erase w } }

theorem requestTaken_of_found {s : State} {p : CalWork → Bool} {w : CalWork} (idle : s.store.running = none)
    (found : s.cal.work.find? p = some w) : s.requestTaken p = ((s.without w).applyWork w).finish s := by
  have some : s.cal.work.any p = true :=
    List.any_eq_true.2 ⟨w, List.mem_of_find?_eq_some found, List.find?_some found⟩
  simp only [State.requestTaken, State.takeWork, idle, some, found]
  rfl

theorem RoomWork.without (s : State) (w : CalWork) : RoomWork s (s.without w) := .withCal s _

/-! ## Entries of a handle moved to a state -/

/-- Every entry of a handle whose state passes a test takes another (R57, R58). -/
def State.moveEntries (s : State) (h : Handle) (p : EntryState → Prop) [DecidablePred p] (st : EntryState) : State :=
  s.mapHandle h fun e => if p e.state then e.toState st else e

theorem untimed_moveEntries (s : State) (h : Handle) (p : EntryState → Prop) [DecidablePred p] (st : EntryState)
    (r : RoomId) : (s.moveEntries h p st).untimed r = (s.room r).agenda.map fun e =>
      { e with state := if e.handle = h ∧ p e.state then st else e.state, timer := none } := by
  rw [State.untimed, State.moveEntries, agenda_mapHandle, List.map_map]
  refine List.map_congr_left fun e _ => ?_
  by_cases own : e.handle = h
  · by_cases moves : p e.state
    · simp [own, moves, Entry.untimed, Entry.toState]
    · simp [own, moves, Entry.untimed]
  · simp [own, Entry.untimed]

/-! ## CONFIRM_REQUEST -/

section Confirm
variable {s : State} {r : RoomId} {h : Handle}

theorem applyConfirm_started (st : stateIn (s.room r).agenda h = some .started) :
    s.applyConfirm r h =
      ((s.moveEntries h (· = .started) .confirmed).reportChanges s none).confirmAnswered r h .confirmed := by
  rw [State.applyConfirm, st]
  rfl

theorem applyConfirm_other (st : stateIn (s.room r).agenda h ≠ some .started) :
    ∃ a, s.applyConfirm r h = s.confirmAnswered r h a := by
  unfold State.applyConfirm
  split
  · rename_i started; exact absurd started st
  · exact ⟨_, rfl⟩
  · exact ⟨_, rfl⟩
  · exact ⟨_, rfl⟩

theorem outConfirm_sendConfirm (clear : (s.room r).ctx.outConfirm = none) :
    ((s.sendConfirm r).room r).ctx.outConfirm = (s.room r).ctx.gov := by
  unfold State.sendConfirm; dsimp only
  split
  · rename_i g _ gov
    rw [gov]
    show ((s.modifyCtx r fun c => { c with outConfirm := some g }).room r).ctx.outConfirm = some g
    simp [State.modifyCtx]
  · rename_i silent
    rw [clear]
    cases gov : (s.room r).ctx.gov with
    | none => rfl
    | some g => exact absurd gov (silent g clear)

/-- A room without an outstanding confirm has none for another handle than its governing one after it may have sent
one. -/
theorem outConfirm_confirmIfStarted (clear : (s.room r).ctx.outConfirm = none) (other : (s.room r).ctx.gov ≠ some h) :
    ((s.confirmIfStarted r).room r).ctx.outConfirm ≠ some h := by
  unfold State.confirmIfStarted
  repeat' split
  · rw [outConfirm_sendConfirm clear]; exact other
  · simp [clear]
  · simp [clear]

theorem outConfirm_raiseNote (c : Context) (k : NoteKind) (g : Handle) :
    (c.raiseNote k g).outConfirm = c.outConfirm := by
  unfold Context.raiseNote; split <;> rfl

/-- The part with a room's outstanding confirm cleared and, where it was confirmed, the CONFIRM note raised (R71). -/
def State.confirmCleared (s : State) (r : RoomId) (h : Handle) (a : ConfirmAnswer) : State :=
  let t := s.modifyCtx r fun c => { c with outConfirm := none }
  if a = .confirmed then t.modifyCtx r fun c => c.raiseNote .confirm h else t

theorem confirmAnswered_eq (s : State) (r : RoomId) (h : Handle) (a : ConfirmAnswer) :
    s.confirmAnswered r h a =
      if ((s.confirmCleared r h a).room r).ctx.service = .inUse ∧ ((s.confirmCleared r h a).room r).ctx.gov ≠ some h
      then (s.confirmCleared r h a).confirmIfStarted r else s.confirmCleared r h a := rfl

theorem outConfirm_confirmCleared (s : State) (r : RoomId) (h : Handle) (a : ConfirmAnswer) :
    ((s.confirmCleared r h a).room r).ctx.outConfirm = none := by
  unfold State.confirmCleared; dsimp only
  split
  · simp [State.modifyCtx, outConfirm_raiseNote]
  · simp [State.modifyCtx]

theorem outConfirm_confirmAnswered (s : State) (r : RoomId) (h : Handle) (a : ConfirmAnswer) :
    ((s.confirmAnswered r h a).room r).ctx.outConfirm ≠ some h := by
  have clear := outConfirm_confirmCleared s r h a
  rw [confirmAnswered_eq]
  split
  · rename_i asks; exact outConfirm_confirmIfStarted clear asks.2
  · rw [clear]; exact nofun

theorem outConfirm_applyConfirm (s : State) (r : RoomId) (h : Handle) :
    ((s.applyConfirm r h).room r).ctx.outConfirm ≠ some h := by
  by_cases st : stateIn (s.room r).agenda h = some .started
  · rw [applyConfirm_started st]; exact outConfirm_confirmAnswered _ _ _ _
  · obtain ⟨a, same⟩ := applyConfirm_other st
    rw [same]; exact outConfirm_confirmAnswered _ _ _ _

theorem untimed_applyConfirm (st : stateIn (s.room r).agenda h = some .started) (q : RoomId) :
    (s.applyConfirm r h).untimed q = (s.room q).agenda.map fun e =>
      { e with state := if e.handle = h ∧ e.state = .started then .confirmed else e.state, timer := none } := by
  rw [applyConfirm_started st]
  have told := (Quiet.reportChanges (s.moveEntries h (· = .started) .confirmed) s none).trans
    (.confirmAnswered _ r h .confirmed)
  exact (told.untimed q).trans (untimed_moveEntries ..)

theorem agenda_applyConfirm (st : stateIn (s.room r).agenda h ≠ some .started) (q : RoomId) :
    ((s.applyConfirm r h).room q).agenda = (s.room q).agenda := by
  obtain ⟨a, same⟩ := applyConfirm_other st
  rw [same]
  exact (Quiet.confirmAnswered ..).agenda q

end Confirm

theorem Follows.untimed {s t : State} (h : Follows s t) (r : RoomId) : t.untimed r = s.untimed r :=
  congrArg (List.map Entry.untimed) (h.agenda r)

/-- Settles O35: the request leaves the held work and is applied; what follows changes neither agendas nor the
outstanding confirm. -/
theorem confirmTaken : Obligations.ConfirmTaken := by
  intro s r h idle found
  have follows := Follows.finish ((s.without (.confirm r h)).applyConfirm r h) s
  have work : RoomWork s ((s.without (.confirm r h)).applyConfirm r h) :=
    (RoomWork.without s (.confirm r h)).trans (.applyConfirm ..)
  refine ⟨_, congrArg Host.Outcome.next (requestTaken_of_found idle found), ⟨_, work, follows⟩, ?_, fun st q => ?_,
    fun st q => ?_, ?_⟩
  · exact follows.slot.trans (congrArg Port.slot (SamePort.applyConfirm (s.without (.confirm r h)) r h))
  · exact (follows.untimed q).trans (untimed_applyConfirm (s := s.without (.confirm r h)) st q)
  · exact (follows.agenda q).trans (agenda_applyConfirm (s := s.without (.confirm r h)) st q)
  · exact (follows.rooms r).outConfirm ▸ outConfirm_applyConfirm _ _ _

end Sys2Proof.Machine
end

section
/-! PROOFS. END_NOW: the press at the panel, the request taken by the calendar, and the host's END_OCCURRENCE (R58, R78,
R81, R91, R102, R202). -/
namespace Sys2Proof.Machine

/-! ## The press -/

section Press
variable {s : State} {r : RoomId}

theorem base_of_effective {v : Service} (h : s.effective r = .service v) (on : v ≠ .unconfigured) : s.base r = v := by
  unfold State.effective at h; dsimp only at h
  repeat' split at h
  all_goals cases h
  · exact absurd rfl on
  · rfl

theorem panelHeard_endNow_iff : s.panelHeard r .endNow = true ↔
    ∃ v, s.effective r = .service v ∧ v ≠ .unconfigured := by
  unfold State.panelHeard
  cases s.effective r with
  | safe => simp
  | hold => simp
  | closed => simp
  | service v => cases v <;> simp

/-- END_NOW has an effect in AWAITING, IN_USE and VACATED (R81). -/
def Service.endable (v : Service) : Prop := v = .awaiting ∨ v = .inUse ∨ v = .vacated

theorem endable_configured {v : Service} (h : v.endable) : v ≠ .unconfigured := by
  rintro rfl
  exact absurd h (by simp [Service.endable])

theorem panelEndNow_asked {h : Handle} (endable : (s.base r).endable) (gov : (s.room (s.govRoom r)).ctx.gov = some h) :
    s.panelEndNow r = s.postWork (.endNow (s.govRoom r) h false) := by
  simp only [State.panelEndNow, gov]
  exact if_pos endable

theorem panelEndNow_refused (h : ¬ (s.base r).endable ∨ (s.room (s.govRoom r)).ctx.gov = none) :
    s.panelEndNow r = s := by
  cases gov : (s.room (s.govRoom r)).ctx.gov with
  | none => simp only [State.panelEndNow, gov]
  | some g =>
    obtain other | none := h
    · simp only [State.panelEndNow, gov]
      exact if_neg other
    · rw [gov] at none; cases none

theorem panelEvent_asked {v : Service} {h : Handle} (effective : s.effective r = .service v) (endable : v.endable)
    (gov : (s.room (s.govRoom r)).ctx.gov = some h) :
    s.panelEvent r .endNow = s.postWork (.endNow (s.govRoom r) h false) := by
  have configured := endable_configured endable
  have heard : s.panelHeard r .endNow = true := panelHeard_endNow_iff.2 ⟨v, effective, configured⟩
  exact (if_pos heard).trans (panelEndNow_asked (by rwa [base_of_effective effective configured]) gov)

theorem panelEvent_refused
    (h : ¬ (s.effective r = .service .awaiting ∨ s.effective r = .service .inUse ∨ s.effective r = .service .vacated) ∨
      (s.room (s.govRoom r)).ctx.gov = none) : s.panelEvent r .endNow = s := by
  by_cases heard : s.panelHeard r .endNow = true
  · refine (if_pos heard).trans (panelEndNow_refused (h.imp_left fun never endable => never ?_))
    obtain ⟨v, effective, configured⟩ := panelHeard_endNow_iff.1 heard
    rw [base_of_effective effective configured] at endable
    rw [effective]
    obtain rfl | rfl | rfl := endable <;> simp
  · exact if_neg heard

end Press

/-! ## The request -/

/-- An entry that an end-now ends (R58). -/
abbrev EntryState.running (st : EntryState) : Prop := st = .started ∨ st = .confirmed

/-- The part when every running entry of a handle has been ended and the rooms are told (R58). -/
def State.endedNow (s : State) (h : Handle) : State :=
  (s.moveEntries h EntryState.running .ended).reportChanges s (some s.cal.minute)

section Request
variable {s : State} {r : RoomId} {h : Handle}

theorem applyEndNow_running
    (st : stateIn (s.room r).agenda h = some .started ∨ stateIn (s.room r).agenda h = some .confirmed) :
    s.applyEndNow r h = (s.endedNow h, true) := by
  obtain st | st := st <;> rw [State.applyEndNow, st] <;> rfl

theorem applyEndNow_other
    (st : ¬ (stateIn (s.room r).agenda h = some .started ∨ stateIn (s.room r).agenda h = some .confirmed)) :
    s.applyEndNow r h = (s, false) := by
  unfold State.applyEndNow
  split
  · rename_i v found
    have idle : ¬ (v = .started ∨ v = .confirmed) := by
      rintro (rfl | rfl)
      · exact st (.inl found)
      · exact st (.inr found)
    exact if_neg idle
  · rfl

theorem untimed_endedNow (s : State) (h : Handle) (q : RoomId) :
    (s.endedNow h).untimed q = (s.room q).agenda.map fun e =>
      { e with state := if e.handle = h ∧ (e.state = .started ∨ e.state = .confirmed) then .ended else e.state,
               timer := none } :=
  ((Quiet.reportChanges (s.moveEntries h EntryState.running .ended) s _).untimed q).trans (untimed_moveEntries ..)

theorem RoomWork.endedNow (s : State) (h : Handle) : RoomWork s (s.endedNow h) :=
  (RoomWork.mapHandle s h _).trans (.reportChanges ..)

theorem SamePort.endedNow (s : State) (h : Handle) : SamePort s (s.endedNow h) :=
  (SamePort.mapHandle s h _).trans (.reportChanges ..)

theorem endNowRequest_of_found (idle : s.store.running = none)
    (found : s.cal.work.find? (CalWork.isEndNowOf r) = some (.endNow r h false)) :
    exec (.endNowRequest r) s = .next ((((s.without (.endNow r h false)).applyEndNow r h).1).finish s) := by
  have applied (t : State) : t.applyWork (.endNow r h false) = (t.applyEndNow r h).1 := rfl
  have taken := requestTaken_of_found idle found
  rw [applied] at taken
  exact congrArg Host.Outcome.next taken

end Request

/-! ## END_OCCURRENCE -/

section Host
variable {s : State} {n : Nat} {r : RoomId} {h : Handle}

theorem endOccurrence_range (open_ : s.slotOpen = true) (hn : asRoom n = none) :
    exec (.endOccurrence n h) s = .next (s.answered (.endOccurrence n h) .range .none) := by
  refine congrArg Host.Outcome.next ((arrive_hostHeard open_ _).trans ?_)
  rw [hn]; rfl

theorem endOccurrence_notEnabled (open_ : s.slotOpen = true) (hn : asRoom n = some r)
    (off : (s.room r).cfg.enabled = false) :
    exec (.endOccurrence n h) s = .next (s.answered (.endOccurrence n h) .notEnabled .none) := by
  refine congrArg Host.Outcome.next ((arrive_hostHeard open_ _).trans ?_)
  rw [hn]; exact if_pos (show (!(s.room r).cfg.enabled) = true by rw [off]; rfl)

theorem endOccurrence_slot (open_ : s.slotOpen = true) (hn : asRoom n = some r)
    (on : (s.room r).cfg.enabled = true) (high : 512 ≤ h.slot) :
    exec (.endOccurrence n h) s = .next (s.answered (.endOccurrence n h) .range .none) := by
  refine congrArg Host.Outcome.next ((arrive_hostHeard open_ _).trans ?_)
  rw [hn]
  exact (if_neg (show ¬ (!(s.room r).cfg.enabled) = true by simp [on])).trans (if_pos high)

theorem endOccurrence_asked (open_ : s.slotOpen = true) (hn : asRoom n = some r)
    (on : (s.room r).cfg.enabled = true) (low : h.slot < 512) :
    exec (.endOccurrence n h) s =
      .next ((s.hostHeard.takeCommand (.endOccurrence n h)).postWork (.endNow r h true)) := by
  refine congrArg Host.Outcome.next ((arrive_hostHeard open_ _).trans ?_)
  rw [hn]
  exact (if_neg (show ¬ (!(s.room r).cfg.enabled) = true by simp [on])).trans (if_neg (Nat.not_le.mpr low))

theorem without_posted {t : State} (none : t.cal.work = []) (w : CalWork) : (t.postWork w).without w = t := by
  obtain ⟨_, _, cal, _⟩ := t
  obtain ⟨_, _, _, _, _, _, _, _, _, work⟩ := cal
  obtain rfl : work = [] := none
  simp [State.postWork, State.without]

/-- Where nothing else is held, the host's request is the one that the calendar takes. -/
theorem endNowRequest_of_posted {t : State} (idle : t.store.running = none) (none : t.cal.work = []) :
    exec (.endNowRequest r) (t.postWork (.endNow r h true)) =
      .next ((t.applyWork (.endNow r h true)).finish (t.postWork (.endNow r h true))) := by
  have found : (t.postWork (.endNow r h true)).cal.work.find? (CalWork.isEndNowOf r) = some (.endNow r h true) := by
    simp [State.postWork, none, CalWork.isEndNowOf]
  have taken := requestTaken_of_found (s := t.postWork (.endNow r h true)) idle found
  rw [without_posted none] at taken
  exact congrArg Host.Outcome.next taken

theorem completeCommand_executing {t : State} {c : Instr} (slot : t.port.slot = .executing c false) (e : Status)
    (x : Result) : t.completeCommand e x = t.respond c false e x := by rw [State.completeCommand, slot]

theorem applyWork_ended
    (st : stateIn (s.room r).agenda h = some .started ∨ stateIn (s.room r).agenda h = some .confirmed) (c : Instr) :
    (s.hostHeard.takeCommand c).applyWork (.endNow r h true) =
      ((s.hostHeard.takeCommand c).endedNow h).respond c false .ok (.ended h s.cal.minute) := by
  simp only [State.applyWork, applyEndNow_running (s := s.hostHeard.takeCommand c) st]
  exact completeCommand_executing (congrArg Port.slot (SamePort.endedNow ..)) _ _

theorem applyWork_notFound
    (st : ¬ (stateIn (s.room r).agenda h = some .started ∨ stateIn (s.room r).agenda h = some .confirmed))
    (c : Instr) :
    (s.hostHeard.takeCommand c).applyWork (.endNow r h true) = s.answered c .notFound .none := by
  simp only [State.applyWork, applyEndNow_other (s := s.hostHeard.takeCommand c) st]
  exact completeCommand_executing (t := s.hostHeard.takeCommand c) rfl _ _

end Host

/-- Settles O36: a press posts the request or does nothing; a request that is taken ends the entries of the handle and
tells the rooms, and the host's is answered as it turns out. -/
theorem endNowTaken : Obligations.EndNowTaken := by
  refine ⟨fun s r => ⟨fun heard h gov => ?press, panelEvent_refused⟩, fun s r h => ⟨fun idle found => ?request,
    fun n open_ => ⟨endOccurrence_range open_, endOccurrence_notEnabled open_, endOccurrence_slot open_,
      fun hn on low idle none => ?host⟩⟩⟩
  case press =>
    obtain effective | effective | effective := heard
    · exact panelEvent_asked effective (.inl rfl) gov
    · exact panelEvent_asked effective (.inr (.inl rfl)) gov
    · exact panelEvent_asked effective (.inr (.inr rfl)) gov
  case request =>
    have follows := Follows.finish ((s.without (.endNow r h false)).applyEndNow r h).1 s
    have work := (RoomWork.without s (.endNow r h false)).trans (.applyEndNow (s.without (.endNow r h false)) r h)
    refine ⟨_, endNowRequest_of_found idle found, ⟨_, work, follows⟩, ?_, fun running q => ?_, fun other q => ?_⟩
    · exact follows.slot.trans (congrArg Port.slot (SamePort.applyEndNow (s.without (.endNow r h false)) r h))
    · rw [applyEndNow_running (s := s.without (.endNow r h false)) running] at follows ⊢
      exact (follows.untimed q).trans (untimed_endedNow ..)
    · rw [applyEndNow_other (s := s.without (.endNow r h false)) other] at follows ⊢
      exact follows.agenda q
  case host =>
    refine ⟨_, _, endOccurrence_asked open_ hn on low,
      endNowRequest_of_posted (t := s.hostHeard.takeCommand (.endOccurrence n h)) idle none, fun running => ?_,
      fun other => ?_⟩
    · rw [applyWork_ended running]
      have follows := Follows.finish (((s.hostHeard.takeCommand (.endOccurrence n h)).endedNow h).respond
        (.endOccurrence n h) false .ok (.ended h s.cal.minute))
        ((s.hostHeard.takeCommand (.endOccurrence n h)).postWork (.endNow r h true))
      refine ⟨follows.answeredWith rfl, fun q => (follows.untimed q).trans (untimed_endedNow ..), _, ?_, follows⟩
      exact (RoomWork.endedNow (s.hostHeard.takeCommand (.endOccurrence n h)) h).respond_both _ false .ok _
    · rw [applyWork_notFound other]
      exact .finish ..

end Sys2Proof.Machine
end

section
/-! PROOFS. ADD_CLOSURE and REMOVE_CLOSURE: their checks, the entries that a new closure skips, and the occurrences that
a removed one brings back (R48, R49, R50). -/
namespace Sys2Proof.Machine

/-- The part with another list of closures. -/
def State.withClosures (s : State) (l : List Date) : State := { s with cal := { s.cal with closures := l } }

theorem isToday_iff (s : State) (d : Date) : s.instant.isToday d = true ↔ s.cal.valid = true ∧ s.today = d := by
  rw [Instant.isToday, Bool.and_eq_true, beq_iff_eq]
  exact and_congr_right fun _ => eq_comm

/-! ## The checks -/

/-- An entry that a closure of today skips (R49). -/
abbrev EntryState.ahead (st : EntryState) : Prop := st = .waiting ∨ st = .preconditioning

/-- Every entry that lies ahead is skipped (R49). -/
def State.skipAhead (s : State) : State :=
  s.mapAgendas fun _ a => a.map fun e => if e.state.ahead then e.toState .skipped else e

/-- Every occurrence that a removed closure brings back is placed in the rooms of a list (R50). -/
def State.bringBack (s : State) (now : Instant) (rooms : List RoomId) : State :=
  rooms.foldl (fun u r => (u.broughtBack now r).foldl (fun u p => u.placeIn now.minute r p.1 p.2) u) s

section Checks
variable {s : State} {now : Instant} {d : Date}

theorem addClosure_offTerm (term : d.inTerm = false) : s.addClosure now d = s.refuse .range :=
  if_pos (by rw [term]; rfl)

theorem addClosure_twice (term : d.inTerm = true) (present : d ∈ s.cal.closures) :
    s.addClosure now d = s.refuse .range := by
  simp [State.addClosure, term, present]

theorem addClosure_full (term : d.inTerm = true) (new : d ∉ s.cal.closures) (full : 24 ≤ s.cal.closures.length) :
    s.addClosure now d = s.refuse .full := by
  simp [State.addClosure, term, new, full]

theorem addClosure_stored (term : d.inTerm = true) (new : d ∉ s.cal.closures) (room : s.cal.closures.length < 24) :
    s.addClosure now d =
      ((if now.isToday d then (s.withClosures (insertDate d s.cal.closures)).skipAhead
        else s.withClosures (insertDate d s.cal.closures)).reportChanges s none, .ok,
        .closureCount (s.cal.closures.length + 1)) := by
  simp only [State.addClosure, term, List.contains_eq_mem, new, Nat.not_le.mpr room, Bool.not_true, decide_false,
    Bool.false_eq_true, if_false, length_insertDate]
  rfl

theorem removeClosure_offTerm (term : d.inTerm = false) : s.removeClosure now d = s.refuse .range :=
  if_pos (by rw [term]; rfl)

theorem removeClosure_absent (term : d.inTerm = true) (absent : d ∉ s.cal.closures) :
    s.removeClosure now d = s.refuse .notFound := by
  simp [State.removeClosure, term, absent]

theorem removeClosure_erased (term : d.inTerm = true) (present : d ∈ s.cal.closures) :
    s.removeClosure now d =
      ((if now.isToday d then (s.withClosures (s.cal.closures.erase d)).bringBack now allRooms
        else s.withClosures (s.cal.closures.erase d)).reportChanges s none, .ok,
        .closureCount (s.cal.closures.erase d).length) := by
  simp only [State.removeClosure, term, List.contains_eq_mem, present, Bool.not_true, decide_true,
    Bool.false_eq_true, if_false]
  rfl

end Checks

/-! ## Entries that lie ahead -/

/-- No entry of any agenda is WAITING or PRECONDITIONING. -/
def State.noneAhead (s : State) : Prop := ∀ r, ∀ e ∈ (s.room r).agenda, ¬ e.state.ahead

theorem noneAhead_of_untimed {s t : State} (same : ∀ r, t.untimed r = s.untimed r) (h : s.noneAhead) :
    t.noneAhead := by
  intro r e he
  have mem : e.untimed ∈ s.untimed r := same r ▸ List.mem_map_of_mem he
  obtain ⟨x, hx, eq⟩ := List.mem_map.1 mem
  have state : x.state = e.state := congrArg (fun y : Entry => y.state) (a₁ := x.untimed) (a₂ := e.untimed) eq
  exact state ▸ h r x hx

theorem Quiet.noneAhead {s t : State} (q : Quiet s t) (h : s.noneAhead) : t.noneAhead :=
  noneAhead_of_untimed q.untimed h

theorem Follows.noneAhead {s t : State} (f : Follows s t) (h : s.noneAhead) : t.noneAhead :=
  noneAhead_of_untimed f.untimed h

theorem noneAhead_skipAhead (s : State) : s.skipAhead.noneAhead := by
  intro r e he
  rw [State.skipAhead, agenda_mapAgendas] at he
  obtain ⟨x, -, rfl⟩ := List.mem_map.1 he
  split
  · simp [Entry.toState, EntryState.ahead]
  · assumption

theorem State.noneAhead.moveEntries {s : State} (clear : s.noneAhead) (h : Handle) (p : EntryState → Prop)
    [DecidablePred p] {st : EntryState} (behind : ¬ st.ahead) : (s.moveEntries h p st).noneAhead := by
  intro r e he
  rw [State.moveEntries, agenda_mapHandle] at he
  obtain ⟨x, hx, rfl⟩ := List.mem_map.1 he
  split
  · split
    · exact behind
    · exact clear r x hx
  · exact clear r x hx

theorem State.noneAhead.applyConfirm {s : State} (clear : s.noneAhead) (r : RoomId) (h : Handle) :
    (s.applyConfirm r h).noneAhead := by
  by_cases st : stateIn (s.room r).agenda h = some .started
  · rw [applyConfirm_started st]
    exact (Quiet.confirmAnswered ..).noneAhead ((Quiet.reportChanges ..).noneAhead (clear.moveEntries _ _ (by simp)))
  · exact noneAhead_of_untimed (fun q => congrArg (List.map Entry.untimed) (agenda_applyConfirm st q)) clear

/-- Confirm requests put no entry ahead again. -/
theorem State.noneAhead.applyHeld {s : State} (clear : s.noneAhead) (confirms : ∀ w ∈ s.cal.work, w.isConfirm = true) :
    s.applyHeld.noneAhead := by
  have run (l : List CalWork) (hl : ∀ w ∈ l, w.isConfirm = true) (t : State) (ht : t.noneAhead) :
      (l.foldl (fun s w => s.applyWork w) t).noneAhead := by
    induction l generalizing t with
    | nil => exact ht
    | cons w l ih =>
      have one : (t.applyWork w).noneAhead := by
        cases w with
        | confirm r h => exact ht.applyConfirm r h
        | _ => exact absurd (hl _ (List.mem_cons_self ..)) Bool.false_ne_true
      exact ih (fun w hw => hl w (List.mem_cons_of_mem _ hw)) _ one
  exact run _ confirms _ clear

/-! ## Occurrences brought back -/

section Back
variable {s : State} {now : Instant} {m : Nat}

theorem mem_bookings_placeIn {r q : RoomId} {h : Handle} {b : Record} {e : Entry} :
    e ∈ (s.placeIn m r h b).bookings q ↔ (q = r ∧ e = newEntry h b) ∨ e ∈ s.bookings q := by
  have added (st : EntryState) : e ∈ (s.addEntry r ((newEntry h b).toState st)).bookings q ↔
      (q = r ∧ e = newEntry h b) ∨ e ∈ s.bookings q := by
    rw [bookings_addEntry]
    split
    · subst_vars; simp [mem_insertEntry]
    · simp_all
  unfold State.placeIn; dsimp only
  repeat' split
  · rw [bookings_setTimer]; exact added _
  · rw [State.loadTimer, bookings_setTimer]; exact added _
  · exact added _

theorem mem_bookings_placed {r q : RoomId} {l : List (Handle × Record)} {e : Entry} :
    e ∈ (l.foldl (fun u p => u.placeIn m r p.1 p.2) s).bookings q ↔
      (q = r ∧ ∃ p ∈ l, e = newEntry p.1 p.2) ∨ e ∈ s.bookings q := by
  induction l generalizing s with
  | nil => simp
  | cons p l ih =>
    rw [List.foldl_cons, ih, mem_bookings_placeIn]
    simp only [List.mem_cons, exists_eq_or_imp, and_or_left, or_assoc, or_left_comm]

/-- The occurrences brought back depend on nothing of an agenda but that of the room. -/
theorem mem_broughtBack {t : State} (only : OnlyAgendas s t) {r : RoomId} {p : Handle × Record} :
    p ∈ t.broughtBack now r ↔ p ∈ s.activeRecords ∧ s.occurs p.2 now.date = true ∧ r ∈ s.claims p.2.target ∧
      ∀ e ∈ (t.room r).agenda, e.handle ≠ p.1 := by
  have records : t.activeRecords = s.activeRecords := by
    rw [State.activeRecords, State.activeRecords, State.records, State.records, only.store]
  have occurs : t.occurs p.2 now.date = s.occurs p.2 now.date := by rw [State.occurs, State.occurs, only.cal]
  have claims : t.claims p.2.target = s.claims p.2.target := by
    unfold State.claims; rw [only.groups]
  rw [State.broughtBack, List.mem_filter, records, occurs, State.targetsRoom, claims]
  simp [entryOf, and_assoc]

/-- What has been placed stays placed. -/
theorem mem_bookings_bringBack (l : List RoomId) {r : RoomId} {e : Entry} (h : e ∈ s.bookings r) :
    e ∈ (s.bringBack now l).bookings r := by
  induction l generalizing s with
  | nil => exact h
  | cons q l ih => exact ih (mem_bookings_placed.2 (.inr h))

/-- A record that occurs and claims a room has an entry there when the room has had its turn. -/
theorem exists_bringBack {t : State} (only : OnlyAgendas s t) {r : RoomId} {p : Handle × Record}
    (active : p ∈ s.activeRecords) (occurs : s.occurs p.2 now.date = true) (claimed : r ∈ s.claims p.2.target)
    (l : List RoomId) (mem : r ∈ l) : ∃ e ∈ (t.bringBack now l).bookings r, e.handle = p.1 := by
  induction l generalizing t with
  | nil => cases mem
  | cons q l ih =>
    by_cases turn : r = q
    · subst turn
      by_cases stands : ∃ e ∈ (t.room r).agenda, e.handle = p.1
      · obtain ⟨e, he, own⟩ := stands
        exact ⟨e.booking, mem_bookings_bringBack (r :: l) (List.mem_map_of_mem he), own⟩
      · have back : p ∈ t.broughtBack now r :=
          (mem_broughtBack only).2 ⟨active, occurs, claimed, fun e he own => stands ⟨e, he, own⟩⟩
        exact ⟨newEntry p.1 p.2, mem_bookings_bringBack l (mem_bookings_placed.2 (.inl ⟨rfl, p, back, rfl⟩)), rfl⟩
    · have placed := OnlyAgendas.foldl (fun u (p : Handle × Record) => .placeIn u now.minute q p.1 p.2)
        (t.broughtBack now q) t
      exact ih (only.trans placed) ((List.mem_cons.1 mem).resolve_left turn)

theorem OnlyAgendas.bringBack (s : State) (now : Instant) (l : List RoomId) : OnlyAgendas s (s.bringBack now l) :=
  .broughtBack s now l

end Back

/-! ## The commands -/

/-- How a command ends that has replaced the list of closures and does not move today's agendas. -/
theorem performed_closures {s : State} {l : List Date} {c : Instr} {op : HostOp} {e : Status} {x : Result}
    (hr : s.ready) (hexec : exec c s = .next ((s.hostHeard.storeCommand c op).takeNext))
    (effect : (s.serving c op).hostEffect s.instant op =
      (((s.withClosures l).serving c op).reportChanges (s.serving c op) none, e, x)) {q : State → Prop}
    (hq : ∀ t, Follows ((s.withClosures l).answered c e x) t → q t) : Performed c s q := by
  refine performed_of_effect (v := s.withClosures l) hr hexec ?_ (running_of_ready hr) (work_of_ready hr)
    (hq _ (.finish ..))
  rw [effect, reportChanges_of_same (s := (s.withClosures l).serving c op) (b := s.serving c op) fun _ => rfl]

/-- What a command leaves may be shown one part at a time: its two steps are what they are. -/
theorem Performed.and {c : Instr} {s : State} {p q : State → Prop} (hp : Performed c s p) (hq : Performed c s q) :
    Performed c s fun t => p t ∧ q t := by
  obtain ⟨m, t, sent, done, ht⟩ := hp
  obtain ⟨m', t', sent', done', ht'⟩ := hq
  obtain rfl : m = m' := Host.Outcome.next.inj (sent.symm.trans sent')
  obtain rfl : t = t' := Host.Outcome.next.inj (done.symm.trans done')
  exact ⟨m, t, sent, done, ht, ht'⟩

theorem Performed.imp {c : Instr} {s : State} {p q : State → Prop} (hp : Performed c s p) (h : ∀ t, p t → q t) :
    Performed c s q := by
  obtain ⟨m, t, sent, done, ht⟩ := hp
  exact ⟨m, t, sent, done, h t ht⟩

/-- A command that skips what lies ahead and tells the rooms leaves no entry ahead. -/
theorem performed_skipped {s v : State} {c : Instr} {op : HostOp} {e : Status} {x : Result} (hr : s.ready)
    (hexec : exec c s = .next ((s.hostHeard.storeCommand c op).takeNext))
    (effect : (s.serving c op).hostEffect s.instant op =
      ((v.serving c op).skipAhead.reportChanges (s.serving c op) none, e, x))
    (idle : v.store.running = none) (work : v.cal.work = []) (rooms : ∀ r, (v.room r).agenda = (s.room r).agenda)
    {q : State → Prop} (hq : ∀ t, Told v (v.serving c op).skipAhead c e x t → t.noneAhead → q t) :
    Performed c s q := by
  have only : OnlyAgendas (v.serving c op) (v.serving c op).skipAhead := .mapAgendas ..
  have told := Quiet.reportChanges (v.serving c op).skipAhead (s.serving c op) none
  have clear := told.noneAhead (noneAhead_skipAhead _)
  have slot : ((v.serving c op).skipAhead.reportChanges (s.serving c op) none).port.slot = .executing c false := by
    rw [told.port, only.port]; rfl
  have confirms := (only.sends.trans (.reportChanges _ (s.serving c op) none)).confirms work
  have skipped : Performed c s State.noneAhead :=
    ⟨s.serving c op, _, hexec.trans (by rw [storeCommand_takeNext hr]),
      congrArg Host.Outcome.next (completeOp_serving effect slot),
      (Follows.finish ..).noneAhead (State.noneAhead.applyHeld
        (s := (((v.serving c op).skipAhead.reportChanges (s.serving c op) none).respond c false e x).releaseStore)
        clear confirms)⟩
  have answered := performed_told hr hexec effect idle work rooms only fun t told => told
  exact (answered.and skipped).imp fun t both => hq t both.1 both.2

section Add
variable {s : State} {w d : Nat}

theorem addClosure_elsewhere (hr : s.ready) (term : w ≤ 63 ∧ d ≤ 6) (new : (⟨w, d⟩ : Date) ∉ s.cal.closures)
    (room : s.cal.closures.length < 24) (past : ¬ (s.cal.valid = true ∧ s.today = ⟨w, d⟩)) {q : State → Prop}
    (hq : ∀ t, Follows ((s.withClosures (insertDate ⟨w, d⟩ s.cal.closures)).answered (.addClosure w d) .ok
      (.closureCount (s.cal.closures.length + 1))) t → q t) : Performed (.addClosure w d) s q := by
  refine performed_closures (l := insertDate ⟨w, d⟩ s.cal.closures) (op := .command (.addClosure w d)) hr
    (exec_storeCommand hr.1 rfl) ?_ hq
  refine (addClosure_stored (s := s.serving ..) (inTerm_iff.2 term) new room).trans ?_
  rw [if_neg (mt (isToday_iff s _).1 past)]
  rfl

theorem bookings_skipAhead (s : State) (r : RoomId) : s.skipAhead.bookings r = s.bookings r :=
  bookings_mapAgendas (f := fun _ e => if e.state.ahead then e.toState .skipped else e)
    (fun _ e => by split <;> rfl) s r

/-- A closure of today skips what lies ahead, and nothing of what the rooms then do puts an entry ahead again. -/
theorem addClosure_today (hr : s.ready) (term : w ≤ 63 ∧ d ≤ 6) (new : (⟨w, d⟩ : Date) ∉ s.cal.closures)
    (room : s.cal.closures.length < 24) (today : s.cal.valid = true ∧ s.today = ⟨w, d⟩) {q : State → Prop}
    (hq : ∀ t, Told (s.withClosures (insertDate ⟨w, d⟩ s.cal.closures))
      ((s.withClosures (insertDate ⟨w, d⟩ s.cal.closures)).serving (.addClosure w d)
        (.command (.addClosure w d))).skipAhead (.addClosure w d) .ok
      (.closureCount (s.cal.closures.length + 1)) t → t.noneAhead → q t) : Performed (.addClosure w d) s q := by
  refine performed_skipped (v := s.withClosures (insertDate ⟨w, d⟩ s.cal.closures)) (op := .command (.addClosure w d))
    hr (exec_storeCommand hr.1 rfl) ?_ (running_of_ready hr) (work_of_ready hr) (fun _ => rfl) hq
  refine (addClosure_stored (s := s.serving ..) (inTerm_iff.2 term) new room).trans ?_
  rw [if_pos ((isToday_iff s _).2 today)]
  rfl

end Add

section Remove
variable {s : State} {w d : Nat}

theorem removeClosure_elsewhere (hr : s.ready) (term : w ≤ 63 ∧ d ≤ 6) (present : (⟨w, d⟩ : Date) ∈ s.cal.closures)
    (past : ¬ (s.cal.valid = true ∧ s.today = ⟨w, d⟩)) {q : State → Prop}
    (hq : ∀ t, Follows ((s.withClosures (s.cal.closures.erase ⟨w, d⟩)).answered (.removeClosure w d) .ok
      (.closureCount (s.cal.closures.erase ⟨w, d⟩).length)) t → q t) : Performed (.removeClosure w d) s q := by
  refine performed_closures (op := .command (.removeClosure w d)) hr (exec_storeCommand hr.1 rfl) ?_ hq
  refine (removeClosure_erased (s := s.serving ..) (inTerm_iff.2 term) present).trans ?_
  rw [if_neg (mt (isToday_iff s _).1 past)]
  rfl

theorem removeClosure_today (hr : s.ready) (term : w ≤ 63 ∧ d ≤ 6) (present : (⟨w, d⟩ : Date) ∈ s.cal.closures)
    (today : s.cal.valid = true ∧ s.today = ⟨w, d⟩) {q : State → Prop}
    (hq : ∀ t, Told (s.withClosures (s.cal.closures.erase ⟨w, d⟩))
      (((s.withClosures (s.cal.closures.erase ⟨w, d⟩)).serving (.removeClosure w d)
        (.command (.removeClosure w d))).bringBack s.instant allRooms) (.removeClosure w d) .ok
      (.closureCount (s.cal.closures.erase ⟨w, d⟩).length) t → q t) : Performed (.removeClosure w d) s q := by
  refine performed_told (v := s.withClosures (s.cal.closures.erase ⟨w, d⟩)) (op := .command (.removeClosure w d)) hr
    (exec_storeCommand hr.1 rfl) ?_ (running_of_ready hr) (work_of_ready hr) (fun _ => rfl) (.bringBack ..) hq
  refine (removeClosure_erased (s := s.serving ..) (inTerm_iff.2 term) present).trans ?_
  rw [if_pos ((isToday_iff s _).2 today)]
  rfl

end Remove

theorem keys_subset_of_bookings {s t : State} {r : RoomId} (h : ∀ e ∈ s.bookings r, e ∈ t.bookings r) :
    ∀ k ∈ s.keys r, k ∈ t.keys r := by
  rw [keys_eq_bookings, keys_eq_bookings]
  exact fun _ hk => List.map_subset _ h hk

theorem Follows.settles {u t : State} (h : Follows u t) : Settles u t := ⟨u, .refl u, h⟩

/-- A record that a removed closure brings back has an entry when the rooms have been told. -/
theorem Told.exists_brought {v t : State} {now : Instant} {c : Instr} {op : HostOp} {e : Status} {x : Result}
    (told : Told v ((v.serving c op).bringBack now allRooms) c e x t) {r : RoomId} {p : Handle × Record}
    (occurs : v.occurs p.2 now.date = true) (active : p ∈ v.activeRecords) (claimed : r ∈ v.claims p.2.target) :
    ∃ e ∈ (t.room r).agenda, e.handle = p.1 := by
  obtain ⟨e, he, own⟩ :=
    exists_bringBack (.refl (v.serving c op)) active occurs claimed allRooms (List.mem_finRange r)
  rw [← told.bookings r] at he
  exact (exists_booking (p := fun e => e.handle = p.1) (fun _ => Iff.rfl) t r).1 ⟨e, he, own⟩

/-- Settles O29: a refused command and one that is not about today change the list at most; today's closure skips what
lies ahead, and its removal places what has no entry. -/
theorem closuresChanged : Obligations.ClosuresChanged := by
  intro s w d hr
  have refused {c : Instr} {e : Status} (store : isStoreCommand c = true)
      (effect : (s.serving c (.command c)).hostEffect s.instant (.command c) = (s.serving c (.command c)).refuse e) :
      Performed c s (Follows (s.answered c e .none)) := performed_refused hr (exec_storeCommand hr.1 store) effect
  refine ⟨fun off => ?_, fun term => ⟨fun present => ?_, fun new full => ?_, fun new room => ?add, fun absent => ?_,
    fun present => ?remove⟩⟩
  · have off : (⟨w, d⟩ : Date).inTerm = false := Bool.eq_false_iff.2 (mt inTerm_iff.1 off)
    exact ⟨refused rfl (addClosure_offTerm off), refused rfl (removeClosure_offTerm off)⟩
  · exact refused rfl (addClosure_twice (s := s.serving ..) (inTerm_iff.2 term) present)
  · exact refused rfl (addClosure_full (s := s.serving ..) (inTerm_iff.2 term) new full)
  · by_cases today : s.cal.valid = true ∧ s.today = ⟨w, d⟩
    · refine addClosure_today hr term new room today fun t told clear => ?_
      refine ⟨told.settles, told.answered, fun r => keys_of_bookings ?_, absurd today, fun _ r e he => ?_⟩
      · exact (told.bookings r).trans (bookings_skipAhead _ r)
      · exact not_or.1 (clear r e he)
    · refine addClosure_elsewhere hr term new room today fun t follows => ?_
      exact ⟨follows.settles, follows.answeredWith rfl,
        fun r => keys_of_bookings (bookings_of_agenda (follows.agenda r)), fun _ => follows,
        fun now => absurd now today⟩
  · exact refused rfl (removeClosure_absent (s := s.serving ..) (inTerm_iff.2 term) absent)
  · by_cases today : s.cal.valid = true ∧ s.today = ⟨w, d⟩
    · refine removeClosure_today hr term present today fun t told => ?_
      refine ⟨told.settles, told.answered, absurd today, fun r => keys_subset_of_bookings fun e he => ?_,
        fun _ r p active occurs claimed => ?_⟩
      · rw [told.bookings]
        exact mem_bookings_bringBack allRooms he
      · exact told.exists_brought (today.2 ▸ occurs) active claimed
    · refine removeClosure_elsewhere hr term present today fun t follows => ?_
      exact ⟨follows.settles, follows.answeredWith rfl, fun _ => follows,
        fun r => keys_subset_of_bookings fun e he => (bookings_of_agenda (follows.agenda r)).symm ▸ he,
        fun now => absurd now today⟩

end Sys2Proof.Machine
end

section
/-! PROOFS. SET_OPEN_RANGE: a room that leaves the range comes to rest, and nothing that another room does while the
range takes effect moves it again (R59, R86, R87). -/
namespace Sys2Proof.Machine

/-! ## A closed room at rest -/

/-- A CLOSED room in SETBACK without a governing entry or a live one (R59, R87). -/
structure State.atRest (s : State) (r : RoomId) : Prop where
  closed : s.closed r = true
  service : (s.room r).ctx.service = .setback
  gov : (s.room r).ctx.gov = none
  entries : ∀ e ∈ (s.room r).agenda, e.state.live = false

theorem live_congr {s t : State} {r : RoomId} (same : t.untimed r = s.untimed r)
    (h : ∀ e ∈ (s.room r).agenda, e.state.live = false) : ∀ e ∈ (t.room r).agenda, e.state.live = false := by
  have timed (u : State) :
      (∀ e ∈ (u.room r).agenda, e.state.live = false) ↔ ∀ e ∈ u.untimed r, e.state.live = false := by
    simp [State.untimed, Entry.untimed]
  rw [timed] at h ⊢
  rwa [same]

section Rest
variable {s t : State} {r q : RoomId}

/-- Work that leaves the room's service state, governing entry and entries' states alone leaves it at rest. -/
theorem State.atRest.kept (h : s.atRest r) (work : RoomWork s t)
    (service : (t.room r).ctx.service = (s.room r).ctx.service) (gov : (t.room r).ctx.gov = (s.room r).ctx.gov)
    (same : t.untimed r = s.untimed r) : t.atRest r :=
  ⟨(closed_congr work r).trans h.closed, service.trans h.service, gov.trans h.gov, live_congr same h.entries⟩

theorem State.atRest.only (h : s.atRest r) (only : OnlyAgendas s t) (same : t.untimed r = s.untimed r) : t.atRest r :=
  h.kept only.roomWork (by rw [only.ctx]) (by rw [only.ctx]) same

/-- A change of a context that moves neither service state nor governing entry leaves every room at rest. -/
theorem State.atRest.modifyCtx (h : s.atRest r) (q : RoomId) {f : Context → Context}
    (kept : ∀ c, (f c).safe = c.safe ∧ (f c).hold = c.hold)
    (same : ∀ c, (f c).service = c.service ∧ (f c).gov = c.gov) :
    (s.modifyCtx q f).atRest r := by
  have ctx : ((s.modifyCtx q f).room r).ctx.service = (s.room r).ctx.service ∧
      ((s.modifyCtx q f).room r).ctx.gov = (s.room r).ctx.gov := by
    rw [State.modifyCtx, room_modifyRoom]
    split
    · subst_vars; exact same _
    · exact ⟨rfl, rfl⟩
  exact h.kept (.modifyCtx s q kept) ctx.1 ctx.2 ((Quiet.modifyCtx s q f).untimed r)

theorem State.atRest.modifyOce (h : s.atRest r) (q : RoomId) {f : Estimator → Estimator}
    (cal : ∀ o, (f o).cal = o.cal) : (s.modifyOce q f).atRest r := by
  have ctx : ((s.modifyOce q f).room r).ctx = (s.room r).ctx := by
    rw [State.modifyOce, room_modifyRoom]; split
    · subst_vars; rfl
    · rfl
  exact h.kept (.modifyOce s q cal) (by rw [ctx]) (by rw [ctx]) ((Quiet.modifyOce s q f).untimed r)

theorem State.atRest.modifyGroup (h : s.atRest r) (g : GroupId) (f : PartGroup → PartGroup) :
    (s.modifyGroup g f).atRest r :=
  h.kept (.modifyGroup s g f) rfl rfl rfl

theorem State.atRest.postWork (h : s.atRest r) (w : CalWork) : (s.postWork w).atRest r :=
  h.kept (.postWork s w) rfl rfl rfl

theorem State.atRest.foldl {α : Type} {f : State → α → State} (step : ∀ s a, s.atRest r → (f s a).atRest r)
    (l : List α) (h : s.atRest r) : (l.foldl f s).atRest r := by
  induction l generalizing s with
  | nil => exact h
  | cons a l ih => exact ih (step s a h)

/-! ### Moves of other rooms -/

theorem State.atRest.moveCtx (h : s.atRest r) (other : r ≠ q) {f : Context → Context}
    (kept : ∀ c, (f c).safe = c.safe ∧ (f c).hold = c.hold) : (s.moveCtx q f).atRest r := by
  have ctx : ((s.moveCtx q f).room r).ctx.service = (s.room r).ctx.service ∧
      ((s.moveCtx q f).room r).ctx.gov = (s.room r).ctx.gov := by
    have same : (s.modifyCtx q f).room r = s.room r := room_modifyRoom_other _ _ other
    rw [State.moveCtx, room_afterMove, same]
    split
    · exact clearFor_service ..
    · exact ⟨rfl, rfl⟩
  exact h.kept (.moveCtx s q kept) ctx.1 ctx.2 ((Quiet.moveCtx s q f).untimed r)

theorem State.atRest.setService (h : s.atRest r) (other : r ≠ q) (v : Service) (g : Option Handle) :
    (s.setService q v g).atRest r := h.moveCtx other fun _ => ⟨rfl, rfl⟩

/-- SETBACK without a governing entry is what a room at rest has. -/
theorem State.atRest.setBack (h : s.atRest r) (q : RoomId) : (s.setService q .setback none).atRest r := by
  obtain ⟨service, gov⟩ := ctx_setService s q r .setback none
  refine h.kept (.setService ..) ?_ ?_ ((Quiet.setService ..).untimed r)
  · rw [service, h.service, ite_self]
  · rw [gov, h.gov, ite_self]

theorem State.atRest.sendConfirm (h : s.atRest r) (q : RoomId) : (s.sendConfirm q).atRest r := by
  unfold State.sendConfirm; dsimp only
  split
  · refine State.atRest.postWork (h.modifyCtx q ?_ ?_) _
    · exact fun _ => ⟨rfl, rfl⟩
    · exact fun _ => ⟨rfl, rfl⟩
  · exact h

theorem State.atRest.confirmIfStarted (h : s.atRest r) (q : RoomId) : (s.confirmIfStarted q).atRest r := by
  unfold State.confirmIfStarted
  split
  · split
    · exact h.sendConfirm q
    · exact h
  · exact h

section Other
variable (h : s.atRest r) (other : r ≠ q)
include h other

theorem State.atRest.precondOr (v : Service) : (s.precondOr q v).atRest r := by
  unfold State.precondOr; split <;> exact h.setService other _ _

theorem State.atRest.enterClass (e : Entry) : (s.enterClass q e).atRest r := by
  unfold State.enterClass
  split
  · exact h.setService other _ _
  · split
    · exact (h.setService other _ _).sendConfirm q
    · exact h.setService other _ _

theorem State.atRest.derive : (s.derive q).atRest r := by
  unfold State.derive
  split
  · exact h.setService other _ _
  · split
    · exact h.setService other _ _
    · split
      · exact h.enterClass other _
      · exact h.precondOr other _

theorem State.atRest.enterOverrun (e : Entry) (m : Option Nat) : (s.enterOverrun q e m).atRest r := by
  unfold State.enterOverrun
  split
  · exact h.precondOr other _
  · exact h.moveCtx other fun _ => ⟨rfl, rfl⟩

theorem State.atRest.reportRest : (s.reportRest q).atRest r := by
  unfold State.reportRest; dsimp only
  split
  · split
    · exact h.setService other _ _
    · exact h
  · exact h

theorem State.atRest.reportInactive (m : Option Nat) (g : Option Entry) : (s.reportInactive q m g).atRest r := by
  unfold State.reportInactive; dsimp only
  split
  · exact h.precondOr other _
  · split
    · split
      · exact h.setService other _ _
      · exact h.precondOr other _
    · split
      · split
        · exact h.enterOverrun other _ _
        · exact h.precondOr other _
      · split
        · exact h.precondOr other _
        · exact h.reportRest other
    · exact h.precondOr other _
    · exact h.reportRest other

theorem State.atRest.report_other (m : Option Nat) : (s.report m q).atRest r := by
  unfold State.report; dsimp only
  split
  · exact h
  · split
    · exact h.setService other _ _
    · split
      · exact h
      · split
        · exact h.setService other _ _
        · split
          · exact h
          · split
            · exact h.enterClass other _
            · split
              · exact h.reportInactive other _ _
              · exact h.reportRest other

theorem State.atRest.presenceMoved_other (a b : Presence) : (s.presenceMoved q a b).atRest r := by
  have move (v : Service) : (s.moveService q v).atRest r := h.moveCtx other fun _ => ⟨rfl, rfl⟩
  unfold State.presenceMoved; dsimp only
  split
  · split
    · exact h.setService other _ _
    · exact h
  · split
    · exact h.setService other _ _
    · exact h
  · split
    · exact (move _).confirmIfStarted q
    · exact h
  · split
    · exact move _
    · exact h
  · split
    · exact (move _).confirmIfStarted q
    · exact h
  · split
    · exact h.precondOr other _
    · exact h
  · exact h
  · exact h

end Other

/-! ### Moves that leave any closed room at rest -/

/-- A report is answered in a CLOSED room by what the room has already (R70). -/
theorem State.atRest.report (h : s.atRest r) (m : Option Nat) (q : RoomId) : (s.report m q).atRest r := by
  by_cases own : r = q
  · subst own
    unfold State.report; dsimp only
    split
    · exact h
    · rw [if_pos h.closed]; exact h.setBack r
  · exact h.report_other own m

theorem State.atRest.reportChanges (h : s.atRest r) (b : State) (m : Option Nat) : (s.reportChanges b m).atRest r :=
  State.atRest.foldl (fun _ q h => h.report m q) _ h

/-- A rise of presence does not move a CLOSED room (R73). -/
theorem State.atRest.presenceMoved (h : s.atRest r) (q : RoomId) (a b : Presence) :
    (s.presenceMoved q a b).atRest r := by
  by_cases own : r = q
  · subst own
    have still : s.presenceMoved r a b = s := by simp [State.presenceMoved, h.service, h.closed]
    rwa [still]
  · exact h.presenceMoved_other own a b

theorem State.atRest.setTimer (h : s.atRest r) (g : Handle) (n : Option NoShow) : (s.setTimer g n).atRest r :=
  h.only (.setTimer ..) (untimed_setTimer ..)

/-! ### Partition groups -/

theorem State.atRest.merge (h : s.atRest r) (g : GroupId) (p : PartGroup) : (s.merge g p).atRest r := by
  unfold State.merge; dsimp only
  refine State.atRest.modifyGroup (State.atRest.foldl (fun _ m h => ?_) _ (State.atRest.foldl (fun _ m h => ?_) _
    (State.atRest.foldl (fun _ (w : RoomId × Presence) h => h.presenceMoved w.1 w.2 _) _ h))) ..
  · refine h.modifyCtx m ?_ ?_
    · exact fun _ => ⟨rfl, rfl⟩
    · exact fun _ => ⟨rfl, rfl⟩
  · refine h.modifyOce m ?_
    exact fun _ => rfl

theorem State.atRest.split (h : s.atRest r) (g : GroupId) (p : PartGroup) (d : GroupState) :
    (s.split g p d).atRest r := by
  unfold State.split; dsimp only
  refine State.atRest.modifyGroup (State.atRest.foldl (fun _ m h => ?_) _ h) ..
  refine State.atRest.modifyCtx (h.modifyOce m ?_) m ?_ ?_
  · exact fun _ => rfl
  · exact fun c => afterSplit_kept ..
  · exact fun c => ⟨afterSplit_service .., afterSplit_gov ..⟩

theorem State.atRest.evaluateGroup (h : s.atRest r) (g : GroupId) : (s.evaluateGroup g).atRest r := by
  unfold State.evaluateGroup; dsimp only
  split
  · exact h
  · split
    · exact h
    · split
      · exact h.merge ..
      · split
        · exact h.split ..
        · exact h.modifyGroup ..

theorem State.atRest.evaluateRoom (h : s.atRest r) (q : RoomId) : (s.evaluateRoom q).atRest r := by
  unfold State.evaluateRoom
  split
  · exact h.evaluateGroup _
  · exact h

/-! ### Entries of other rooms -/

theorem OnlyAgendas.modifyRoom {f : Room → Room} (hf : ∀ x, f x = { x with agenda := (f x).agenda }) (s : State)
    (q : RoomId) : OnlyAgendas s (s.modifyRoom q f) := by
  refine ⟨rfl, fun r => ?_⟩
  rw [room_modifyRoom]
  split
  · subst_vars; exact hf _
  · rfl

/-- A change of another room's entries. -/
theorem State.atRest.entriesOf (h : s.atRest r) (other : r ≠ q) (f : Entry → Entry) :
    (s.modifyRoom q fun x => { x with agenda := x.agenda.map f }).atRest r := by
  refine h.only (.modifyRoom (fun _ => rfl) s q) ?_
  rw [State.untimed, room_modifyRoom_other _ _ other]; rfl

theorem State.atRest.reopenEntry (h : s.atRest r) (other : r ≠ q) (e : Entry) : (s.reopenEntry q e).atRest r := by
  unfold State.reopenEntry; dsimp only
  split
  · exact (h.entriesOf other _).setTimer _ _
  · split
    · exact (h.entriesOf other _).setTimer _ _
    · exact h.entriesOf other _

theorem State.atRest.applyReopened (h : s.atRest r) (other : r ≠ q) : (s.applyReopened q).atRest r := by
  have again (l : List Entry) : ((l.foldl (fun s e => s.reopenEntry q e) s).derive q).atRest r :=
    State.atRest.derive (State.atRest.foldl (fun _ e h => h.reopenEntry other e) l h) other
  exact (again _).kept (.roomChanged ..) rfl rfl rfl

/-! ## A room that leaves the range -/

/-- A room's live entries are skipped (R59). -/
def State.skipLive (s : State) (q : RoomId) : State :=
  s.modifyRoom q fun x => { x with agenda := x.agenda.map fun e => if e.state.live then e.toState .skipped else e }

theorem RoomWork.skipLive (s : State) (q : RoomId) : RoomWork s (s.skipLive q) :=
  (OnlyAgendas.modifyRoom (fun _ => rfl) s q).roomWork

/-- Timers that move to other rooms and the reports leave a room at rest that is so when the entries are skipped. -/
theorem State.atRest.applyClosed (h : (s.skipLive q).atRest r) : (s.applyClosed q).atRest r := by
  unfold State.applyClosed; dsimp only
  exact (State.atRest.foldl (fun _ (p : Handle × Option NoShow) h => h.setTimer p.1 p.2) _ h).reportChanges _ _

/-- A CLOSED room in SETBACK without a governing entry is at rest when its live entries have been skipped. -/
theorem atRest_skipLive (closed : s.closed r = true) (service : (s.room r).ctx.service = .setback)
    (gov : (s.room r).ctx.gov = none) : (s.skipLive r).atRest r := by
  have own : (s.skipLive r).room r = { s.room r with
      agenda := (s.room r).agenda.map fun e => if e.state.live then e.toState .skipped else e } := by
    rw [State.skipLive, room_modifyRoom, if_pos rfl]
  refine ⟨(closed_congr (.skipLive s r) r).trans closed, ?_, ?_, fun e he => ?_⟩
  · rw [own]; exact service
  · rw [own]; exact gov
  · rw [own] at he
    obtain ⟨x, -, rfl⟩ := List.mem_map.1 he
    split
    · rfl
    · exact Bool.eq_false_iff.2 ‹_›

theorem State.atRest.skipLive (h : s.atRest r) (q : RoomId) : (s.skipLive q).atRest r := by
  by_cases own : r = q
  · subst own; exact atRest_skipLive h.closed h.service h.gov
  · exact h.entriesOf own _

/-- The part when a room that leaves the range has taken SETBACK, before the calendar is told (R87). -/
def State.setBackRoom (s : State) (q : RoomId) : State :=
  ((s.evaluateRoom q).setService q .setback none).modifyCtx q Context.clearOutputs

theorem RoomWork.setBackRoom (s : State) (q : RoomId) : RoomWork s (s.setBackRoom q) :=
  ((RoomWork.evaluateRoom s q).trans (.setService ..)).trans (.modifyCtx _ _ fun _ => ⟨rfl, rfl⟩)

theorem closeRoom_of_idle (idle : s.store.running = none) (q : RoomId) :
    s.closeRoom q = (s.setBackRoom q).applyClosed q :=
  offerWork_of_idle (s := s.setBackRoom q) (by rw [(RoomWork.setBackRoom s q).store]; exact idle) (.closed q)

theorem ctx_setBackRoom (s : State) (r : RoomId) :
    ((s.setBackRoom r).room r).ctx.service = .setback ∧ ((s.setBackRoom r).room r).ctx.gov = none := by
  obtain ⟨service, gov⟩ := ctx_setService (s.evaluateRoom r) r r .setback none
  rw [if_pos rfl] at service gov
  have own : ((s.setBackRoom r).room r).ctx =
      (((s.evaluateRoom r).setService r .setback none).room r).ctx.clearOutputs := by
    rw [State.setBackRoom, State.modifyCtx, room_modifyRoom, if_pos rfl]
  rw [own]
  exact ⟨service, gov⟩

theorem atRest_closeRoom (idle : s.store.running = none) (closed : s.closed r = true) : (s.closeRoom r).atRest r := by
  obtain ⟨service, gov⟩ := ctx_setBackRoom s r
  rw [closeRoom_of_idle idle]
  exact (atRest_skipLive ((closed_congr (.setBackRoom s r) r).trans closed) service gov).applyClosed

theorem State.atRest.closeRoom (h : s.atRest r) (idle : s.store.running = none) (q : RoomId) :
    (s.closeRoom q).atRest r := by
  rw [closeRoom_of_idle idle]
  refine State.atRest.applyClosed (State.atRest.skipLive ?_ q)
  refine State.atRest.modifyCtx ((h.evaluateRoom q).setBack q) q ?_ ?_
  · exact fun _ => ⟨rfl, rfl⟩
  · exact fun _ => ⟨rfl, rfl⟩

/-! ## The range takes effect -/

/-- A room whose membership of the range has changed is handled (R86). -/
def State.rangeMoved (s : State) (q : RoomId) : State :=
  if s.inOpenRange q then s.offerWork (.reopened q) else s.closeRoom q

theorem RoomWork.rangeMoved (s : State) (q : RoomId) : RoomWork s (s.rangeMoved q) := by
  unfold State.rangeMoved
  split
  · exact .offerWork ..
  · exact (RoomWork.setBackRoom s q).trans (.offerWork ..)

theorem slot_rangeMoved (idle : s.store.running = none) (q : RoomId) :
    (s.rangeMoved q).port.slot = s.port.slot := by
  unfold State.rangeMoved
  split
  · rw [offerWork_of_idle idle]
    have again (l : List Entry) : SamePort s ((l.foldl (fun s e => s.reopenEntry q e) s).derive q) :=
      (SamePort.foldl (fun s e => .reopenEntry s q e) l s).trans (.derive ..)
    have reopened : (s.applyReopened q).port = s.port.roomChanged q := congrArg (Port.roomChanged · q) (again _)
    have evaluated := (Quiet.evaluateRoom (s.applyReopened q) q).port
    exact (congrArg Port.slot evaluated).trans (by rw [reopened]; rfl)
  · rw [closeRoom_of_idle idle]
    have left : SamePort s (s.setBackRoom q) :=
      ((Quiet.evaluateRoom s q).trans (.setService _ q .setback none)).port
    exact congrArg Port.slot (left.trans (.applyClosed ..))

/-- A room at rest stays so whichever room is handled. -/
theorem State.atRest.rangeMoved (h : s.atRest r) (idle : s.store.running = none) (q : RoomId) :
    (s.rangeMoved q).atRest r := by
  unfold State.rangeMoved
  split
  · rename_i inside
    have other : r ≠ q := by
      rintro rfl
      have closed := h.closed
      rw [State.closed, inside, Bool.not_true, Bool.and_false] at closed
      cases closed
    rw [offerWork_of_idle idle]
    exact (h.applyReopened other).evaluateRoom q
  · exact h.closeRoom idle q

theorem rangeMoved_of_closed (closed : s.closed r = true) : s.rangeMoved r = s.closeRoom r := by
  refine if_neg fun inside => ?_
  rw [State.closed, inside, Bool.not_true, Bool.and_false] at closed
  cases closed

/-- Every CLOSED room among those handled is at rest in the end. -/
theorem atRest_rangeMoved (l : List RoomId) (idle : s.store.running = none) (closed : s.closed r = true)
    (turn : s.atRest r ∨ r ∈ l) : (l.foldl State.rangeMoved s).atRest r := by
  induction l generalizing s with
  | nil => exact turn.resolve_right List.not_mem_nil
  | cons q l ih =>
    have work := RoomWork.rangeMoved s q
    refine ih (by rw [work.store]; exact idle) ((closed_congr work r).trans closed) ?_
    obtain rest | turn := turn
    · exact .inl (rest.rangeMoved idle q)
    · obtain rfl | later := List.mem_cons.1 turn
      · left
        rw [rangeMoved_of_closed closed]
        exact atRest_closeRoom idle closed
      · exact .inr later

theorem slot_rangesMoved (l : List RoomId) (idle : s.store.running = none) :
    (l.foldl State.rangeMoved s).port.slot = s.port.slot := by
  induction l generalizing s with
  | nil => rfl
  | cons q l ih =>
    exact (ih (by rw [(RoomWork.rangeMoved s q).store]; exact idle)).trans (slot_rangeMoved idle q)

end Rest

/-! ## SET_OPEN_RANGE -/

/-- The part with another open range. -/
def State.withRange (s : State) (first last : RoomId) : State := { s with openFirst := first, openLast := last }

/-- The rooms whose membership of the range changes, in ascending order (R86). -/
def State.movedBy (s : State) (first last : RoomId) : List RoomId :=
  allRooms.filter fun r => (s.room r).cfg.enabled && (s.inOpenRange r != (s.withRange first last).inOpenRange r)

/-- The part when the rooms whose membership changes have been handled. -/
def State.rangeTaken (s : State) (first last : RoomId) : State :=
  (s.movedBy first last).foldl State.rangeMoved (s.withRange first last)

section Range
variable {s : State} {first last : RoomId}

theorem RoomWork.rangeTaken (s : State) (first last : RoomId) :
    RoomWork (s.withRange first last) (s.rangeTaken first last) := .foldl RoomWork.rangeMoved ..

theorem applyOpenRange_of_executing {c : Instr} (idle : s.store.running = none)
    (slot : s.port.slot = .executing c false) :
    s.applyOpenRange first last = (s.rangeTaken first last).respond c false .ok .none := by
  have work := RoomWork.rangeTaken s first last
  have done : s.applyOpenRange first last = (s.rangeTaken first last).offerWork .rangeDone := rfl
  rw [done, offerWork_of_idle (by rw [work.store]; exact idle)]
  exact completeCommand_executing ((slot_rangesMoved (s := s.withRange first last) _ idle).trans slot) _ _

theorem atRest_rangeTaken {r : RoomId} (idle : s.store.running = none) (enabled : (s.room r).cfg.enabled = true)
    (inside : s.inOpenRange r = true) (outside : (s.withRange first last).inOpenRange r = false) :
    (s.rangeTaken first last).atRest r := by
  have closed : (s.withRange first last).closed r = true := by
    rw [State.closed, outside, Bool.not_false, Bool.and_true]; exact enabled
  refine atRest_rangeMoved _ idle closed (.inr (List.mem_filter.2 ⟨List.mem_finRange r, ?_⟩))
  rw [enabled, inside, outside]; rfl

theorem inOpenRange_iff (s : State) (r : RoomId) : s.inOpenRange r =
    if s.openFirst ≤ s.openLast then decide (s.openFirst ≤ r ∧ r ≤ s.openLast)
    else decide (s.openFirst ≤ r ∨ r ≤ s.openLast) := by
  rw [State.inOpenRange, Bool.decide_and, Bool.decide_or]

variable {a b : Nat}

theorem setOpenRange_refused (open_ : s.slotOpen = true) (bad : asRoom a = none ∨ asRoom b = none) :
    exec (.setOpenRange a b) s = .next (s.answered (.setOpenRange a b) .range .none) := by
  refine congrArg Host.Outcome.next ((arrive_hostHeard open_ _).trans ?_)
  obtain none | none := bad
  · rw [none]; rfl
  · rw [none]; cases asRoom a <;> rfl

theorem setOpenRange_taken (open_ : s.slotOpen = true) (ha : asRoom a = some first) (hb : asRoom b = some last) :
    exec (.setOpenRange a b) s = .next
      (((s.hostHeard.takeCommand (.setOpenRange a b)).applyOpenRange first last).finish s.hostHeard) := by
  refine congrArg Host.Outcome.next ((arrive_hostHeard open_ _).trans ?_)
  rw [ha, hb]

end Range

/-- Settles O39: the rooms that leave the range come to rest one after another, and what follows keeps them so. -/
theorem openRangeSet : Obligations.OpenRangeSet := by
  intro s a b open_
  refine ⟨setOpenRange_refused open_, fun first last ha hb idle => ?_⟩
  let c := Instr.setOpenRange a b
  let base := s.hostHeard.takeCommand c
  have work := RoomWork.rangeTaken base first last
  have follows := Follows.finish ((base.rangeTaken first last).respond c false .ok .none) s.hostHeard
  have taken := setOpenRange_taken open_ ha hb
  rw [applyOpenRange_of_executing (s := base) (c := c) idle rfl] at taken
  have openFirst := follows.openFirst.trans work.openFirst
  have openLast := follows.openLast.trans work.openLast
  refine ⟨_, taken, openFirst, openLast, follows.answeredWith rfl, ⟨_, work.respond_both c false .ok .none, follows⟩,
    fun r => ?_, fun r enabled inside outside => ?_⟩
  · rw [inOpenRange_iff, openFirst, openLast]; rfl
  · have outside : (base.withRange first last).inOpenRange r = false := by
      rw [inOpenRange_iff, openFirst, openLast] at outside
      rw [inOpenRange_iff]; exact outside
    have rest := atRest_rangeTaken (s := base) idle enabled inside outside
    have kept := follows.rooms r
    exact ⟨kept.service.trans rest.service, kept.gov.trans rest.gov, fun e he => rest.entries e (kept.agenda ▸ he)⟩

end Sys2Proof.Machine
end

section
/-! PROOFS. HOLD_ROOM, RELEASE_HOLD and the end of a hold's time (R89, R90). -/
namespace Sys2Proof.Machine

/-! ## Commands that touch a room's hold -/

section Touching
variable {s u : State} {cmd : Instr} {touched : RoomId → Bool} {act : State → State × Status × Result} {e : Status}
  {x : Result}

theorem queuedTouching_accepted (h : s.slotOpen = true) (ha : act s.hostHeard = (u, e, x)) (he : e.accepted = true) :
    s.queuedTouching cmd touched act = (u.finishWith s.hostHeard touched).respond cmd false e x :=
  queued_of_slotOpen h (by simp [ha, he])

theorem queuedTouching_refused (h : s.slotOpen = true) (ha : act s.hostHeard = (s.hostHeard, e, x))
    (he : e.accepted = false) : s.queuedTouching cmd touched act = s.answered cmd e x :=
  queued_of_slotOpen h (by simp [ha, he])

end Touching

/-! ## The checks of a hold -/

theorem holdOf_refused {f : HoldFields} (h : 15 < f.scene ∨ (clampHold f).band.cool < (clampHold f).band.heat + 10) :
    holdOf f = none := by
  obtain scene | band := h
  · rw [holdOf, show asIndex 16 f.scene = none from dif_neg (by omega)]
  · have unordered : bandOrdered (clampHold f).band = false := by simpa [bandOrdered] using band
    rw [holdOf, unordered]
    cases asIndex 16 f.scene <;> rfl

theorem holdOf_stored {f : HoldFields} {sc : SceneId} (scene : sc.val = f.scene)
    (band : (clampHold f).band.heat + 10 ≤ (clampHold f).band.cool) : holdOf f =
      some { scene := sc, blinds := (clampHold f).blinds, flow := (clampHold f).flow, band := (clampHold f).band,
             expiry := (clampHold f).expiry, remaining := (clampHold f).expiry * 60 } := by
  have named : asIndex 16 f.scene = some sc := by rw [← scene]; exact dif_pos sc.isLt
  rw [holdOf, named]
  exact if_pos (by simpa [bandOrdered] using band)

section Holds
variable {s : State} {n : Nat} {r : RoomId} {f : HoldFields}

/-- A HOLD_ROOM that its checks refuse leaves everything as it was. -/
theorem exec_holdRoom_refused {e : Status} (open_ : s.slotOpen = true)
    (h : s.hostHeard.holdRoomNow n f = s.hostHeard.refuse e) (he : e.accepted = false) :
    exec (.holdRoom n f) s = .next (s.answered (.holdRoom n f) e .none) :=
  congrArg Host.Outcome.next (queuedTouching_refused open_ h he)

theorem exec_releaseHold_refused {e : Status} (open_ : s.slotOpen = true)
    (h : s.hostHeard.releaseHoldNow n = s.hostHeard.refuse e) (he : e.accepted = false) :
    exec (.releaseHold n) s = .next (s.answered (.releaseHold n) e .none) :=
  congrArg Host.Outcome.next (queuedTouching_refused open_ h he)

theorem holdRoomNow_range (hn : asRoom n = none) : s.holdRoomNow n f = s.refuse .range := by rw [State.holdRoomNow, hn]

theorem releaseHoldNow_range (hn : asRoom n = none) : s.releaseHoldNow n = s.refuse .range := by
  rw [State.releaseHoldNow, hn]

theorem holdRoomNow_notEnabled (hn : asRoom n = some r) (off : (s.room r).cfg.enabled = false) :
    s.holdRoomNow n f = s.refuse .notEnabled := by
  simp [State.holdRoomNow, hn, State.holdRoom, off]

theorem releaseHoldNow_notEnabled (hn : asRoom n = some r) (off : (s.room r).cfg.enabled = false) :
    s.releaseHoldNow n = s.refuse .notEnabled := by
  simp [State.releaseHoldNow, hn, State.releaseHold, off]

theorem holdRoomNow_unfit (hn : asRoom n = some r) (on : (s.room r).cfg.enabled = true) (unfit : holdOf f = none) :
    s.holdRoomNow n f = s.refuse .range := by
  simp [State.holdRoomNow, hn, State.holdRoom, on, unfit]

theorem holdRoomNow_stored {h : Hold} (hn : asRoom n = some r) (on : (s.room r).cfg.enabled = true)
    (fit : holdOf f = some h) : s.holdRoomNow n f =
      (s.modifyCtx r fun x => { x with hold := some h }, okStatus (clampHold f ≠ f), .hold r h) := by
  simp [State.holdRoomNow, hn, State.holdRoom, on, fit]

theorem releaseHoldNow_released (hn : asRoom n = some r) (on : (s.room r).cfg.enabled = true) :
    s.releaseHoldNow n = (s.modifyCtx r fun x => { x with hold := none }, .ok, .none) := by
  simp [State.releaseHoldNow, hn, State.releaseHold, on, State.endHold]

theorem becomes_holdRoom {h : Hold} (open_ : s.slotOpen = true) (hn : asRoom n = some r)
    (on : (s.room r).cfg.enabled = true) (fit : holdOf f = some h) :
    Becomes (.holdRoom n f) s ((s.modifyCtx r fun x => { x with hold := some h }).answered (.holdRoom n f)
      (okStatus (clampHold f ≠ f)) (.hold r h)) :=
  becomes_of_exec (congrArg Host.Outcome.next
    (queuedTouching_accepted open_ (holdRoomNow_stored (s := s.hostHeard) hn on fit) (okStatus_accepted _)))
    (.respond (.finishWith ..) ..)

theorem becomes_releaseHold (open_ : s.slotOpen = true) (hn : asRoom n = some r)
    (on : (s.room r).cfg.enabled = true) :
    Becomes (.releaseHold n) s ((s.modifyCtx r fun x => { x with hold := none }).answered (.releaseHold n) .ok .none) :=
  becomes_of_exec (congrArg Host.Outcome.next
    (queuedTouching_accepted open_ (releaseHoldNow_released (s := s.hostHeard) hn on) rfl))
    (.respond (.finishWith ..) ..)

/-- A hold whose time is over ends. -/
theorem becomes_holdExpiry {h : Hold} (held : (s.room r).ctx.hold = some h) (timed : 0 < h.expiry)
    (spent : h.remaining = 0) : Becomes (.holdExpiry r) s (s.modifyCtx r fun x => { x with hold := none }) := by
  have due : s.holdDue r = true := by simp [State.holdDue, held, Hold.over, timed, spent]
  exact becomes_of_exec (congrArg Host.Outcome.next (if_pos due)) (.finishWith ..)

end Holds

/-- Settles O38: the commands by the order of their checks, and the expiry by its being due. -/
theorem holdsTaken : Obligations.HoldsTaken := by
  refine ⟨fun s n f open_ => ⟨fun hn => ?_, fun r hn => ⟨fun off => ?_, fun on => ⟨fun unfit => ?_,
    fun sc scene band => ?_, becomes_releaseHold open_ hn on⟩⟩⟩, fun s r h => becomes_holdExpiry⟩
  · exact ⟨exec_holdRoom_refused open_ (holdRoomNow_range hn) rfl,
      exec_releaseHold_refused open_ (releaseHoldNow_range hn) rfl⟩
  · exact ⟨exec_holdRoom_refused open_ (holdRoomNow_notEnabled (s := s.hostHeard) hn off) rfl,
      exec_releaseHold_refused open_ (releaseHoldNow_notEnabled (s := s.hostHeard) hn off) rfl⟩
  · exact exec_holdRoom_refused open_ (holdRoomNow_unfit (s := s.hostHeard) hn on (holdOf_refused unfit)) rfl
  · exact becomes_holdRoom open_ hn on (holdOf_stored scene band)

end Sys2Proof.Machine
end

section
/-! PROOFS. The end of the host's silence time: what its absence makes of the wing (R90, R138, R157, R159, R182, R198,
R199). -/
namespace Sys2Proof.Machine

/-! ## What the absence leaves -/

section Absent
variable (s : State)

theorem room_hostAbsent (r : RoomId) : s.hostAbsent.room r =
    { s.room r with
      ctx := if s.holdsEndedByAbsence r then { (s.room r).ctx with hold := none } else (s.room r).ctx
      station := (s.room r).station.map Station.setReadmit } := room_mapRooms ..

theorem hold_hostAbsent (r : RoomId) : (s.hostAbsent.room r).ctx.hold = match (s.room r).ctx.hold with
    | some h => if h.expiry = 0 then none else some h
    | none => none := by
  rw [room_hostAbsent, State.holdsEndedByAbsence]
  cases held : (s.room r).ctx.hold with
  | none => simpa using held
  | some h => by_cases endless : h.expiry = 0 <;> simp [endless, held]

theorem facade_hostAbsent (k : FacadeId) : s.hostAbsent.facades.get k = { s.facades.get k with sun := .none } :=
  Table.get_mapIdx ..

theorem AirKept.hostAbsent (g : AirId) :
    AirKept { s.airs.get g with capacity := (s.airs.get g).fallback } (s.hostAbsent.airs.get g) := by
  have fallen : s.hostAbsent.airs.get g = (s.airs.get g).fallBack := Table.get_mapIdx ..
  rw [fallen]
  exact .fire ..

end Absent

/-- What follows an effect clears no attention flag, whichever rooms' holds it touched. -/
theorem flagged_finishWith {s : State} {k : Cause} (h : s.flagged k = true) (b : State) (touched : RoomId → Bool) :
    (s.finishWith b touched).flagged k = true := by
  have same : (s.finishWith b touched).port = (s.finish b).port := (takeNext_port _).trans (finish_port s b).symm
  rw [State.flagged, same]
  exact flagged_finish h b

/-- Settles O40: the absence acts as `State.hostAbsent` says, and nothing that follows undoes it. -/
theorem hostAbsenceActs : Obligations.HostAbsenceActs := by
  intro s present timed silent
  have due : s.port.silenceDue = true := by simp [Port.silenceDue, present, timed, silent]
  have follows := Follows.finishWith s.hostAbsent s s.holdsEndedByAbsence
  have flagged := flagged_finishWith (s := s.hostAbsent) (k := .hostAbsent) (getLsbD_raise ..) s s.holdsEndedByAbsence
  refine ⟨_, congrArg Host.Outcome.next (if_pos due), follows, follows.port.present, flagged, follows.slot,
    follows.slots, follows.cal, follows.economy, follows.cap, fun k => ?_, fun g => ?_, fun r => ?_⟩
  · rw [follows.facades, facade_hostAbsent]
  · have air := (AirKept.hostAbsent s g).trans (follows.airs g)
    exact ⟨air.capacity, air.fallback⟩
  · have kept := follows.rooms r
    have absent := room_hostAbsent s r
    exact ⟨kept.agenda.trans (by rw [absent]), kept.cfg.trans (by rw [absent]), kept.hold.trans (hold_hostAbsent s r),
      kept.station.trans (by rw [absent]; rfl)⟩

end Sys2Proof.Machine
end

section
/-! PROOFS. How a room's service state is derived and moved, and what its moves clear (R68 to R76, R80, R84, R101). -/
namespace Sys2Proof.Machine

/-! ## One move -/

/-- A room has this service state and this governing entry of its own. -/
def State.serves (s : State) (r : RoomId) (v : Service) (g : Option Handle) : Prop :=
  (s.room r).ctx.service = v ∧ (s.room r).ctx.gov = g

section Move
variable (s : State) (r : RoomId)

theorem clearFor_eq (c : Context) (a b : Bool) :
    ∃ t o x, c.clearFor a b = { c with trim := t, overrides := o, extResult := x } := by
  cases a <;> cases b <;> exact ⟨_, _, _, rfl⟩

/-- The clearings of a move touch trim, overrides and extend result of its room, and nothing else there. -/
theorem room_moveCtx (f : Context → Context) : ∃ t o x, (s.moveCtx r f).room r =
    { s.room r with ctx := { f (s.room r).ctx with trim := t, overrides := o, extResult := x } } := by
  have moved : (s.modifyCtx r f).room r = { s.room r with ctx := f (s.room r).ctx } := room_modifyRoom_self ..
  rw [State.moveCtx, room_afterMove, moved]
  split
  · obtain ⟨t, o, x, cleared⟩ := clearFor_eq (f (s.room r).ctx) _ _
    exact ⟨t, o, x, by rw [cleared]⟩
  · exact ⟨_, _, _, rfl⟩

theorem serves_moveCtx (f : Context → Context) :
    (s.moveCtx r f).serves r (f (s.room r).ctx).service (f (s.room r).ctx).gov := by
  obtain ⟨t, o, x, moved⟩ := room_moveCtx s r f
  rw [State.serves, moved]
  exact ⟨rfl, rfl⟩

theorem serves_setService (v : Service) (g : Option Handle) : (s.setService r v g).serves r v g := serves_moveCtx ..

theorem serves_moveService (v : Service) : (s.moveService r v).serves r v (s.room r).ctx.gov := serves_moveCtx ..

theorem outConfirm_setService (v : Service) (g : Option Handle) :
    ((s.setService r v g).room r).ctx.outConfirm = (s.room r).ctx.outConfirm := by
  obtain ⟨t, o, x, moved⟩ := room_moveCtx s r fun c => { c with service := v, gov := g, overrunStart := none }
  rw [State.setService, moved]

theorem outConfirm_moveService (v : Service) :
    ((s.moveService r v).room r).ctx.outConfirm = (s.room r).ctx.outConfirm := by
  obtain ⟨t, o, x, moved⟩ := room_moveCtx s r fun c => { c with service := v }
  rw [State.moveService, moved]

/-- The earliest PRECONDITIONING entry governs where there is one. -/
theorem serves_precondOr (v : Service) :
    (∀ e, firstPrecond (s.room r).agenda = some e → (s.precondOr r v).serves r .precondition (some e.handle)) ∧
      (firstPrecond (s.room r).agenda = none → (s.precondOr r v).serves r v none) := by
  refine ⟨fun e first => ?_, fun none => ?_⟩
  · rw [State.precondOr, first]; exact serves_setService ..
  · rw [State.precondOr, none]; exact serves_setService ..

theorem serves_of_precondOr {s t : State} {r : RoomId} {v : Service} (h : t = s.precondOr r v) :
    match firstPrecond (s.room r).agenda with
    | some e => t.serves r .precondition (some e.handle)
    | none => t.serves r v none := by
  obtain ⟨first, none⟩ := serves_precondOr s r v
  rw [h]
  cases found : firstPrecond (s.room r).agenda with
  | none => exact none found
  | some e => exact first e found

theorem serves_of_setService {s t : State} {r : RoomId} {v : Service} {g : Option Handle} (h : t = s.setService r v g) :
    t.serves r v g := h ▸ serves_setService s r v g

end Move

/-! ## Confirm requests -/

/-- A confirm request of a room for a handle is outstanding and waits at the calendar (R71, assumption 22). -/
def State.asking (s : State) (r : RoomId) (h : Handle) : State :=
  (s.modifyCtx r fun c => { c with outConfirm := some h }).postWork (.confirm r h)

section Sent
variable {s : State} {r : RoomId}

theorem room_asking (h : Handle) :
    (s.asking r h).room r = { s.room r with ctx := { (s.room r).ctx with outConfirm := some h } } := by
  have room : (s.asking r h).room r = (s.modifyCtx r fun c => { c with outConfirm := some h }).room r := rfl
  rw [room, State.modifyCtx, room_modifyRoom_self]

theorem sendConfirm_sent {h : Handle} (clear : (s.room r).ctx.outConfirm = none) (gov : (s.room r).ctx.gov = some h) :
    s.sendConfirm r = s.asking r h := by
  simp only [State.sendConfirm, clear, gov]
  rfl

/-- Sending a confirm request moves neither service state nor governing entry. -/
theorem serves_sendConfirm {v : Service} {g : Option Handle} (h : s.serves r v g) : (s.sendConfirm r).serves r v g := by
  unfold State.sendConfirm; dsimp only
  split
  · rename_i k _ _
    show (s.asking r k).serves r v g
    rw [State.serves, room_asking]
    exact h
  · exact h

theorem serves_confirmIfStarted {v : Service} {g : Option Handle} (h : s.serves r v g) :
    (s.confirmIfStarted r).serves r v g := by
  unfold State.confirmIfStarted
  split
  · split
    · exact serves_sendConfirm h
    · exact h
  · exact h

theorem ownEntry_moveService (v : Service) : (s.moveService r v).ownEntry r = s.ownEntry r := by
  obtain ⟨t, o, x, moved⟩ := room_moveCtx s r fun c => { c with service := v }
  rw [State.ownEntry, State.moveService, moved]
  rfl

/-- A room that enters IN_USE under a STARTED entry asks for its confirm (R71, R73). -/
theorem confirmIfStarted_asked {e : Entry} {h : Handle} (own : s.ownEntry r = some e) (started : e.state = .started)
    (clear : (s.room r).ctx.outConfirm = none) (gov : (s.room r).ctx.gov = some h) :
    s.confirmIfStarted r = s.asking r h := by
  simp only [State.confirmIfStarted, own, started, if_true]
  exact sendConfirm_sent clear gov

end Sent

/-! ## The derivation -/

theorem activeEntry_state {a : List Entry} {e : Entry} (active : activeEntry a = some e) :
    e.state = .started ∨ e.state = .confirmed := by
  simpa using List.find?_some active

section Enter
variable {s : State} {r : RoomId} {e : Entry}

theorem serves_enterClass_confirmed (confirmed : e.state = .confirmed) :
    (s.enterClass r e).serves r (if s.occupied r then .inUse else .vacated) (some e.handle) := by
  rw [State.enterClass, if_pos confirmed]
  exact serves_setService ..

theorem enterClass_started_occupied (started : e.state = .started) (occupied : s.occupied r = true) :
    s.enterClass r e = (s.setService r .inUse (some e.handle)).sendConfirm r := by
  rw [State.enterClass, if_neg (by simp [started]), if_pos occupied]

theorem serves_enterClass_started (started : e.state = .started) :
    (s.enterClass r e).serves r (if s.occupied r then .inUse else .awaiting) (some e.handle) := by
  cases occupied : s.occupied r with
  | true =>
    rw [enterClass_started_occupied started occupied]
    exact serves_sendConfirm (serves_setService ..)
  | false =>
    rw [State.enterClass, if_neg (by simp [started]), occupied]
    exact serves_setService ..

/-- A STARTED entry that comes to govern an occupied room is to be confirmed (R69, R71). -/
theorem enterClass_asks (started : e.state = .started) (occupied : s.occupied r = true)
    (clear : (s.room r).ctx.outConfirm = none) :
    ((s.enterClass r e).room r).ctx.outConfirm = some e.handle ∧
      (s.enterClass r e).cal.work = s.cal.work ++ [.confirm r e.handle] := by
  obtain ⟨-, gov⟩ := serves_setService s r .inUse (some e.handle)
  rw [enterClass_started_occupied started occupied,
    sendConfirm_sent ((outConfirm_setService ..).trans clear) gov]
  exact ⟨by rw [room_asking], rfl⟩

end Enter

section Derive
variable {s : State} {r : RoomId}

theorem derive_disabled (off : (s.room r).cfg.enabled = false) : s.derive r = s.setService r .unconfigured none := by
  simp [State.derive, off]

theorem derive_closed (on : (s.room r).cfg.enabled = true) (closed : s.closed r = true) :
    s.derive r = s.setService r .setback none := by
  simp [State.derive, on, closed]

theorem derive_active {e : Entry} (on : (s.room r).cfg.enabled = true) (opened : s.closed r = false)
    (active : activeEntry (s.room r).agenda = some e) : s.derive r = s.enterClass r e := by
  simp [State.derive, on, opened, active]

theorem derive_inactive (on : (s.room r).cfg.enabled = true) (opened : s.closed r = false)
    (inactive : activeEntry (s.room r).agenda = none) :
    s.derive r = s.precondOr r (if s.occupied r then .adHoc else .setback) := by
  simp [State.derive, on, opened, inactive]

end Derive

end Sys2Proof.Machine
end

section
/-! PROOFS. Agenda reports, presence changes and the overrun limit, line by line (R70, R72, R73, R74). -/
namespace Sys2Proof.Machine

/-! ## The first three lines of a report -/

/-- IN_USE or VACATED: the two states in which a governing entry's class is in use (R70). -/
abbrev State.inClass (s : State) (r : RoomId) : Prop :=
  (s.room r).ctx.service = .inUse ∨ (s.room r).ctx.service = .vacated

/-- R70's line 1: the governing entry is STARTED in a room that is AWAITING, IN_USE or VACATED. -/
def State.line1 (s : State) (r : RoomId) : Prop :=
  ∃ e, s.ownEntry r = some e ∧ e.state = .started ∧ (s.inClass r ∨ (s.room r).ctx.service = .awaiting)

/-- R70's line 2: the governing entry is CONFIRMED in a room that is AWAITING. -/
def State.line2 (s : State) (r : RoomId) : Prop :=
  ∃ e, s.ownEntry r = some e ∧ e.state = .confirmed ∧ (s.room r).ctx.service = .awaiting

/-- R70's line 3: the governing entry is CONFIRMED in a room that is IN_USE or VACATED. -/
def State.line3 (s : State) (r : RoomId) : Prop :=
  ∃ e, s.ownEntry r = some e ∧ e.state = .confirmed ∧ s.inClass r

section Report
variable {s : State} {r : RoomId} {early : Option Nat}

theorem report_disabled (off : (s.room r).cfg.enabled = false) : s.report early r = s := by
  simp [State.report, off]

section Enabled
variable (on : (s.room r).cfg.enabled = true)
include on

theorem report_closed (closed : s.closed r = true) : s.report early r = s.setService r .setback none := by
  simp [State.report, on, closed]

section Opened
variable (opened : s.closed r = false)
include opened

theorem report_line1 (line : s.line1 r) : s.report early r = s := by
  obtain ⟨e, own, started, svc⟩ := line
  simp [State.report, on, opened, own, started, or_assoc.1 svc]

theorem report_line2 (line : s.line2 r) :
    s.report early r = s.setService r (if s.occupied r then .inUse else .vacated) (s.room r).ctx.gov := by
  obtain ⟨e, own, confirmed, awaiting⟩ := line
  simp [State.report, on, opened, own, confirmed, awaiting]

theorem report_line3 (line : s.line3 r) : s.report early r = s := by
  obtain ⟨e, own, confirmed, svc⟩ := line
  have moving : (s.room r).ctx.service ≠ .awaiting := by obtain svc | svc := svc <;> simp [svc]
  have inClass : (s.room r).ctx.service = .inUse ∨ (s.room r).ctx.service = .vacated := svc
  simp [State.report, on, opened, own, confirmed, moving, inClass]

section Beyond
variable (not1 : ¬ s.line1 r) (not2 : ¬ s.line2 r) (not3 : ¬ s.line3 r)
include not1 not2 not3

/-- Where none of the first three lines applies, an entry STARTED or CONFIRMED governs (R70 line 4), and otherwise the
lines for a governing entry are passed to, or where there is none the last two. -/
theorem report_beyond : s.report early r =
    (activeEntry (s.room r).agenda).elim
      (if (s.room r).ctx.gov.isSome then s.reportInactive r early (s.ownEntry r) else s.reportRest r)
      (s.enterClass r) := by
  have first : ¬ ((s.ownEntry r).map (·.state) = some .started ∧ ((s.room r).ctx.service = .inUse ∨
      (s.room r).ctx.service = .vacated ∨ (s.room r).ctx.service = .awaiting)) := fun ⟨own, svc⟩ => by
    obtain ⟨e, own, started⟩ := Option.map_eq_some_iff.1 own
    exact not1 ⟨e, own, started, or_assoc.2 svc⟩
  have second : ¬ ((s.ownEntry r).map (·.state) = some .confirmed ∧ (s.room r).ctx.service = .awaiting) :=
    fun ⟨own, svc⟩ => by
      obtain ⟨e, own, confirmed⟩ := Option.map_eq_some_iff.1 own
      exact not2 ⟨e, own, confirmed, svc⟩
  have third : ¬ ((s.ownEntry r).map (·.state) = some .confirmed ∧
      ((s.room r).ctx.service = .inUse ∨ (s.room r).ctx.service = .vacated)) := fun ⟨own, svc⟩ => by
    obtain ⟨e, own, confirmed⟩ := Option.map_eq_some_iff.1 own
    exact not3 ⟨e, own, confirmed, svc⟩
  unfold State.report; dsimp only
  rw [on, opened, if_neg (by simp), if_neg (by simp), if_neg first, if_neg second, if_neg third]
  cases activeEntry (s.room r).agenda <;> rfl

theorem report_active {e : Entry} (active : activeEntry (s.room r).agenda = some e) :
    s.report early r = s.enterClass r e := by
  rw [report_beyond on opened not1 not2 not3, active]; rfl

theorem report_governed (inactive : activeEntry (s.room r).agenda = none) (gov : (s.room r).ctx.gov.isSome = true) :
    s.report early r = s.reportInactive r early (s.ownEntry r) := by
  rw [report_beyond on opened not1 not2 not3, inactive, gov]; rfl

theorem report_ungoverned (inactive : activeEntry (s.room r).agenda = none) (gov : (s.room r).ctx.gov = none) :
    s.report early r = s.reportRest r := by
  rw [report_beyond on opened not1 not2 not3, inactive, gov]; rfl

end Beyond
end Opened
end Enabled
end Report

/-! ## The other lines of a report -/

theorem gov_isSome_of_ownEntry {s : State} {r : RoomId} {e : Entry} (own : s.ownEntry r = some e) :
    (s.room r).ctx.gov.isSome = true := by
  obtain ⟨h, gov, -⟩ := Option.bind_eq_some_iff.1 own
  rw [gov]; rfl

section Inactive
variable {s : State} {r : RoomId} {early : Option Nat} {e : Entry}

theorem reportInactive_gone :
    s.reportInactive r early none = s.precondOr r (if s.occupied r then .adHoc else .setback) := rfl

theorem reportInactive_skipped (skipped : e.state = .skipped) :
    s.reportInactive r early (some e) = s.precondOr r (if s.occupied r then .adHoc else .setback) := by
  simp only [State.reportInactive, skipped]

theorem reportInactive_released (released : e.state = .released) : s.reportInactive r early (some e) =
    if s.occupied r then s.setService r .adHoc none else s.precondOr r .setback := by
  simp only [State.reportInactive, released]

theorem reportInactive_ended_inClass (ended : e.state = .ended) (inClass : s.inClass r) :
    s.reportInactive r early (some e) =
      if s.occupied r then s.enterOverrun r e early else s.precondOr r .setback := by
  simp only [State.reportInactive, ended]
  exact if_pos inClass

theorem reportInactive_ended_awaiting (ended : e.state = .ended) (awaiting : (s.room r).ctx.service = .awaiting) :
    s.reportInactive r early (some e) = s.precondOr r .setback := by
  simp [State.reportInactive, ended, awaiting]

/-- A governing entry that lies ahead again, or has ended in none of the states that it governs, leaves the last two
lines (assumption 13). -/
theorem reportInactive_rest (h : e.state = .waiting ∨ e.state = .preconditioning ∨
    (e.state = .ended ∧ ¬ s.inClass r ∧ (s.room r).ctx.service ≠ .awaiting)) :
    s.reportInactive r early (some e) = s.reportRest r := by
  obtain waiting | precond | ⟨ended, idle, moving⟩ := h
  · simp only [State.reportInactive, waiting]
  · simp only [State.reportInactive, precond]
  · simp only [State.reportInactive, ended]
    rw [if_neg idle, if_neg moving]

/-- An entry that is left with its room occupied runs over from its end (R74, assumption 46). -/
theorem enterOverrun_limited (limit : (s.profiles.get e.cls).overrunLimit ≠ 0) :
    (s.enterOverrun r e early).serves r .overrun (some e.handle) ∧
      ((s.enterOverrun r e early).room r).ctx.overrunStart = some (early.getD e.curEnd) := by
  let f (c : Context) : Context :=
    { c with service := .overrun, gov := some e.handle, overrunStart := some (early.getD e.curEnd) }
  have entered : s.enterOverrun r e early = s.moveCtx r f := if_neg limit
  obtain ⟨t, o, x, moved⟩ := room_moveCtx s r f
  rw [entered]
  exact ⟨serves_moveCtx .., by rw [moved]⟩

theorem enterOverrun_unlimited (limit : (s.profiles.get e.cls).overrunLimit = 0) :
    s.enterOverrun r e early = s.precondOr r .adHoc := if_pos limit

/-- Whether a room is in one of the states that an entry about to start takes over (R70 line 9). -/
abbrev State.preconditionable (s : State) (r : RoomId) : Prop :=
  (s.room r).ctx.service = .setback ∨ (s.room r).ctx.service = .adHoc ∨ (s.room r).ctx.service = .precondition

theorem reportRest_taken (first : firstPrecond (s.room r).agenda = some e) (free : s.preconditionable r) :
    (s.reportRest r).serves r .precondition (some e.handle) := by
  have taken : s.reportRest r = s.setService r .precondition (some e.handle) := by
    simp only [State.reportRest, first]
    exact if_pos free
  rw [taken]
  exact serves_setService ..

theorem reportRest_kept (h : firstPrecond (s.room r).agenda = none ∨ ¬ s.preconditionable r) : s.reportRest r = s := by
  unfold State.reportRest; dsimp only
  split
  · rename_i e first
    exact if_neg (h.resolve_left (by simp [first]))
  · rfl

/-- R70's last two lines. -/
theorem reportRest_lines {t : State} (h : t = s.reportRest r) :
    (∀ e, firstPrecond (s.room r).agenda = some e → s.preconditionable r → t.serves r .precondition (some e.handle)) ∧
      (firstPrecond (s.room r).agenda = none ∨ ¬ s.preconditionable r → t = s) := by
  rw [h]
  exact ⟨fun e => reportRest_taken, reportRest_kept⟩

end Inactive

/-! ## Presence -/

section Presence
variable {s : State} {r : RoomId} {was now : Presence}

/-- Presence becomes confirmed (R73). -/
abbrev Presence.rose (was now : Presence) : Prop := was.confirmed = false ∧ now.confirmed = true

/-- Presence becomes EMPTY (R73). -/
abbrev Presence.emptied (was now : Presence) : Prop := was ≠ .empty ∧ now = .empty

theorem presenceMoved_walkIn (svc : (s.room r).ctx.service = .setback) (rose : was.rose now)
    (opened : s.closed r = false) (quiet : ∀ e ∈ (s.room r).agenda, e.state.live = false) :
    s.presenceMoved r was now = s.setService r .adHoc none := by
  have none : (s.room r).agenda.any (·.state.live) = false := List.any_eq_false.2 fun e he => by simp [quiet e he]
  simp only [State.presenceMoved, svc, rose.1, rose.2, opened, none]
  rfl

theorem presenceMoved_adHoc (svc : (s.room r).ctx.service = .adHoc) (emptied : was.emptied now) :
    s.presenceMoved r was now = s.setService r .setback none := by
  simp [State.presenceMoved, svc, emptied.1, emptied.2]

theorem presenceMoved_inUse (svc : (s.room r).ctx.service = .inUse) (emptied : was.emptied now) :
    s.presenceMoved r was now = s.moveService r .vacated := by
  simp [State.presenceMoved, svc, emptied.1, emptied.2]

theorem presenceMoved_entered (svc : (s.room r).ctx.service = .awaiting ∨ (s.room r).ctx.service = .vacated)
    (rose : was.rose now) : s.presenceMoved r was now = (s.moveService r .inUse).confirmIfStarted r := by
  obtain svc | svc := svc <;> simp [State.presenceMoved, svc, rose.1, rose.2]

/-- A room that presence makes IN_USE keeps its governing entry, and asks for its confirm where it is STARTED (R73). -/
theorem serves_presenceMoved_entered
    (svc : (s.room r).ctx.service = .awaiting ∨ (s.room r).ctx.service = .vacated) (rose : was.rose now) :
    (s.presenceMoved r was now).serves r .inUse (s.room r).ctx.gov ∧
      ((∃ e, s.ownEntry r = some e ∧ e.state = .started ∧ (s.room r).ctx.outConfirm = none) →
        ((s.presenceMoved r was now).room r).ctx.outConfirm = (s.room r).ctx.gov ∧
          ∀ h, (s.room r).ctx.gov = some h →
            (s.presenceMoved r was now).cal.work = s.cal.work ++ [.confirm r h]) := by
  have moved := serves_moveService s r .inUse
  rw [presenceMoved_entered svc rose]
  refine ⟨serves_confirmIfStarted moved, fun ⟨e, own, started, clear⟩ => ?_⟩
  obtain ⟨h, gov, -⟩ := Option.bind_eq_some_iff.1 own
  have asked : (s.moveService r .inUse).confirmIfStarted r = (s.moveService r .inUse).asking r h :=
    confirmIfStarted_asked ((ownEntry_moveService _).trans own) started ((outConfirm_moveService ..).trans clear)
      (moved.2.trans gov)
  rw [asked, room_asking, gov]
  refine ⟨rfl, fun k same => ?_⟩
  cases same
  rfl

theorem presenceMoved_overrun (svc : (s.room r).ctx.service = .overrun) (emptied : was.emptied now) :
    s.presenceMoved r was now = s.precondOr r .setback := by
  simp [State.presenceMoved, svc, emptied.1, emptied.2]

/-- Every other change of presence leaves the service machine alone. -/
theorem presenceMoved_still
    (outside : ¬ ((s.room r).ctx.service = .setback ∧ was.rose now ∧
      s.closed r = false ∧ ∀ e ∈ (s.room r).agenda, e.state.live = false))
    (present : ¬ (((s.room r).ctx.service = .adHoc ∨ (s.room r).ctx.service = .inUse ∨
      (s.room r).ctx.service = .overrun) ∧ was.emptied now))
    (absent : ¬ (((s.room r).ctx.service = .awaiting ∨ (s.room r).ctx.service = .vacated) ∧ was.rose now)) :
    s.presenceMoved r was now = s := by
  unfold State.presenceMoved; dsimp only
  split
  · rename_i svc; exact if_neg fun moves => outside ⟨svc, by simpa [and_assoc] using moves⟩
  · rename_i svc; exact if_neg fun moves => present ⟨.inl svc, by simpa using moves⟩
  · rename_i svc; exact if_neg fun moves => absent ⟨.inl svc, by simpa using moves⟩
  · rename_i svc; exact if_neg fun moves => present ⟨.inr (.inl svc), by simpa using moves⟩
  · rename_i svc; exact if_neg fun moves => absent ⟨.inr svc, by simpa using moves⟩
  · rename_i svc; exact if_neg fun moves => present ⟨.inr (.inr svc), by simpa using moves⟩
  · rfl
  · rfl

end Presence

/-! ## The overrun limit -/

section Overrun
variable {s : State} {r : RoomId} {start : Nat}

theorem overrunCheck_elsewhere (svc : (s.room r).ctx.service ≠ .overrun) : s.overrunCheck r = s := by
  unfold State.overrunCheck; dsimp only
  split
  · rename_i overrun _; exact absurd overrun svc
  · rfl

theorem overrunCheck_running (svc : (s.room r).ctx.service = .overrun)
    (since : (s.room r).ctx.overrunStart = some start) :
    s.overrunCheck r =
      if (s.ownProfile r).overrunLimit ≤ overrunElapsed start s.cal.minute then s.precondOr r .adHoc else s := by
  simp only [State.overrunCheck, svc, since]
  rfl

end Overrun

end Sys2Proof.Machine
end

section
/-! PROOFS. What the moves of a room's service state clear, in the room and in its MERGED group, and how the service
state is derived and moved (R68 to R76, R80, R84, R101). -/
namespace Sys2Proof.Machine

/-! ## What a room acts by -/

section Congr
variable {s t : State} (groups : t.groups = s.groups)
include groups

theorem groupOf_congr (r : RoomId) : t.groupOf r = s.groupOf r := by rw [State.groupOf, State.groupOf, groups]

theorem mergedOf_congr (r : RoomId) : t.mergedOf r = s.mergedOf r := by
  rw [State.mergedOf, State.mergedOf, groupOf_congr groups]

variable (service : ∀ q, (t.room q).ctx.service = (s.room q).ctx.service)
include service

theorem govRoom_congr (r : RoomId) : t.govRoom r = s.govRoom r := by
  simp only [State.govRoom, State.governor, mergedOf_congr groups, service]

theorem base_congr (r : RoomId) : t.base r = s.base r := by
  rw [State.base, State.base, govRoom_congr groups service, service]

theorem govHandle_congr (gov : ∀ q, (t.room q).ctx.gov = (s.room q).ctx.gov) (r : RoomId) :
    t.govHandle r = s.govHandle r := by
  rw [State.govHandle, State.govHandle, govRoom_congr groups service, gov]

end Congr

section Unmerged
variable {s : State} {r : RoomId} (alone : s.mergedOf r = none)
include alone

theorem govRoom_of_unmerged : s.govRoom r = r := by rw [State.govRoom, alone]

theorem base_of_unmerged : s.base r = (s.room r).ctx.service := by rw [State.base, govRoom_of_unmerged alone]

theorem govHandle_of_unmerged : s.govHandle r = (s.room r).ctx.gov := by
  rw [State.govHandle, govRoom_of_unmerged alone]

theorem trimRooms_of_unmerged : s.trimRooms r = [r] := by rw [State.trimRooms, alone]

end Unmerged

theorem trimRooms_of_merged {s : State} {r : RoomId} {g : GroupId} {p : PartGroup}
    (merged : s.mergedOf r = some (g, p)) :
    s.trimRooms r = p.members := by rw [State.trimRooms, merged]

/-! ## The clearings of a move -/

section Clearings
variable (s b : State) (r : RoomId)

theorem ctx_afterMove (q : RoomId) : ((s.afterMove b r).room q).ctx.service = (s.room q).ctx.service ∧
    ((s.afterMove b r).room q).ctx.gov = (s.room q).ctx.gov := by
  rw [room_afterMove]
  split
  · exact clearFor_service ..
  · exact ⟨rfl, rfl⟩

/-- The clearings of a move do not change what a room acts by. -/
theorem govHandle_afterMove (q : RoomId) : (s.afterMove b r).govHandle q = s.govHandle q :=
  govHandle_congr (s := s) (t := s.afterMove b r) rfl (fun q => (ctx_afterMove s b r q).1)
    (fun q => (ctx_afterMove s b r q).2) q

theorem base_afterMove (q : RoomId) : (s.afterMove b r).base q = s.base q :=
  base_congr (s := s) (t := s.afterMove b r) rfl (fun q => (ctx_afterMove s b r q).1) q

theorem outputs_clearFor (c : Context) (a b : Bool) : (c.clearFor a b).trim = (if a || b then 0 else c.trim) ∧
    (c.clearFor a b).overrides = (if a || b then .fill 2 .none else c.overrides) ∧
    (c.clearFor a b).extResult = (if a then .none else c.extResult) := by
  cases a <;> cases b <;> exact ⟨rfl, rfl, rfl⟩

/-- What the context `y` of a room has of its trim, overrides and extend result after a move that began at `x`: a change
of governing entry clears all three, and a service state that has become SETBACK the first two (R80, R84). -/
def Cleared (x y : Context) (changed fell : Prop) (result : ExtendResult) : Prop :=
  (changed ∨ fell → y.trim = 0 ∧ y.overrides = .fill 2 .none) ∧
    (¬ (changed ∨ fell) → y.trim = x.trim ∧ y.overrides = x.overrides) ∧ y.extResult = result

variable {s r} {m : RoomId} {v : Service} {g : Option Handle} {changed fell : Prop}

/-- Every room that shares a move is cleared by what the move has done to the governing entry and service state that
`r` acts by (assumption 30). -/
theorem cleared_setService (shares : m ∈ s.trimRooms r)
    (hc : changed ↔ s.govHandle r ≠ (s.setService r v g).govHandle r)
    (hf : fell ↔ s.base r ≠ .setback ∧ (s.setService r v g).base r = .setback) :
    Cleared (s.room m).ctx ((s.setService r v g).room m).ctx changed fell
      (if s.govHandle r ≠ (s.setService r v g).govHandle r then .none else (s.room m).ctx.extResult) := by
  let u := s.modifyCtx r fun c => { c with service := v, gov := g, overrunStart := none }
  let a := s.govHandle r != u.govHandle r
  let d := s.base r != .setback && u.base r == .setback
  have shared : m ∈ u.trimRooms r := shares
  have room : (s.setService r v g).room m = { u.room m with ctx := (u.room m).ctx.clearFor a d } :=
    (room_afterMove u s r m).trans (if_pos shared)
  have kept : (u.room m).ctx.trim = (s.room m).ctx.trim ∧ (u.room m).ctx.overrides = (s.room m).ctx.overrides ∧
      (u.room m).ctx.extResult = (s.room m).ctx.extResult := by
    have moved : u.room m = if m = r then { s.room r with ctx :=
        { (s.room r).ctx with service := v, gov := g, overrunStart := none } } else s.room m := room_modifyRoom ..
    rw [moved]
    split
    · subst_vars; exact ⟨rfl, rfl, rfl⟩
    · exact ⟨rfl, rfl, rfl⟩
  obtain ⟨trim, overrides, result⟩ := outputs_clearFor (u.room m).ctx a d
  rw [kept.1] at trim
  rw [kept.2.1] at overrides
  rw [kept.2.2] at result
  have gov : (s.setService r v g).govHandle r = u.govHandle r := govHandle_afterMove ..
  have base : (s.setService r v g).base r = u.base r := base_afterMove ..
  have clears : changed ∨ fell ↔ (a || d) = true := by
    rw [hc, hf, gov, base]
    simp [a, d]
  rw [Cleared, room, trim, overrides, result, clears, gov]
  refine ⟨fun both => ?_, fun neither => ?_, ?_⟩
  · rw [if_pos both, if_pos both]; exact ⟨rfl, rfl⟩
  · rw [if_neg neither, if_neg neither]; exact ⟨rfl, rfl⟩
  · exact if_congr bne_iff_ne rfl rfl

theorem room_setService_other {q : RoomId} (alone : s.mergedOf r = none) (other : q ≠ r) :
    (s.setService r v g).room q = s.room q := by
  have trims : (s.modifyCtx r fun c => { c with service := v, gov := g, overrunStart := none }).trimRooms r = [r] :=
    trimRooms_of_unmerged alone
  rw [State.setService, State.moveCtx, room_afterMove, trims, if_neg (by simpa using other)]
  exact room_modifyRoom_other _ _ other

end Clearings

/-! ## The derivation -/

/-- R69's table, and the confirm that a STARTED entry asks for. -/
theorem derive_governed {s : State} {r : RoomId} {e : Entry} (on : (s.room r).cfg.enabled = true)
    (opened : s.closed r = false) (active : activeEntry (s.room r).agenda = some e) :
    let x := ((s.derive r).room r).ctx
    x.gov = some e.handle ∧
      (e.state = .confirmed → x.service = if s.occupied r then .inUse else .vacated) ∧
      (e.state = .started → x.service = if s.occupied r then .inUse else .awaiting) ∧
      (e.state = .started → s.occupied r = true → (s.room r).ctx.outConfirm = none →
        x.outConfirm = some e.handle ∧ (s.derive r).cal.work = s.cal.work ++ [.confirm r e.handle]) := by
  rw [derive_active on opened active]
  refine ⟨?_, fun confirmed => (serves_enterClass_confirmed confirmed).1,
    fun started => (serves_enterClass_started started).1, enterClass_asks⟩
  obtain started | confirmed := activeEntry_state active
  · exact (serves_enterClass_started started).2
  · exact (serves_enterClass_confirmed confirmed).2

/-! ## Reports -/

section Report
variable {s : State} {r : RoomId} {early : Option Nat} {e : Entry}

/-- An entry that was in use and has ended leaves its room in OVERRUN while the room is occupied (R70, R74). -/
theorem serves_ended (ended : e.state = .ended) (inClass : s.inClass r) :
    (s.occupied r = true → (s.profiles.get e.cls).overrunLimit ≠ 0 →
      (s.reportInactive r early (some e)).serves r .overrun (some e.handle) ∧
        ((s.reportInactive r early (some e)).room r).ctx.overrunStart = some (early.getD e.curEnd)) ∧
      (s.occupied r = true → (s.profiles.get e.cls).overrunLimit = 0 →
        s.reportInactive r early (some e) = s.precondOr r .adHoc) ∧
      (s.occupied r = false → s.reportInactive r early (some e) = s.precondOr r .setback) := by
  rw [reportInactive_ended_inClass ended inClass]
  refine ⟨fun occupied limit => ?_, fun occupied limit => ?_, fun empty => ?_⟩
  · rw [if_pos occupied]; exact enterOverrun_limited limit
  · rw [if_pos occupied, enterOverrun_unlimited limit]
  · rw [empty]; rfl

theorem serves_released (released : e.state = .released) :
    (s.occupied r = true → (s.reportInactive r early (some e)).serves r .adHoc none) ∧
      (s.occupied r = false → s.reportInactive r early (some e) = s.precondOr r .setback) := by
  rw [reportInactive_released released]
  refine ⟨fun occupied => ?_, fun empty => ?_⟩
  · rw [if_pos occupied]; exact serves_setService ..
  · rw [empty]; rfl


/-- R70's lines 5 to 8, for a governing entry that is gone or skipped. -/
theorem report_gone (governed : s.report early r = s.reportInactive r early (s.ownEntry r))
    (gone : s.ownEntry r = none ∨ ∃ e, s.ownEntry r = some e ∧ e.state = .skipped) :
    s.report early r = s.precondOr r (if s.occupied r then .adHoc else .setback) := by
  rw [governed]
  obtain none | ⟨e, own, skipped⟩ := gone
  · rw [none, reportInactive_gone]
  · rw [own, reportInactive_skipped skipped]

end Report

/-! ## The obligation -/

/-- Settles O27: each clause by the line of the derivation, the report or the presence table that it quotes. -/
theorem serviceDerived : Obligations.ServiceDerived := by
  refine ⟨fun s r => ⟨fun off => serves_of_setService (derive_disabled off),
      fun on closed => serves_of_setService (derive_closed on closed),
      fun on opened => ⟨fun e active => derive_governed on opened active, fun inactive => ?_⟩⟩,
    fun s r early => ⟨report_disabled, fun on closed => serves_of_setService (report_closed on closed),
      fun on opened => ⟨fun line => line.elim (report_line1 on opened) (report_line3 on opened),
        fun line => (serves_of_setService (report_line2 on opened line)).symm,
        fun not1 not2 not3 => ⟨fun e active => ?_, fun inactive => ?_⟩⟩⟩,
    fun s r was now => ⟨fun svc rose idle => serves_of_setService (presenceMoved_walkIn svc rose idle.1 idle.2),
      fun svc emptied => serves_of_setService (presenceMoved_adHoc svc emptied), fun svc emptied => ?_,
      fun svc rose => ?_, fun svc emptied => ?_, presenceMoved_still⟩,
    fun s r start => ⟨overrunCheck_elsewhere, fun svc since => ⟨fun short => ?_, fun long => ?_⟩⟩,
    fun s r v g => ⟨fun alone => ⟨?_, fun q => room_setService_other alone⟩, fun k p merged m member => ?_⟩⟩
  case refine_1 =>
    rw [derive_inactive on opened inactive]
    obtain ⟨first, none⟩ := serves_precondOr s r (if s.occupied r then .adHoc else .setback)
    exact ⟨first, fun clear => (none clear).symm⟩
  case refine_2 =>
    rw [report_active on opened not1 not2 not3 active]
    exact ⟨fun confirmed => (serves_enterClass_confirmed confirmed).symm,
      fun started => (serves_enterClass_started started).symm⟩
  case refine_3 =>
    have governed := report_governed (early := early) on opened not1 not2 not3 inactive
    have lines {e : Entry} (own : s.ownEntry r = some e) : s.report early r = s.reportInactive r early (some e) := by
      rw [governed (gov_isSome_of_ownEntry own), own]
    refine ⟨fun e own released => ?_, fun e own ended inClass => ?_, fun e own ended awaiting => ?_, fun gone => ?_,
      fun ahead => reportRest_lines ?_⟩
    · obtain ⟨occupied, empty⟩ := serves_released (early := early) released
      rw [lines own]
      exact ⟨occupied, fun clear => serves_of_precondOr (empty clear)⟩
    · obtain ⟨overrun, unlimited, empty⟩ := serves_ended (early := early) ended inClass
      rw [lines own]
      refine ⟨fun occupied limit => ?_, fun occupied limit => serves_of_precondOr (unlimited occupied limit),
        fun clear => serves_of_precondOr (empty clear)⟩
      obtain ⟨⟨service, gov⟩, since⟩ := overrun occupied limit
      exact ⟨service, gov, since⟩
    · exact serves_of_precondOr ((lines own).trans (reportInactive_ended_awaiting ended awaiting))
    · obtain ⟨gov, none⟩ | ⟨e, own, skipped⟩ := gone
      · exact serves_of_precondOr (report_gone (governed gov) (.inl none))
      · exact serves_of_precondOr (report_gone (governed (gov_isSome_of_ownEntry own)) (.inr ⟨e, own, skipped⟩))
    · obtain none | ⟨e, own, rest⟩ := ahead
      · exact report_ungoverned on opened not1 not2 not3 inactive none
      · exact (lines own).trans (reportInactive_rest rest)
  case refine_4 => rw [presenceMoved_inUse svc emptied]; exact serves_moveService ..
  case refine_5 =>
    obtain ⟨⟨service, gov⟩, asks⟩ := serves_presenceMoved_entered svc rose
    exact ⟨service, gov, asks⟩
  case refine_6 => rw [presenceMoved_overrun svc emptied]; exact serves_precondOr ..
  case refine_7 => exact (overrunCheck_running svc since).trans (if_neg (Nat.not_le_of_lt short))
  case refine_8 =>
    rw [(overrunCheck_running svc since).trans (if_pos long)]
    exact serves_precondOr ..
  case refine_9 =>
    obtain ⟨service, gov⟩ := serves_setService s r v g
    have still : (s.setService r v g).mergedOf r = none := alone
    refine cleared_setService (by rw [trimRooms_of_unmerged alone]; exact List.mem_singleton_self r) ?_ ?_
    · rw [govHandle_of_unmerged alone, govHandle_of_unmerged still, gov]
    · rw [base_of_unmerged alone, base_of_unmerged still, service]
  case refine_10 => exact cleared_setService (by rw [trimRooms_of_merged merged]; exact member) Iff.rfl Iff.rfl

end Sys2Proof.Machine
end

section
/-! PROOFS. The panel events of a good report: which are taken, and what the presses of lights and blinds do (R78, R82,
R83, R101, R179). -/
namespace Sys2Proof.Machine

/-! ## Presses -/

/-- A room hears its panel: it is in no overlay and not UNCONFIGURED (R78). -/
def State.hears (s : State) (r : RoomId) : Prop := ∃ v, s.effective r = .service v ∧ v ≠ .unconfigured

/-- R102's exception is for EXTEND alone. -/
theorem panelHeard_iff {s : State} {r : RoomId} {e : PanelEvent} (h : e ≠ .extend) :
    s.panelHeard r e = true ↔ s.hears r := by
  unfold State.panelHeard State.hears
  cases s.effective r with
  | safe => simp [h]
  | hold => simp [h]
  | closed => simp
  | service v => cases v <;> simp

theorem panelEvent_of_hears {s : State} {r : RoomId} {e : PanelEvent} (h : e ≠ .extend) (hears : s.hears r) :
    s.panelEvent r e = s.panelAct r e := if_pos ((panelHeard_iff h).2 hears)

theorem panelEvent_of_not_hears {s : State} {r : RoomId} {e : PanelEvent} (h : e ≠ .extend) (deaf : ¬ s.hears r) :
    s.panelEvent r e = s := if_neg fun heard => deaf ((panelHeard_iff h).1 heard)

/-! ### Lights -/

/-- A room with its trim moved within −500..+500 (R82). -/
def Room.trimmed (x : Room) (by_ : Int) : Room :=
  { x with ctx := { x.ctx with trim := clampInt (-500) 500 (x.ctx.trim + by_) } }

/-- Each room of a list without repetition has its trim moved once. -/
theorem room_trimEach (by_ : Int) {l : List RoomId} (distinct : l.Nodup) (s : State) (m : RoomId) :
    (l.foldl (fun s m => s.modifyCtx m fun c => { c with trim := clampInt (-500) 500 (c.trim + by_) }) s).room m =
      if m ∈ l then (s.room m).trimmed by_ else s.room m := by
  induction l generalizing s with
  | nil => simp
  | cons a l ih =>
    obtain ⟨new, distinct⟩ := List.nodup_cons.1 distinct
    have first : (s.modifyCtx a fun c => { c with trim := clampInt (-500) 500 (c.trim + by_) }).room m =
        if m = a then (s.room a).trimmed by_ else s.room m := room_modifyRoom ..
    rw [List.foldl_cons, ih distinct, first]
    by_cases own : m = a
    · subst own; simp [new]
    · simp [own]

theorem room_panelTrim {s : State} {r m : RoomId} (by_ : Int)
    (shares : (s.mergedOf r = none ∧ m = r) ∨ ∃ g p, s.mergedOf r = some (g, p) ∧ p.members.Nodup ∧ m ∈ p.members) :
    (s.panelTrim r by_).room m = (s.room m).trimmed by_ := by
  have trims : (s.trimRooms r).Nodup ∧ m ∈ s.trimRooms r := by
    obtain ⟨alone, own⟩ | ⟨g, p, merged, distinct, member⟩ := shares
    · rw [trimRooms_of_unmerged alone, own]
      exact ⟨List.nodup_singleton r, List.mem_singleton_self r⟩
    · rw [trimRooms_of_merged merged]
      exact ⟨distinct, member⟩
  rw [State.panelTrim, room_trimEach by_ trims.1, if_pos trims.2]

/-! ### Blinds -/

theorem panelBlind_below {s : State} {r : RoomId} {b : BlindId} (o : Override)
    (below : b.val < (s.room r).cfg.blindCount) :
    s.panelBlind r b o = s.modifyCtx r fun c => { c with overrides := c.overrides.set b o } := if_pos below

theorem panelBlind_above {s : State} {r : RoomId} {b : BlindId} (o : Override)
    (above : (s.room r).cfg.blindCount ≤ b.val) : s.panelBlind r b o = s := if_neg (Nat.not_lt_of_le above)

/-- A press for a blind group is heard below the blind group count alone (R83). -/
theorem pulled {s : State} {r : RoomId} {b : BlindId} {e : PanelEvent} {o : Override} (h : e ≠ .extend)
    (act : s.panelAct r e = s.panelBlind r b o) :
    (s.hears r → b.val < (s.room r).cfg.blindCount →
      s.panelEvent r e = s.modifyCtx r fun c => { c with overrides := c.overrides.set b o }) ∧
      (¬ s.hears r ∨ (s.room r).cfg.blindCount ≤ b.val → s.panelEvent r e = s) := by
  refine ⟨fun hears below => ?_, fun off => ?_⟩
  · rw [panelEvent_of_hears h hears, act, panelBlind_below o below]
  · by_cases hears : s.hears r
    · rw [panelEvent_of_hears h hears, act]
      exact panelBlind_above o (off.resolve_left fun deaf => deaf hears)
    · exact panelEvent_of_not_hears h hears

/-- A press for the lights is heard in every room that shares the trim (R82, R101). -/
theorem pressed {s : State} {r : RoomId} {e : PanelEvent} {by_ : Int} (h : e ≠ .extend)
    (act : s.panelAct r e = s.panelTrim r by_) :
    (¬ s.hears r → s.panelEvent r e = s) ∧
      (s.hears r → ∀ m, (s.mergedOf r = none ∧ m = r) ∨
          (∃ g p, s.mergedOf r = some (g, p) ∧ p.members.Nodup ∧ m ∈ p.members) →
        (s.panelEvent r e).room m = (s.room m).trimmed by_) := by
  refine ⟨panelEvent_of_not_hears h, fun hears m shares => ?_⟩
  rw [panelEvent_of_hears h hears, act, room_panelTrim by_ shares]

/-! ## Which events are taken -/

theorem panelEventOf_above {n : Nat} (h : 9 ≤ n) : panelEventOf n = none := by
  unfold panelEventOf
  split <;> first | omega | rfl

section Take
variable {s : State} {r : RoomId} {rep : Report} {st : Station}

/-- The room's station has taken the event of this number (R179). -/
def State.noting (s : State) (r : RoomId) (st : Station) (k : Token) : State :=
  s.modifyRoom r fun y => { y with station := some { st with lastEvent := some k } }

variable (station : (s.room r).station = some st)
include station

theorem modifyStation_of_some (f : Station → Station) :
    s.modifyStation r f = s.modifyRoom r fun y => { y with station := some (f st) } := by
  simp only [State.modifyStation, State.modifyRoom, station, Option.map_some]

theorem takeEvent_again (again : rep.eventCode = 0 ∨ st.lastEvent = some rep.eventNumber) : s.takeEvent r rep = s := by
  simp only [State.takeEvent, station]
  exact if_pos again

theorem takeEvent_new (event : rep.eventCode ≠ 0) (new : st.lastEvent ≠ some rep.eventNumber) : s.takeEvent r rep =
    (panelEventOf rep.eventCode).elim (s.noting r st rep.eventNumber)
      fun e => (s.noting r st rep.eventNumber).panelEvent r e := by
  have noted : s.modifyStation r (fun x => { x with lastEvent := some rep.eventNumber }) =
      s.noting r st rep.eventNumber := modifyStation_of_some station _
  simp only [State.takeEvent, station]
  rw [if_neg (not_or.2 ⟨event, new⟩), noted]
  cases panelEventOf rep.eventCode <;> rfl

end Take

end Sys2Proof.Machine
end

section
/-! PROOFS. A report at the estimator: the values it stores, the estimate it moves, and what the contact and the panel
event that come after it leave of both (R95, R110 to R116, R173). -/
namespace Sys2Proof.Machine

/-! ## The values stored -/

/-- An estimator record but for its estimate. -/
def Estimator.senses (o : Estimator) : Estimator := { o with est := .reset }

/-- Whether a report's door counts are used: the room counts its doors, and the unit reports no fault (R114). -/
abbrev doorsCounted (counting : Bool) (rep : Report) : Prop := counting = true ∧ rep.flags.doorFault = false

theorem rebase_eq (o : Estimator) (counting : Bool) (rep : Report) : o.rebase counting rep =
    { o with entriesBase := if doorsCounted counting rep then some rep.entries else none
             exitsBase := if doorsCounted counting rep then some rep.exits else none } := by
  by_cases used : doorsCounted counting rep
  · obtain ⟨on, sound⟩ := used
    simp [Estimator.rebase, doorsCounted, on, sound]
  · have unused : (!counting || rep.flags.doorFault) = true := by
      cases counting
      · rfl
      · simpa [doorsCounted] using used
    rw [Estimator.rebase, if_pos unused, if_neg used, if_neg used]

/-- How far a door counter has moved past its baseline since the last report, modulo 256; 0 where counts are not used,
where the unit has restarted, and where a baseline is unset (R114). -/
def Estimator.moved (o : Estimator) (counting : Bool) (rep : Report) (base : Option Nat) (count : Nat) : Nat :=
  if doorsCounted counting rep ∧ rep.flags.restarted = false ∧ o.entriesBase.isSome = true ∧
      o.exitsBase.isSome = true then
    (count + 256 - base.getD 0) % 256
  else 0

theorem doorCounts_eq (o : Estimator) (counting : Bool) (rep : Report) : o.doorCounts counting rep =
    (o.moved counting rep o.entriesBase rep.entries, o.moved counting rep o.exitsBase rep.exits) := by
  unfold Estimator.doorCounts Estimator.moved
  split
  · rename_i unused
    have idle : ¬ (doorsCounted counting rep ∧ rep.flags.restarted = false ∧ o.entriesBase.isSome = true ∧
        o.exitsBase.isSome = true) := by
      rintro ⟨⟨on, sound⟩, going, -⟩
      simp [on, sound, going] at unused
    rw [if_neg idle, if_neg idle]
  · rename_i used
    have counted : doorsCounted counting rep ∧ rep.flags.restarted = false := by simpa [doorsCounted] using used
    cases entries : o.entriesBase <;> cases exits : o.exitsBase <;> simp [counted]

/-- The record that a report leaves: its values stored and calibrated, its counters rebased, and the estimate moved by
what the counters have counted (R111, R112, R114, R115, R116). -/
def Estimator.after (o : Estimator) (counting : Bool) (rep : Report) (e : Estimate) : Estimator :=
  { (o.sense rep).rebase counting rep with est := e }

/-- An estimate moved by the counts and the motion of a report (R114, R115, R116). -/
def Estimator.observed (o : Estimator) (counting : Bool) (rep : Report) (now : Nat) (e : Estimate) (limit : Nat)
    (times : PresenceTimes) : Estimate :=
  e.observe limit times (min rep.motion 15) (o.moved counting rep o.entriesBase rep.entries)
    (o.moved counting rep o.exitsBase rep.exits) now

/-! ## The estimate moved -/

section Intake
variable {s : State} {r : RoomId} {rep : Report}

/-- The part with a report's values stored in its room. -/
def State.sensed (s : State) (r : RoomId) (rep : Report) : State :=
  s.modifyOce r fun o => (o.sense rep).rebase (s.room r).cfg.doorCounting rep

/-- What a report in a room makes of an estimate (R114 to R116). -/
def State.observing (s : State) (r : RoomId) (rep : Report) (e : Estimate) : Estimate :=
  (s.room r).oce.observed (s.room r).cfg.doorCounting rep s.oceNow e (s.tallyLimit r) (s.presenceTimes r)

/-- The estimator record of a room of no MERGED group after a report. -/
def State.oceAfter (s : State) (r : RoomId) (rep : Report) : Estimator :=
  (s.room r).oce.after (s.room r).cfg.doorCounting rep (s.observing r rep (s.room r).oce.est)

theorem oce_modifyOce (f : Estimator → Estimator) : ((s.modifyOce r f).room r).oce = f (s.room r).oce := by
  rw [State.modifyOce, room_modifyRoom_self]

theorem modifyOce_modifyOce (f h : Estimator → Estimator) :
    (s.modifyOce r f).modifyOce r h = s.modifyOce r fun o => h (f o) := modifyRoom_modifyRoom ..

theorem modifyEstimate_of_unmerged (alone : s.mergedOf r = none) (f : Estimate → Estimate) :
    s.modifyEstimate r f = s.modifyOce r fun o => { o with est := f o.est } := by
  rw [State.modifyEstimate, alone]

theorem modifyEstimate_of_merged {g : GroupId} {p : PartGroup} (merged : s.mergedOf r = some (g, p))
    (f : Estimate → Estimate) : s.modifyEstimate r f = s.modifyGroup g fun p => { p with shared := f p.shared } := by
  rw [State.modifyEstimate, merged]

theorem EstimatesKept.tellPresence (s : State) (r : RoomId) (p : Presence) : EstimatesKept s (s.tellPresence r p) :=
  .foldl (fun s m => .presenceMoved s m _ _) ..

variable (on : (s.room r).cfg.enabled = true) (sound : (s.room r).ctx.safe = false)
include on sound

theorem intake_eq : s.intake r rep =
    ((s.sensed r rep).modifyEstimate r (s.observing r rep)).tellPresence r (s.presence r) := by
  simp only [State.intake, on, sound, Bool.not_true, Bool.or_false, Bool.false_eq_true, if_false, doorCounts_eq]
  rfl

/-- In a room of no MERGED group the report moves the room's own estimate, and the room is told (R116, R121). -/
theorem intake_of_unmerged (alone : s.mergedOf r = none) : s.intake r rep =
    (s.modifyOce r fun _ => s.oceAfter r rep).presenceMoved r (s.room r).oce.est.presence
      (s.oceAfter r rep).est.presence := by
  have est : (((s.room r).oce.sense rep).rebase (s.room r).cfg.doorCounting rep).est = (s.room r).oce.est := by
    rw [rebase_eq]; rfl
  have moved : (s.sensed r rep).modifyEstimate r (s.observing r rep) = s.modifyOce r fun _ => s.oceAfter r rep := by
    rw [modifyEstimate_of_unmerged (s := s.sensed r rep) alone, State.sensed, modifyOce_modifyOce, State.oceAfter,
      ← est]
    rfl
  have was : s.presence r = (s.room r).oce.est.presence := by rw [State.presence, State.estimate, alone]
  have still : (s.modifyOce r fun _ => s.oceAfter r rep).mergedOf r = none := alone
  have now : (s.modifyOce r fun _ => s.oceAfter r rep).presence r = (s.oceAfter r rep).est.presence := by
    rw [State.presence, State.estimate, still]
    exact congrArg (fun o : Estimator => o.est.presence) (oce_modifyOce _)
  rw [intake_eq on sound, moved, State.tellPresence, trimRooms_of_unmerged still, was, now]
  rfl

/-- In a MERGED group the report moves the group's estimate (R98). -/
theorem intake_of_merged {g : GroupId} {p : PartGroup} (merged : s.mergedOf r = some (g, p)) :
    (s.intake r rep).groups =
      (s.modifyGroup g fun p => { p with shared := s.observing r rep p.shared }).groups := by
  rw [intake_eq on sound, (EstimatesKept.tellPresence ..).groups, modifyEstimate_of_merged (s := s.sensed r rep) merged]
  rfl

/-- The values that a report leaves in its room, whichever estimate it has moved. -/
theorem senses_intake :
    ((s.intake r rep).room r).oce.senses = (s.oceAfter r rep).senses := by
  rw [intake_eq on sound, (EstimatesKept.tellPresence ..).oce]
  cases merged : s.mergedOf r with
  | none =>
    rw [modifyEstimate_of_unmerged (s := s.sensed r rep) merged, State.sensed, modifyOce_modifyOce, oce_modifyOce]
    rfl
  | some q =>
    rw [modifyEstimate_of_merged (s := s.sensed r rep) (g := q.1) (p := q.2) merged]
    have stored : ((s.sensed r rep).room r).oce = ((s.room r).oce.sense rep).rebase (s.room r).cfg.doorCounting rep :=
      oce_modifyOce _
    show ((s.sensed r rep).room r).oce.senses = _
    rw [stored]
    rfl

end Intake

/-! ## What comes after the estimator -/

/-- Every estimator record keeps all but its estimate. -/
structure SensesKept (s t : State) : Prop where
  senses : ∀ r, (t.room r).oce.senses = (s.room r).oce.senses

theorem SensesKept.refl (s : State) : SensesKept s s := ⟨fun _ => rfl⟩

theorem SensesKept.trans {s t u : State} (a : SensesKept s t) (b : SensesKept t u) : SensesKept s u :=
  ⟨fun r => (b.senses r).trans (a.senses r)⟩

theorem SensesKept.foldl {α : Type} {f : State → α → State} (h : ∀ s a, SensesKept s (f s a)) (l : List α)
    (s : State) : SensesKept s (l.foldl f s) := by
  induction l generalizing s with
  | nil => exact .refl s
  | cons a l ih => exact (h s a).trans (ih _)

theorem EstimatesKept.senses {s t : State} (h : EstimatesKept s t) : SensesKept s t := ⟨fun r => by rw [h.oce]⟩

theorem SensesKept.modifyEst (s : State) (r : RoomId) (f : Estimator → Estimate) :
    SensesKept s (s.modifyOce r fun o => { o with est := f o }) := ⟨fun q => by
  rw [State.modifyOce, room_modifyRoom]
  split
  · subst_vars; rfl
  · rfl⟩

theorem SensesKept.modifyGroup (s : State) (g : GroupId) (f : PartGroup → PartGroup) :
    SensesKept s (s.modifyGroup g f) := ⟨fun _ => rfl⟩

theorem SensesKept.merge (s : State) (g : GroupId) (p : PartGroup) : SensesKept s (s.merge g p) := by
  have drop (u : State) : SensesKept u (p.members.foldl (fun t m => t.modifyOce m fun o =>
      { o with est := { Estimate.reset with frozenAt := o.est.frozenAt } }) u) := by
    apply SensesKept.foldl
    intro t m
    exact .modifyEst t m fun o => { Estimate.reset with frozenAt := o.est.frozenAt }
  unfold State.merge; dsimp only
  refine SensesKept.trans ?_ (.modifyGroup ..)
  refine SensesKept.trans ?_ (EstimatesKept.foldl (fun _ _ => .modifyCtx ..) ..).senses
  exact (EstimatesKept.foldl (fun t (w : RoomId × Presence) => .presenceMoved t w.1 w.2 _) ..).senses.trans (drop _)

theorem SensesKept.split (s : State) (g : GroupId) (p : PartGroup) (dest : GroupState) :
    SensesKept s (s.split g p dest) := ⟨fun r => by rw [room_split]; split <;> rfl⟩

theorem SensesKept.evaluateGroup (s : State) (g : GroupId) : SensesKept s (s.evaluateGroup g) := by
  unfold State.evaluateGroup; dsimp only
  split
  · exact .refl s
  · split
    · exact .refl s
    · split
      · exact .merge ..
      · split
        · exact .split ..
        · exact .modifyGroup ..

theorem SensesKept.contactReported (s : State) (r : RoomId) (isOpen : Bool) :
    SensesKept s (s.contactReported r isOpen) := by
  unfold State.contactReported; dsimp only
  split
  · split
    · generalize Contact.read _ _ = k
      split
      · exact .refl s
      · exact (SensesKept.modifyGroup ..).trans (.evaluateGroup ..)
    · exact .refl s
  · exact .refl s

theorem EstimatesKept.panelEvent (s : State) (r : RoomId) (e : PanelEvent) : EstimatesKept s (s.panelEvent r e) := by
  unfold State.panelEvent; split
  · cases e with
    | extend =>
      simp only [State.panelAct, State.panelExtend]; repeat' split
      all_goals first | exact .refl s | exact .modifyCtx ..
    | endNow =>
      simp only [State.panelAct, State.panelEndNow]; repeat' split
      all_goals first | exact .refl s | exact .postWork ..
    | lightsUp => exact .foldl (fun _ _ => .modifyCtx ..) ..
    | lightsDown => exact .foldl (fun _ _ => .modifyCtx ..) ..
    | blindsUp b =>
      simp only [State.panelAct, State.panelBlind]; split
      · exact .modifyCtx ..
      · exact .refl s
    | blindsDown b =>
      simp only [State.panelAct, State.panelBlind]; split
      · exact .modifyCtx ..
      · exact .refl s
  · exact .refl s

/-! ### The contact -/

/-- A change of a group's record that keeps its members changes the group of each of its rooms by just that. -/
theorem groupOf_modifyGroup {s : State} {r : RoomId} {g : GroupId} {p : PartGroup} {f : PartGroup → PartGroup}
    (member : s.groupOf r = some (g, p)) (kept : ∀ p, (f p).members = p.members) :
    (s.modifyGroup g f).groupOf r = some (g, f p) := by
  have told : (s.modifyGroup g f).groupOf r = (s.groupOf r).map fun q => (q.1, if q.1 = g then f q.2 else q.2) := by
    rw [State.groupOf, State.groupOf, List.map_findSome?]
    refine congrArg (List.findSome? · _) (funext fun k => ?_)
    have record : (s.modifyGroup g f).groups.get k = if k = g then (s.groups.get g).map f else s.groups.get k :=
      Table.get_modify ..
    rw [record, Function.comp_apply]
    by_cases own : k = g
    · subst own
      cases s.groups.get k with
      | none => simp
      | some p => simp [kept]
    · cases s.groups.get k with
      | none => simp [own]
      | some p => simp [own]
  rw [told, member, Option.map_some, if_pos rfl]

theorem mergedOf_eq_some {s : State} {r : RoomId} {g : GroupId} {p : PartGroup} (merged : s.mergedOf r = some (g, p)) :
    s.groupOf r = some (g, p) ∧ s.groups.get g = some p := by
  have own : s.groupOf r = some (g, p) := by
    unfold State.mergedOf at merged
    split at merged
    · split at merged
      · cases merged; assumption
      · cases merged
    · cases merged
  refine ⟨own, ?_⟩
  obtain ⟨k, -, found⟩ := List.exists_of_findSome?_eq_some own
  split at found
  · split at found
    · cases found; assumption
    · cases found
  · cases found

theorem mergedOf_of_alone {s : State} {r : RoomId} (alone : s.groupOf r = none) : s.mergedOf r = none := by
  rw [State.mergedOf, alone]

theorem contactReported_of_alone {s : State} {r : RoomId} (alone : s.groupOf r = none) (isOpen : Bool) :
    s.contactReported r isOpen = s := by
  rw [State.contactReported, alone]

/-- A contact that reads what it read before changes nothing (R95). -/
theorem contactReported_of_same {s : State} {r : RoomId} {g : GroupId} {p : PartGroup} {isOpen : Bool}
    (member : s.groupOf r = some (g, p))
    (same : ∀ k, p.contactOf r = some k → k.reading = if isOpen then .opened else .closed) :
    s.contactReported r isOpen = s := by
  rw [State.contactReported, member]
  cases contact : p.contactOf r with
  | none => simp only [contact]
  | some k => simp only [contact, Contact.read, same k contact, if_true]

/-! ### The service machine -/

/-- What a move that depends on a room's context, agenda and being CLOSED alone makes of two states that agree on
them. -/
def ServeAlike (s t : State) (r : RoomId) : Prop :=
  (t.room r).ctx.service = (s.room r).ctx.service ∧ (t.room r).ctx.gov = (s.room r).ctx.gov

theorem State.serves.alike {s t : State} {r : RoomId} {v : Service} {g : Option Handle} (hs : s.serves r v g)
    (ht : t.serves r v g) : ServeAlike s t r := ⟨ht.1.trans hs.1.symm, ht.2.trans hs.2.symm⟩

theorem presenceMoved_congr {s t : State} {r : RoomId} (ctx : (t.room r).ctx = (s.room r).ctx)
    (agenda : (t.room r).agenda = (s.room r).agenda) (closed : t.closed r = s.closed r) (was now : Presence) :
    ServeAlike (s.presenceMoved r was now) (t.presenceMoved r was now) r := by
  have still : ServeAlike s t r := by rw [ServeAlike, ctx]; exact ⟨rfl, rfl⟩
  have set (v : Service) (g : Option Handle) : ServeAlike (s.setService r v g) (t.setService r v g) r :=
    (serves_setService ..).alike (serves_setService ..)
  have move (v : Service) : ServeAlike (s.moveService r v) (t.moveService r v) r :=
    (serves_moveService ..).alike (ctx ▸ serves_moveService t r v)
  have enter (v : Service) :
      ServeAlike ((s.moveService r v).confirmIfStarted r) ((t.moveService r v).confirmIfStarted r) r :=
    (serves_confirmIfStarted (serves_moveService ..)).alike
      (serves_confirmIfStarted (ctx ▸ serves_moveService t r v))
  have leave (v : Service) : ServeAlike (s.precondOr r v) (t.precondOr r v) r := by
    rw [State.precondOr, State.precondOr, agenda]
    cases firstPrecond (s.room r).agenda <;> exact set ..
  cases svc : (s.room r).ctx.service <;> simp only [State.presenceMoved, ctx, agenda, closed, svc]
  case unconfigured => exact still
  case precondition => exact still
  case setback => split <;> [exact set ..; exact still]
  case adHoc => split <;> [exact set ..; exact still]
  case awaiting => split <;> [exact enter _; exact still]
  case vacated => split <;> [exact enter _; exact still]
  case inUse => split <;> [exact move _; exact still]
  case overrun => split <;> [exact leave _; exact still]

end Sys2Proof.Machine
end

section
/-! PROOFS. REPORT_RECEIVED with a good reply: its exchange ends, its station is credited, and the report is handed on
(R172, R173, R179, R181, R183). -/
namespace Sys2Proof.Machine

/-! ## The station -/

theorem modifyRoom_same {s : State} {r : RoomId} {f : Room → Room} (same : f (s.room r) = s.room r) :
    s.modifyRoom r f = s := by
  refine congrArg (fun x => ({ s with rooms := x } : State)) (Table.ext_get fun q => ?_)
  rw [same, Table.get_set]
  split
  · subst_vars; rfl
  · rfl

/-- The part with its exchange over, a station record in its room, and this port. -/
def State.exchanged (s : State) (r : RoomId) (st : Station) (p : Port) : State :=
  { s.modifyRoom r fun x => { x with station := some st } with
    loop := { s.loop with exchange := none }, port := p }

section Exchanged
variable {s : State} {r : RoomId} {st : Station} {p : Port}

theorem room_exchanged (q : RoomId) : (s.exchanged r st p).room q =
    if q = r then { s.room r with station := some st } else s.room q :=
  room_modifyRoom s r q fun x => { x with station := some st }

theorem room_exchanged_self : (s.exchanged r st p).room r = { s.room r with station := some st } := by
  rw [room_exchanged, if_pos rfl]

theorem room_exchanged_other {q : RoomId} (other : q ≠ r) : (s.exchanged r st p).room q = s.room q := by
  rw [room_exchanged, if_neg other]

theorem modifyStation_exchanged (f : Station → Station) :
    (s.exchanged r st p).modifyStation r f = s.exchanged r (f st) p := by
  have station : ((s.exchanged r st p).room r).station = some st := by rw [room_exchanged_self]
  rw [modifyStation_of_some station]
  exact congrArg (fun u : State => ({ u with loop := { s.loop with exchange := none }, port := p } : State))
    (modifyRoom_modifyRoom s r (fun x => { x with station := some st }) fun x => { x with station := some (f st) })

theorem modifyStation_exchangeOver (station : (s.room r).station = some st) (f : Station → Station) :
    ({ s with loop := { s.loop with exchange := none } } : State).modifyStation r f = s.exchanged r (f st) s.port := by
  rw [modifyStation_of_some (s := { s with loop := { s.loop with exchange := none } }) station]
  rfl

/-- Nothing but a station's record differs between the rooms. -/
theorem exchanged_kept (q : RoomId) : ((s.exchanged r st p).room q).cfg = (s.room q).cfg ∧
    ((s.exchanged r st p).room q).ctx = (s.room q).ctx ∧ ((s.exchanged r st p).room q).agenda = (s.room q).agenda ∧
    ((s.exchanged r st p).room q).oce = (s.room q).oce := by
  rw [room_exchanged]
  split
  · subst_vars; exact ⟨rfl, rfl, rfl, rfl⟩
  · exact ⟨rfl, rfl, rfl, rfl⟩

theorem cfg_exchanged (q : RoomId) : ((s.exchanged r st p).room q).cfg = (s.room q).cfg := (exchanged_kept q).1

theorem ctx_exchanged (q : RoomId) : ((s.exchanged r st p).room q).ctx = (s.room q).ctx := (exchanged_kept q).2.1

theorem agenda_exchanged (q : RoomId) : ((s.exchanged r st p).room q).agenda = (s.room q).agenda :=
  (exchanged_kept q).2.2.1

theorem oce_exchanged (q : RoomId) : ((s.exchanged r st p).room q).oce = (s.room q).oce := (exchanged_kept q).2.2.2

theorem closed_exchanged (q : RoomId) : (s.exchanged r st p).closed q = s.closed q := by
  rw [State.closed, State.closed, cfg_exchanged]
  rfl

/-- The estimator judges a report by nothing that the exchange has changed. -/
theorem observing_exchanged (rep : Report) (e : Estimate) :
    (s.exchanged r st p).observing r rep e = s.observing r rep e := by
  have merged : (s.exchanged r st p).mergedOf r = s.mergedOf r := rfl
  have trims : (s.exchanged r st p).trimRooms r = s.trimRooms r := rfl
  have gov : (s.exchanged r st p).govRoom r = s.govRoom r :=
    govRoom_congr (s := s) (t := s.exchanged r st p) rfl (fun q => congrArg Context.service (ctx_exchanged q)) r
  have profile : (s.exchanged r st p).govProfile r = s.govProfile r := by
    simp only [State.govProfile, State.govEntry, State.ownEntry, gov, ctx_exchanged, agenda_exchanged]
    rfl
  have times : (s.exchanged r st p).presenceTimes r = s.presenceTimes r := by
    simp only [State.presenceTimes, State.maxOver, trims, profile, cfg_exchanged]
  have limit : (s.exchanged r st p).tallyLimit r = s.tallyLimit r := by
    simp only [State.tallyLimit, State.groupLimit, State.sumOver, merged, cfg_exchanged]
  rw [State.observing, State.observing, oce_exchanged, cfg_exchanged, times, limit]
  rfl

theorem oceAfter_exchanged (rep : Report) : (s.exchanged r st p).oceAfter r rep = s.oceAfter r rep := by
  rw [State.oceAfter, State.oceAfter, observing_exchanged, oce_exchanged, cfg_exchanged]

end Exchanged

/-! ## What follows the credit -/

/-- A good report handed to the three units (R173). -/
def State.delivered (s : State) (r : RoomId) (rep : Report) : State :=
  (((s.intake r rep).contactReported r rep.contactOpen).takeEvent r rep).modifyRoom r
    fun x => { x with blinds := x.blinds.mapIdx fun b y => reportBlind x.cfg rep b y }

/-- A station's record after a good SETPOINT exchange, before its panel event is taken (R179, R181). -/
def Station.credited (st : Station) (rep : Report) : Station :=
  { st with lastError := 0, health := st.health - 1, state := gradeOf (st.health - 1)
            lastEvent := if rep.flags.restarted then none else st.lastEvent }

section Succeed
variable {s : State} {x : Exchange} {rep : Report} {st : Station} (kept : x.orphan = false)
  (station : (s.room x.room).station = some st)
include kept station

theorem succeed_setpoint (kind : x.kind = .setpoint) : ∃ p : Port, p.slot = s.port.slot ∧
    s.succeed x rep = (s.exchanged x.room (st.credited rep) p).delivered x.room rep := by
  have graded : ∃ p : Port, p.slot = s.port.slot ∧ (s.exchanged x.room { st with lastError := 0 } s.port).gradeStation
      x.room st.state (st.health - 1) = s.exchanged x.room
        { st with lastError := 0, health := st.health - 1, state := gradeOf (st.health - 1) } p := by
    unfold State.gradeStation; dsimp only
    rw [modifyStation_exchanged]
    split
    · exact ⟨s.port.raise .stationWarning, rfl, rfl⟩
    · exact ⟨s.port, rfl, rfl⟩
  obtain ⟨p, slot, graded⟩ := graded
  have good : s.succeed x rep = ((s.exchanged x.room { st with lastError := 0 } s.port).gradeStation
      x.room st.state (st.health - 1)).deliverReport x.room rep := by
    have at_ : (({ s with loop := { s.loop with exchange := none } } : State).room x.room).station = some st := station
    simp only [State.succeed, kept, State.goodAt, at_, kind, modifyStation_exchangeOver station]
    rfl
  refine ⟨p, slot, ?_⟩
  rw [good, graded, State.deliverReport, modifyStation_exchanged]
  cases again : rep.flags.restarted <;> simp [State.delivered, Station.credited, again]

theorem succeed_probe (kind : x.kind = .probe) : s.succeed x rep =
    if 8 ≤ st.goodProbes + 1 then
      (s.exchanged x.room { st with lastError := 0, state := .active, health := 0, goodProbes := 0, readmit := false }
        s.port).leaveSafe x.room
    else s.exchanged x.room { st with lastError := 0, goodProbes := st.goodProbes + 1 } s.port := by
  have at_ : (({ s with loop := { s.loop with exchange := none } } : State).room x.room).station = some st := station
  simp only [State.succeed, kept, State.goodAt, at_, kind, modifyStation_exchangeOver station, State.stationReturns,
    modifyStation_exchanged]
  rfl

end Succeed

/-! ## A station that returns -/

theorem RoomWork.leaveSafe (s : State) (r : RoomId) :
    RoomWork (s.modifyCtx r fun c => { c with safe := false }) (s.leaveSafe r) := by
  unfold State.leaveSafe
  split
  · exact (RoomWork.thawRoom ..).trans (.offerWork ..)
  · rename_i sound
    have same : s.modifyCtx r (fun c => { c with safe := false }) = s := by
      refine modifyRoom_same ?_
      have clear : (s.room r).ctx.safe = false := by simpa using sound
      rw [← clear]
    rw [same]
    exact .refl s

theorem SamePort.leaveSafe (s : State) (r : RoomId) : SamePort s (s.leaveSafe r) := by
  unfold State.leaveSafe
  split
  · have offered (t : State) : SamePort t (t.offerWork .safeChanged) := by
      unfold State.offerWork State.postWorkOnce
      split
      · split <;> exact .refl _
      · exact .mapAgendas ..
    exact ((SamePort.modifyCtx ..).trans (Quiet.thawRoom ..).port).trans (offered _)
  · exact .refl s

end Sys2Proof.Machine
end

section
/-! PROOFS. A good report delivered: what it leaves of the station, the estimator record, the partition group and the
service state (R110 to R116, R172, R173, R179, R181, R183). -/
namespace Sys2Proof.Machine

/-! ## The panel event -/

/-- A station's record after the panel event of a report (R179). -/
def Station.afterEvent (y : Station) (rep : Report) : Station :=
  { y with lastEvent := if rep.eventCode = 0 then y.lastEvent else some rep.eventNumber }

/-- The part with the panel event of a report noted in its room's station record. -/
def State.eventNoted (s : State) (r : RoomId) (y : Station) (rep : Report) : State :=
  s.modifyRoom r fun x => { x with station := some (y.afterEvent rep) }

section Event
variable {s : State} {r : RoomId} {rep : Report} {y : Station} (station : (s.room r).station = some y)
include station

theorem takeEvent_eq : s.takeEvent r rep = s.eventNoted r y rep ∨
    ∃ e, s.takeEvent r rep = (s.eventNoted r y rep).panelEvent r e := by
  by_cases again : rep.eventCode = 0 ∨ y.lastEvent = some rep.eventNumber
  · have same : y.afterEvent rep = y := by
      unfold Station.afterEvent
      split
      · rfl
      · rename_i event
        rw [← again.resolve_left event]
    have still : s.eventNoted r y rep = s := modifyRoom_same (by rw [same, ← station])
    exact .inl ((takeEvent_again station again).trans still.symm)
  · obtain ⟨event, new⟩ := not_or.1 again
    have noted : s.eventNoted r y rep = s.noting r y rep.eventNumber := by
      rw [State.eventNoted, State.noting, Station.afterEvent, if_neg event]
    rw [takeEvent_new station event new, noted]
    cases panelEventOf rep.eventCode with
    | none => exact .inl rfl
    | some e => exact .inr ⟨e, rfl⟩

theorem RoomWork.takeEvent : RoomWork (s.eventNoted r y rep) (s.takeEvent r rep) := by
  obtain noted | ⟨e, pressed⟩ := takeEvent_eq (rep := rep) station
  · rw [noted]; exact .refl _
  · rw [pressed]; exact .panelEvent ..

theorem Quiet.takeEvent : Quiet (s.eventNoted r y rep) (s.takeEvent r rep) := by
  obtain noted | ⟨e, pressed⟩ := takeEvent_eq (rep := rep) station
  · rw [noted]; exact .refl _
  · rw [pressed]; exact .panelEvent ..

theorem EstimatesKept.takeEvent : EstimatesKept (s.eventNoted r y rep) (s.takeEvent r rep) := by
  obtain noted | ⟨e, pressed⟩ := takeEvent_eq (rep := rep) station
  · rw [noted]; exact .refl _
  · rw [pressed]; exact .panelEvent ..

end Event

theorem room_eventNoted (s : State) (r q : RoomId) (y : Station) (rep : Report) : (s.eventNoted r y rep).room q =
    if q = r then { s.room r with station := some (y.afterEvent rep) } else s.room q :=
  room_modifyRoom s r q fun x => { x with station := some (y.afterEvent rep) }

theorem eventNoted_kept (s : State) (r q : RoomId) (y : Station) (rep : Report) :
    ((s.eventNoted r y rep).room q).cfg = (s.room q).cfg ∧ ((s.eventNoted r y rep).room q).ctx = (s.room q).ctx ∧
      ((s.eventNoted r y rep).room q).oce = (s.room q).oce := by
  rw [room_eventNoted]
  split
  · subst_vars; exact ⟨rfl, rfl, rfl⟩
  · exact ⟨rfl, rfl, rfl⟩

/-! ## The delivery -/

/-- The part once the estimator and the partition contact have taken a report. -/
def State.told (s : State) (r : RoomId) (rep : Report) : State :=
  (s.intake r rep).contactReported r rep.contactOpen

theorem RoomWork.told (s : State) (r : RoomId) (rep : Report) : RoomWork s (s.told r rep) :=
  (RoomWork.intake ..).trans (.contactReported ..)

theorem Quiet.told (s : State) (r : RoomId) (rep : Report) : Quiet s (s.told r rep) :=
  (Quiet.intake ..).trans (.contactReported ..)

/-- What the delivery of a report to `v` has made of it, as `t`: the station takes the panel event, the estimators and
groups are as estimator and contact have left them, and without a panel event so is the room's service. -/
structure Delivered (v t : State) (r : RoomId) (y : Station) (rep : Report) : Prop where
  loop : t.loop = v.loop
  slot : t.port.slot = v.port.slot
  slots : t.store.slots = v.store.slots
  cfg : ∀ q, (t.room q).cfg = (v.room q).cfg
  others : ∀ q, q ≠ r → (t.room q).station = (v.room q).station
  station : (t.room r).station = some (y.afterEvent rep)
  safe : (t.room r).ctx.safe = (v.room r).ctx.safe
  oce : ∀ q, (t.room q).oce = ((v.told r rep).room q).oce
  groups : t.groups = (v.told r rep).groups
  serves : rep.eventCode = 0 → ServeAlike (v.told r rep) t r

theorem Delivered.follows {v t u : State} {r : RoomId} {y : Station} {rep : Report} (h : Delivered v t r y rep)
    (f : Follows t u) : Delivered v u r y rep where
  loop := f.loop.trans h.loop
  slot := f.slot.trans h.slot
  slots := f.slots.trans h.slots
  cfg q := (f.rooms q).cfg.trans (h.cfg q)
  others q other := (f.rooms q).station.trans (h.others q other)
  station := (f.rooms r).station.trans h.station
  safe := (f.rooms r).safe.trans h.safe
  oce q := (f.rooms q).oce.trans (h.oce q)
  groups := f.groups.trans h.groups
  serves silent := by
    obtain ⟨service, gov⟩ := h.serves silent
    exact ⟨(f.rooms r).service.trans service, (f.rooms r).gov.trans gov⟩

theorem room_delivered (v : State) (r q : RoomId) (rep : Report) :
    ∃ bs, (v.delivered r rep).room q = { ((v.told r rep).takeEvent r rep).room q with blinds := bs } := by
  have moved : (v.delivered r rep).room q = if q = r then _ else ((v.told r rep).takeEvent r rep).room q :=
    room_modifyRoom ((v.told r rep).takeEvent r rep) r q fun x =>
      { x with blinds := x.blinds.mapIdx fun b y => reportBlind x.cfg rep b y }
  rw [moved]
  split
  · subst_vars; exact ⟨_, rfl⟩
  · exact ⟨_, rfl⟩

theorem delivered {v : State} {r : RoomId} {y : Station} (station : (v.room r).station = some y) (rep : Report) :
    Delivered v (v.delivered r rep) r y rep := by
  let w := v.told r rep
  have work := RoomWork.told v r rep
  have at_ : (w.room r).station = some y := (work.station r).trans station
  have event := RoomWork.takeEvent (rep := rep) at_
  have kept := EstimatesKept.takeEvent (rep := rep) at_
  have port : (w.takeEvent r rep).port = v.port :=
    (Quiet.takeEvent (rep := rep) at_).port.trans (Quiet.told v r rep).port
  have noted := eventNoted_kept w r (y := y) (rep := rep)
  refine ⟨event.loop.trans work.loop, congrArg Port.slot port, congrArg Store.slots (event.store.trans work.store),
    fun q => ?_, fun q other => ?_, ?_, ?_, fun q => ?_, kept.groups, fun silent => ?_⟩
  · obtain ⟨bs, same⟩ := room_delivered v r q rep
    obtain ⟨cfg, -, -⟩ := noted q
    rw [same]
    exact ((event.cfg q).trans cfg).trans (work.cfg q)
  · obtain ⟨bs, same⟩ := room_delivered v r q rep
    have station : ((w.eventNoted r y rep).room q).station = (w.room q).station := by
      rw [room_eventNoted, if_neg other]
    rw [same]
    exact ((event.station q).trans station).trans (work.station q)
  · obtain ⟨bs, same⟩ := room_delivered v r r rep
    have station : ((w.eventNoted r y rep).room r).station = some (y.afterEvent rep) := by
      rw [room_eventNoted, if_pos rfl]
    rw [same]
    exact (event.station r).trans station
  · obtain ⟨bs, same⟩ := room_delivered v r r rep
    obtain ⟨-, ctx, -⟩ := noted r
    rw [same]
    exact ((event.safe r).trans (congrArg Context.safe ctx)).trans (work.safe r)
  · obtain ⟨bs, same⟩ := room_delivered v r q rep
    obtain ⟨-, -, oce⟩ := noted q
    rw [same]
    exact (kept.oce q).trans oce
  · obtain ⟨bs, same⟩ := room_delivered v r r rep
    rw [ServeAlike, same, takeEvent_again at_ (.inl silent)]
    exact ⟨rfl, rfl⟩

/-! ## What the estimator has made of it -/

/-- What a report leaves in an estimator record beside its estimate (R111, R112, R114). -/
theorem after_senses {o n : Estimator} {counting : Bool} {rep : Report} {e : Estimate}
    (h : n.senses = (o.after counting rep e).senses) :
    n.age = some 0 ∧ n.flags = rep.flags ∧ n.motion = min rep.motion 15 ∧ n.cal = o.cal ∧
      n.co2 = (if rep.co2 = 65535 ∨ rep.flags.co2Fault = true then o.co2.lost
        else ⟨calibrate 5000 rep.co2 o.cal.co2Gain o.cal.co2Offset, true⟩) ∧
      n.lux = (if rep.lux = 65535 ∨ rep.flags.luxFault = true then o.lux.lost
        else ⟨calibrate 20000 rep.lux o.cal.luxGain o.cal.luxOffset, true⟩) ∧
      n.temp = (if rep.temp = -32768 then o.temp.lost
        else ⟨clampInt (-200) 600 (clampInt (-200) 600 rep.temp + o.cal.tempOffset), true⟩) ∧
      n.theta = (if rep.theta = 255 then o.theta.lost else ⟨(min rep.theta 100 : Nat), true⟩) ∧
      n.entriesBase = (if doorsCounted counting rep then some rep.entries else none) ∧
      n.exitsBase = (if doorsCounted counting rep then some rep.exits else none) := by
  rw [Estimator.after, rebase_eq] at h
  have cal := congrArg Estimator.cal h
  exact ⟨congrArg Estimator.age h, congrArg Estimator.flags h, congrArg Estimator.motion h, cal,
    congrArg Estimator.co2 h, congrArg Estimator.lux h, congrArg Estimator.temp h,
    (congrArg Estimator.theta h).trans (by simp [Estimator.senses, Estimator.sense]),
    congrArg Estimator.entriesBase h, congrArg Estimator.exitsBase h⟩

section Told
variable {v : State} {r : RoomId} {rep : Report} (on : (v.room r).cfg.enabled = true)
  (sound : (v.room r).ctx.safe = false)
include on sound

theorem senses_told : ((v.told r rep).room r).oce.senses = (v.oceAfter r rep).senses :=
  ((SensesKept.contactReported ..).senses r).trans (senses_intake on sound)

/-- In a room of no partition group the contact moves nothing. -/
theorem told_of_alone (alone : v.groupOf r = none) : v.told r rep =
    (v.modifyOce r fun _ => v.oceAfter r rep).presenceMoved r (v.room r).oce.est.presence
      (v.oceAfter r rep).est.presence := by
  have intake := intake_of_unmerged (rep := rep) on sound (mergedOf_of_alone alone)
  have still : (v.intake r rep).groupOf r = none := by
    rw [intake, groupOf_congr (EstimatesKept.presenceMoved ..).groups]
    exact alone
  rw [State.told, contactReported_of_alone still, intake]

theorem oce_told_of_alone (alone : v.groupOf r = none) : ((v.told r rep).room r).oce = v.oceAfter r rep := by
  rw [told_of_alone on sound alone, (EstimatesKept.presenceMoved ..).oce, oce_modifyOce]

/-- In a MERGED group whose contact reads what it read, the group's estimate moves alone (R98). -/
theorem groups_told_of_merged {g : GroupId} {p : PartGroup} (merged : v.mergedOf r = some (g, p))
    (same : ∀ k, p.contactOf r = some k → k.reading = if rep.contactOpen then .opened else .closed) :
    (v.told r rep).groups.get g = some { p with shared := v.observing r rep p.shared } := by
  obtain ⟨own, record⟩ := mergedOf_eq_some merged
  have intake := intake_of_merged (rep := rep) on sound merged
  have member : (v.intake r rep).groupOf r = some (g, { p with shared := v.observing r rep p.shared }) := by
    rw [groupOf_congr intake]
    exact groupOf_modifyGroup own fun _ => rfl
  rw [State.told, contactReported_of_same member same, intake]
  show (v.groups.modify g _).get g = _
  rw [Table.get_modify_self, record]
  rfl

end Told

end Sys2Proof.Machine
end

section
/-! PROOFS. REPORT_RECEIVED with a good reply, by the kind of its exchange (R78, R82, R83, R110 to R116, R172, R173,
R179, R181, R183). -/
namespace Sys2Proof.Machine

/-! ## The exchange is over -/

/-- The exchange is over, and no other room's station or record has changed. -/
structure ExchangeOver (s t : State) (r : RoomId) : Prop where
  loop : t.loop = { s.loop with exchange := none }
  slot : t.port.slot = s.port.slot
  slots : t.store.slots = s.store.slots
  others : ∀ q, q ≠ r → (t.room q).station = (s.room q).station ∧ (t.room q).cfg = (s.room q).cfg

section Over
variable {s t u : State} {r : RoomId}

theorem ExchangeOver.exchanged {p : Port} (slot : p.slot = s.port.slot) (st : Station) :
    ExchangeOver s (s.exchanged r st p) r :=
  ⟨rfl, slot, rfl, fun q other => by rw [room_exchanged_other other]; exact ⟨rfl, rfl⟩⟩

theorem ExchangeOver.follows (h : ExchangeOver s t r) (f : Follows t u) : ExchangeOver s u r where
  loop := f.loop.trans h.loop
  slot := f.slot.trans h.slot
  slots := f.slots.trans h.slots
  others q other := by
    obtain ⟨station, cfg⟩ := h.others q other
    exact ⟨(f.rooms q).station.trans station, (f.rooms q).cfg.trans cfg⟩

theorem ExchangeOver.delivered {y : Station} {rep : Report} (h : ExchangeOver s t r) (d : Delivered t u r y rep) :
    ExchangeOver s u r where
  loop := d.loop.trans h.loop
  slot := d.slot.trans h.slot
  slots := d.slots.trans h.slots
  others q other := by
    obtain ⟨station, cfg⟩ := h.others q other
    exact ⟨(d.others q other).trans station, (d.cfg q).trans cfg⟩

theorem ExchangeOver.leaveSafe (h : ExchangeOver s t r) : ExchangeOver s (t.leaveSafe r) r := by
  have work := RoomWork.leaveSafe t r
  refine ⟨work.loop.trans h.loop, (congrArg Port.slot (SamePort.leaveSafe t r)).trans h.slot,
    (congrArg Store.slots work.store).trans h.slots, fun q other => ?_⟩
  have same : (t.modifyCtx r fun c => { c with safe := false }).room q = t.room q := room_modifyRoom_other _ _ other
  have station := work.station q
  have cfg := work.cfg q
  rw [same] at station cfg
  rw [station, cfg]
  exact h.others q other

theorem replyReceived_good {x : Exchange} {reply : Reply} {rep : Report} (exchange : s.loop.exchange = some x)
    (judged : judge x.address reply = .ok rep) : s.replyReceived reply = (s.succeed x rep).finish s := by
  simp only [State.replyReceived, exchange, judged]

end Over

/-! ## Probes -/

section Probe
variable {s : State} {x : Exchange} {rep : Report} {st : Station} (kept : x.orphan = false)
  (station : (s.room x.room).station = some st) (kind : x.kind = .probe)
include kept station kind

/-- A good probe before the eighth in a row is counted (R183). -/
theorem probe_counted (few : st.goodProbes < 7) :
    let t := (s.succeed x rep).finish s
    ExchangeOver s t x.room ∧
      (t.room x.room).station = some { st with lastError := 0, goodProbes := st.goodProbes + 1 } ∧
      (t.room x.room).ctx.safe = (s.room x.room).ctx.safe ∧ (t.room x.room).oce = (s.room x.room).oce := by
  rw [succeed_probe kept station kind, if_neg (by omega)]
  have follows :=
    Follows.finish (s.exchanged x.room { st with lastError := 0, goodProbes := st.goodProbes + 1 } s.port) s
  have room := follows.rooms x.room
  rw [room_exchanged_self] at room
  exact ⟨(ExchangeOver.exchanged rfl _).follows follows, room.station, room.safe, room.oce⟩

/-- The eighth good probe in a row readmits the station (R183). -/
theorem probe_readmits (many : 7 ≤ st.goodProbes) :
    let t := (s.succeed x rep).finish s
    ExchangeOver s t x.room ∧
      (t.room x.room).station =
        some { st with lastError := 0, state := .active, health := 0, goodProbes := 0, readmit := false } ∧
      (t.room x.room).ctx.safe = false := by
  rw [succeed_probe kept station kind, if_pos (by omega)]
  let y : Station := { st with lastError := 0, state := .active, health := 0, goodProbes := 0, readmit := false }
  let u := s.exchanged x.room y s.port
  have follows := Follows.finish (u.leaveSafe x.room) s
  have work := RoomWork.leaveSafe u x.room
  have at_ : ((u.modifyCtx x.room fun c => { c with safe := false }).room x.room).station = some y := by
    rw [State.modifyCtx, room_modifyRoom_self, room_exchanged_self]
  obtain ⟨-, -, -, sound⟩ := room_leaveSafe u x.room
  exact ⟨(ExchangeOver.exchanged rfl y).leaveSafe.follows follows,
    (follows.rooms x.room).station.trans ((work.station x.room).trans at_), (follows.rooms x.room).safe.trans sound⟩

end Probe

/-! ## Reports -/

section Setpoint
variable {s : State} {r : RoomId} {rep : Report}

/-- Outside a MERGED group an estimate is judged by the room's own limit and times (R109, R116, R118). -/
theorem observing_of_unmerged (alone : s.mergedOf r = none) (e : Estimate) : s.observing r rep e =
    (s.room r).oce.observed (s.room r).cfg.doorCounting rep s.oceNow e ((s.room r).cfg.seats * 5 / 4)
      { confirm := (s.room r).cfg.confirmTime, quiet := (s.room r).cfg.quietTime,
        still := (s.govProfile r).still } := by
  have limit : s.tallyLimit r = (s.room r).cfg.seats * 5 / 4 := by rw [State.tallyLimit, alone]; rfl
  have times : s.presenceTimes r = { confirm := (s.room r).cfg.confirmTime, quiet := (s.room r).cfg.quietTime,
                                     still := (s.govProfile r).still } := by
    simp only [State.presenceTimes, trimRooms_of_unmerged alone, State.maxOver, List.foldl_cons, List.foldl_nil,
      Nat.zero_max]
  rw [State.observing, limit, times]

theorem observing_of_merged {g : GroupId} {p : PartGroup} (merged : s.mergedOf r = some (g, p)) (e : Estimate) :
    s.observing r rep e = (s.room r).oce.observed (s.room r).cfg.doorCounting rep s.oceNow e
      ((p.members.map fun m => (s.room m).cfg.seats * 5 / 4).sum) (s.presenceTimes r) := by
  have limit : s.tallyLimit r = (p.members.map fun m => (s.room m).cfg.seats * 5 / 4).sum := by
    rw [State.tallyLimit, merged]; rfl
  rw [State.observing, limit]

theorem serveAlike_modifyOce {t : State} (ctx : (t.room r).ctx = (s.room r).ctx)
    (agenda : (t.room r).agenda = (s.room r).agenda) (closed : t.closed r = s.closed r) (n : Estimator)
    (was now : Presence) : ServeAlike ((s.modifyOce r fun _ => n).presenceMoved r was now)
      ((t.modifyOce r fun _ => n).presenceMoved r was now) r := by
  have room (u : State) : (u.modifyOce r fun _ => n).room r = { u.room r with oce := n } := room_modifyRoom_self ..
  have same (u : State) : (u.modifyOce r fun _ => n).closed r = u.closed r := by
    rw [State.closed, State.closed, room]; rfl
  refine presenceMoved_congr ?_ ?_ ?_ was now
  · rw [room, room]; exact ctx
  · rw [room, room]; exact agenda
  · rw [same, same]; exact closed

/-! ### A report delivered after its exchange -/

section Estimated
variable {t : State} {y : Station} {p : Port} (d : Delivered (s.exchanged r y p) t r y rep)
  (on : (s.room r).cfg.enabled = true) (sound : (s.room r).ctx.safe = false)
include d on sound

theorem senses_delivered : (t.room r).oce.senses = (s.oceAfter r rep).senses := by
  rw [d.oce, ← oceAfter_exchanged (st := y) (p := p)]
  exact senses_told (by rw [cfg_exchanged]; exact on) (by rw [ctx_exchanged]; exact sound)

/-- In a room of no partition group the report moves the room's own estimate, and its service state by the change of
presence (R73, R116). -/
theorem alone_delivered (alone : s.groupOf r = none) : (t.room r).oce = s.oceAfter r rep ∧
    (rep.eventCode = 0 → ServeAlike ((s.modifyOce r fun _ => s.oceAfter r rep).presenceMoved r
      (s.room r).oce.est.presence (s.oceAfter r rep).est.presence) t r) := by
  have on : ((s.exchanged r y p).room r).cfg.enabled = true := by rw [cfg_exchanged]; exact on
  have sound : ((s.exchanged r y p).room r).ctx.safe = false := by rw [ctx_exchanged]; exact sound
  refine ⟨?_, fun silent => ?_⟩
  · rw [d.oce, oce_told_of_alone on sound alone, oceAfter_exchanged]
  · have told := told_of_alone (rep := rep) on sound alone
    rw [oceAfter_exchanged, oce_exchanged] at told
    obtain ⟨service, gov⟩ := d.serves silent
    obtain ⟨moved, governed⟩ := serveAlike_modifyOce (ctx_exchanged (st := y) (p := p) r)
      (agenda_exchanged r) (closed_exchanged r) (s.oceAfter r rep) (s.room r).oce.est.presence
      (s.oceAfter r rep).est.presence
    rw [told] at service gov
    exact ⟨service.trans moved, gov.trans governed⟩

/-- In a MERGED group the report moves the group's estimate (R98). -/
theorem merged_delivered {g : GroupId} {q : PartGroup} (merged : s.mergedOf r = some (g, q))
    (same : ∀ k, q.contactOf r = some k → k.reading = if rep.contactOpen then .opened else .closed) :
    t.groups.get g = some { q with shared := s.observing r rep q.shared } := by
  rw [d.groups, groups_told_of_merged (v := s.exchanged r y p) (by rw [cfg_exchanged]; exact on)
    (by rw [ctx_exchanged]; exact sound) merged same, observing_exchanged]

end Estimated
end Setpoint

/-- A good report after a SETPOINT exchange is delivered to the part whose station has been credited (R173, R181). -/
theorem setpoint_delivered {s : State} {x : Exchange} {rep : Report} {st : Station} (kept : x.orphan = false)
    (station : (s.room x.room).station = some st) (kind : x.kind = .setpoint) : ∃ p : Port, p.slot = s.port.slot ∧
      Delivered (s.exchanged x.room (st.credited rep) p) ((s.succeed x rep).finish s) x.room (st.credited rep) rep := by
  obtain ⟨p, slot, succeeded⟩ := succeed_setpoint (rep := rep) kept station kind
  refine ⟨p, slot, ?_⟩
  rw [succeeded]
  exact (delivered (by rw [room_exchanged_self]) rep).follows (.finish ..)

/-- Settles O52: a good report by the kind of its exchange; the panel events by what each of them presses. -/
theorem goodReportDelivered : Obligations.GoodReportDelivered := by
  refine ⟨fun s x reply rep st exchange kept judged station => ?_, fun s r rep st station => ⟨takeEvent_again station,
    fun event new => ⟨fun e named => ?_, fun unnamed => ?_⟩⟩, ⟨rfl, fun n => panelEventOf_above⟩,
    fun s r b => ⟨pressed nofun rfl, pressed nofun rfl, pulled nofun rfl, pulled nofun rfl⟩⟩
  · refine ⟨_, congrArg Host.Outcome.next (replyReceived_good exchange judged), ?_⟩
    cases kind : x.kind with
    | setpoint =>
      obtain ⟨p, slot, d⟩ := setpoint_delivered (rep := rep) kept station kind
      obtain ⟨loop, slot, slots, others⟩ := (ExchangeOver.exchanged slot (st.credited rep)).delivered d
      refine ⟨loop, slot, slots, others, fun _ =>
        ⟨_, d.station, rfl, rfl, rfl, rfl, rfl, rfl, rfl, ?_, fun on sound => ?_⟩,
        nofun, nofun⟩
      · rw [d.safe, ctx_exchanged]
      · obtain ⟨age, flags, motion, cal, co2, lux, temp, theta, entriesBase, exitsBase⟩ :=
          after_senses (senses_delivered d on sound)
        refine ⟨age, flags, motion, cal, co2, lux, temp, theta, entriesBase, exitsBase, fun alone => ?_,
          fun g q merged same => ?_⟩
        · obtain ⟨oce, serves⟩ := alone_delivered d on sound alone
          refine ⟨?_, fun silent => ?_⟩
          · rw [oce]
            exact observing_of_unmerged (mergedOf_of_alone alone) _
          · rw [oce]; exact serves silent
        · rw [merged_delivered d on sound merged same, observing_of_merged merged]
          rfl
    | probe =>
      by_cases few : st.goodProbes < 7
      · obtain ⟨⟨loop, slot, slots, others⟩, counted⟩ := probe_counted (rep := rep) kept station kind few
        exact ⟨loop, slot, slots, others, nofun, fun _ _ => counted, fun _ many => absurd few (Nat.not_lt_of_le many)⟩
      · obtain ⟨⟨loop, slot, slots, others⟩, readmitted⟩ :=
          probe_readmits (rep := rep) kept station kind (Nat.le_of_not_lt few)
        exact ⟨loop, slot, slots, others, nofun, fun _ less => absurd less few, fun _ _ => readmitted⟩
  · rw [takeEvent_new station event new, named]; rfl
  · rw [takeEvent_new station event new, unnamed]; rfl

end Sys2Proof.Machine
end

section
/-! PROOFS. A report at an estimate: how it moves tally and presence (R115, R116, R118, R119). -/
namespace Sys2Proof.Machine

theorem tally_observe {e : Estimate} {limit : Nat} {times : PresenceTimes} {motion entries exits t : Nat} :
    (e.observe limit times motion entries exits t).tally = min limit (e.tally + entries - exits) := by
  unfold Estimate.observe; dsimp only
  repeat' split
  all_goals rfl

section Observed
variable {e x : Estimate} {limit : Nat} {times : PresenceTimes} {motion entries exits t : Nat}
  (observed : x = e.observe limit times motion entries exits t)
include observed

/-- Evidence makes an EMPTY estimate SENSED, and PRESENT at once from a tally of 3 (R116). -/
theorem observed_empty (presence : e.presence = .empty) : x =
    if 0 < motion ∨ 0 < entries ∨ 0 < x.tally then
      if 3 ≤ x.tally then { e.become .present with tally := x.tally }
      else { e.become .sensed with tally := x.tally, sensedSince := some t, lastEvidence := some t }
    else { e with tally := x.tally } := by
  subst observed
  rw [tally_observe]
  simp only [Estimate.observe, presence, ← Bool.decide_or, Bool.not_eq_true', decide_eq_false_iff_not, ite_not,
    or_assoc]
  rfl

/-- Evidence makes a SENSED estimate PRESENT from a tally of 3, or when the confirm time has passed (R116). -/
theorem observed_sensed {since : Nat} (presence : e.presence = .sensed) (sensed : e.sensedSince = some since) : x =
    if 0 < motion ∨ 0 < entries ∨ 0 < x.tally then
      if 3 ≤ x.tally ∨ times.confirm ≤ t - since then { e.become .present with tally := x.tally }
      else { e with tally := x.tally, lastEvidence := some t }
    else { e with tally := x.tally } := by
  subst observed
  rw [tally_observe]
  simp only [Estimate.observe, presence, sensed, ← Bool.decide_or, Bool.not_eq_true', decide_eq_false_iff_not,
    decide_eq_true_eq, ite_not, or_assoc]
  rfl

/-- A PRESENT estimate without movement becomes QUIET, for the longer time while its tally counts someone (R118). -/
theorem observed_present (presence : e.presence = .present) : x =
    if 0 < motion ∨ 0 < entries then { e with tally := x.tally }
    else { e.become .quiet with tally := x.tally,
                                quiet := some (if x.tally = 0 then times.quiet else times.still * 60) } := by
  subst observed
  rw [tally_observe]
  simp only [Estimate.observe, presence, ← Bool.decide_or, decide_eq_true_eq]
  rfl

/-- Movement makes a QUIET estimate PRESENT; a tally that falls to 0 cuts its time to the quiet time (R118, R119). -/
theorem observed_quiet (presence : e.presence = .quiet) : x =
    if 0 < motion ∨ 0 < entries then { e.become .present with tally := x.tally }
    else if 0 < e.tally ∧ x.tally = 0 then
      { e with tally := x.tally, quiet := e.quiet.map fun q => min q times.quiet }
    else { e with tally := x.tally } := by
  subst observed
  rw [tally_observe]
  simp only [Estimate.observe, presence, ← Bool.decide_or, ← Bool.decide_and, decide_eq_true_eq]
  rfl

end Observed

end Sys2Proof.Machine
end

section
/-! PROOFS. The timers of presence and of partition contacts, the state that a group's contacts call for, and what its
evaluation makes of the group (R95, R96, R97, R117, R118). -/
namespace Sys2Proof.Machine

/-! ## The group of a room -/

section Group
variable {s : State} {r : RoomId} {g : GroupId} {p : PartGroup}

theorem groups_of_groupOf (member : s.groupOf r = some (g, p)) : s.groups.get g = some p := by
  obtain ⟨k, -, found⟩ := List.exists_of_findSome?_eq_some member
  split at found
  · split at found
    · cases found; assumption
    · cases found
  · cases found

theorem mergedOf_eq_some_iff : s.mergedOf r = some (g, p) ↔ s.groupOf r = some (g, p) ∧ p.state = .merged := by
  unfold State.mergedOf
  split
  · rename_i k q own
    rw [own]
    split
    · rename_i merged
      exact ⟨fun same => by cases same; exact ⟨rfl, merged⟩, fun ⟨same, _⟩ => same⟩
    · rename_i unmerged
      exact ⟨nofun, fun ⟨same, merged⟩ => by cases same; exact absurd merged unmerged⟩
  · rename_i alone
    rw [alone]
    exact ⟨nofun, nofun⟩

theorem mergedOf_of_unmerged (member : s.groupOf r = some (g, p)) (unmerged : p.state ≠ .merged) :
    s.mergedOf r = none := by
  rw [State.mergedOf, member]
  exact if_neg unmerged

theorem modifyGroup_of_some (record : s.groups.get g = some p) (f : PartGroup → PartGroup) :
    s.modifyGroup g f = { s with groups := s.groups.set g (some (f p)) } := by
  rw [State.modifyGroup, Table.modify, record]; rfl

end Group

/-! ## The end of a presence timer -/

section Expiry
variable {s : State} {r : RoomId}

theorem EstimatesKept.estimate {t : State} (h : EstimatesKept s t) (r : RoomId) : t.estimate r = s.estimate r := by
  rw [State.estimate, State.estimate, mergedOf_congr h.groups, h.oce]

theorem Follows.estimatesKept {t : State} (h : Follows s t) : EstimatesKept s t := ⟨h.groups, fun r => (h.rooms r).oce⟩

theorem estimate_modifyEstimate (f : Estimate → Estimate) :
    (s.modifyEstimate r f).estimate r = f (s.estimate r) := by
  cases merged : s.mergedOf r with
  | none =>
    have still : (s.modifyOce r fun o => { o with est := f o.est }).mergedOf r = none := merged
    rw [modifyEstimate_of_unmerged merged, State.estimate, still, State.estimate, merged]
    exact congrArg Estimator.est (oce_modifyOce _)
  | some q =>
    obtain ⟨g, p⟩ := q
    obtain ⟨member, state⟩ := mergedOf_eq_some_iff.1 merged
    have still : (s.modifyGroup g fun p => { p with shared := f p.shared }).mergedOf r =
        some (g, { p with shared := f p.shared }) :=
      mergedOf_eq_some_iff.2 ⟨groupOf_modifyGroup member fun _ => rfl, state⟩
    rw [modifyEstimate_of_merged merged, State.estimate, still, State.estimate, merged]

/-- A timer of presence that ends changes the estimate that its room is read by, and the service machine is told. -/
theorem presence_timer_ended (f : Estimate → Estimate) (was : Presence) :
    let t := ((s.modifyEstimate r f).tellPresence r was).finish s
    Settles s t ∧ t.port.slot = s.port.slot ∧ (∀ q, (t.room q).agenda = (s.room q).agenda) ∧
      t.estimate r = f (s.estimate r) := by
  intro t
  have work : RoomWork s ((s.modifyEstimate r f).tellPresence r was) :=
    (RoomWork.modifyEstimate ..).trans (.tellPresence ..)
  have quiet : Quiet s ((s.modifyEstimate r f).tellPresence r was) :=
    (Quiet.modifyEstimate ..).trans (.tellPresence ..)
  have follows : Follows _ t := Follows.finish ..
  refine ⟨⟨_, work, follows⟩, by rw [follows.slot, quiet.port], fun q => (follows.agenda q).trans (quiet.agenda q), ?_⟩
  rw [follows.estimatesKept.estimate, (EstimatesKept.tellPresence ..).estimate, estimate_modifyEstimate]

theorem absenceEvent_of_due (on : (s.room r).cfg.enabled = true)
    (due : (s.estimate r).absenceDue s.oceNow = true) :
    s.absenceEvent r = ((s.modifyEstimate r fun e => e.absent s.oceNow).tellPresence r .sensed).finish s := by
  simp [State.absenceEvent, State.absenceExpiry, on, due]

theorem quietEvent_of_due (on : (s.room r).cfg.enabled = true) (due : (s.estimate r).quietDue = true) :
    s.quietEvent r =
      ((s.modifyEstimate r fun e => { e.become .empty with tally := 0 }).tellPresence r .quiet).finish s := by
  simp [State.quietEvent, State.quietExpiry, on, due]

end Expiry

/-! ## The state of a group -/

section State
variable (s : State) (p : PartGroup)

theorem all_settledAs_iff (v : Reading) : p.others.all (fun o => o.2.settledAs v) = true ↔
    ∀ o ∈ p.others, o.2.settled = true ∧ o.2.reading = v :=
  List.all_eq_true.trans (forall₂_congr fun o _ => by simp [Contact.settledAs])

theorem groupStateOf_merged_iff : s.groupStateOf p = .merged ↔
    (∀ o ∈ p.others, o.2.settled = true ∧ o.2.reading = .opened) ∧ ∀ m ∈ p.members, s.inOpenRange m = true := by
  rw [← all_settledAs_iff, ← List.all_eq_true, ← Bool.and_eq_true, State.groupStateOf]
  split
  · exact iff_of_true rfl ‹_›
  · exact iff_of_false (by split <;> nofun) ‹_›

theorem groupStateOf_split_iff : s.groupStateOf p = .split ↔
    s.groupStateOf p ≠ .merged ∧ ∀ o ∈ p.others, o.2.settled = true ∧ o.2.reading = .closed := by
  rw [← all_settledAs_iff, State.groupStateOf]
  split
  · exact iff_of_false nofun fun h => h.1 rfl
  · split
    · exact iff_of_true rfl ⟨nofun, ‹_›⟩
    · exact iff_of_false nofun fun h => ‹¬ _› h.2

end State

/-! ## A merge as one change -/

/-- Every member of a group changed. -/
def State.mapMembers (s : State) (p : PartGroup) (f : Room → Room) : State :=
  s.mapRooms fun m x => if m ∈ p.members then f x else x

theorem room_mapMembers (s : State) (p : PartGroup) (f : Room → Room) (m : RoomId) :
    (s.mapMembers p f).room m = if m ∈ p.members then f (s.room m) else s.room m := room_mapRooms ..

theorem foldl_members {f : Room → Room} (hf : ∀ x, f (f x) = f x) (s : State) (p : PartGroup) :
    p.members.foldl (fun t m => t.modifyRoom m f) s = s.mapMembers p f :=
  foldl_modifyRoom (f := fun _ => f) (fun _ => hf) ..

theorem governor_congr {s t : State} (service : ∀ q, (t.room q).ctx.service = (s.room q).ctx.service)
    (p : PartGroup) : t.governor p = s.governor p := by
  simp only [State.governor, service]

/-- The members told of the group's presence, each as a change from its own: what a merge begins with (R97). -/
def State.toldOfMerge (s : State) (p : PartGroup) : State :=
  p.members.foldl (fun t m => t.presenceMoved m (s.room m).oce.est.presence (s.combined p).presence) s

/-- A room whose own estimate is given up for its group's, but for the freeze (R97). -/
def Room.unestimated (x : Room) : Room :=
  { x with oce := { x.oce with est := { Estimate.reset with frozenAt := x.oce.est.frozenAt } } }

/-- A room with its group's trim (R101). -/
def Room.withTrim (x : Room) (trim : Int) : Room := { x with ctx := { x.ctx with trim := trim } }

section Merged
variable (s : State) (g : GroupId) (p : PartGroup)

theorem EstimatesKept.toldOfMerge : EstimatesKept s (s.toldOfMerge p) := .foldl (fun t m => .presenceMoved t m _ _) ..

/-- The trim that a merge hands to every member: the governing member's, once the members are told (R97, R101). -/
def State.trimOfMerge : Int := ((s.toldOfMerge p).room ((s.toldOfMerge p).governor p)).ctx.trim

/-- Once the members are told, a merge changes their estimates and trims, and the group's own record. -/
theorem merge_eq : s.merge g p =
    (((s.toldOfMerge p).mapMembers p Room.unestimated).mapMembers p fun x => x.withTrim (s.trimOfMerge p)).modifyGroup g
      fun q => { q with state := .merged, shared := s.combined p } := by
  have told : (p.members.map fun m => (m, (s.room m).oce.est.presence)).foldl
      (fun t w => t.presenceMoved w.1 w.2 (s.combined p).presence) s = s.toldOfMerge p := List.foldl_map ..
  have unestimated (t : State) : (p.members.foldl (fun t m => t.modifyOce m fun o =>
      { o with est := { Estimate.reset with frozenAt := o.est.frozenAt } }) t) = t.mapMembers p Room.unestimated :=
    foldl_members (f := Room.unestimated) (fun _ => rfl) ..
  have trimmed (i : Int) (t : State) : p.members.foldl (fun t m => t.modifyCtx m fun c => { c with trim := i }) t =
      t.mapMembers p fun x => x.withTrim i := foldl_members (f := fun x => x.withTrim i) (fun _ => rfl) ..
  have ctx (m : RoomId) : (((s.toldOfMerge p).mapMembers p Room.unestimated).room m).ctx =
      ((s.toldOfMerge p).room m).ctx := by
    rw [room_mapMembers]; split <;> rfl
  simp only [State.merge, State.trimOfMerge, told, unestimated, trimmed, ctx,
    governor_congr fun q => congrArg Context.service (ctx q)]

/-- A member after a merge is as it was once told, but for its estimate and its trim. -/
theorem room_merge (m : RoomId) : (s.merge g p).room m =
    if m ∈ p.members then ((s.toldOfMerge p).room m).unestimated.withTrim (s.trimOfMerge p)
    else (s.toldOfMerge p).room m := by
  have room : (s.merge g p).room m = (((s.toldOfMerge p).mapMembers p Room.unestimated).mapMembers p fun x =>
      x.withTrim (s.trimOfMerge p)).room m := by
    rw [merge_eq]; rfl
  rw [room, room_mapMembers, room_mapMembers]
  split <;> rfl

theorem service_merge (m : RoomId) : ((s.merge g p).room m).ctx.service = ((s.toldOfMerge p).room m).ctx.service := by
  rw [room_merge]
  split <;> rfl

/-- A merge gives the group its state and the combined estimate, and touches no other group (R97). -/
theorem groups_merge : (s.merge g p).groups =
    (s.modifyGroup g fun q => { q with state := .merged, shared := s.combined p }).groups := by
  rw [merge_eq]
  exact congrArg (Table.modify · g _) (EstimatesKept.toldOfMerge s p).groups

end Merged

/-! ## The evaluation of a group -/

section Evaluated
variable {s : State} {g : GroupId} {p : PartGroup} (record : s.groups.get g = some p)
include record

theorem evaluateGroup_of_some : s.evaluateGroup g =
    if s.groupStateOf p = p.state then s
    else if s.groupStateOf p = .merged then s.merge g p
    else if p.state = .merged then s.split g p (s.groupStateOf p)
    else { s with groups := s.groups.set g (some { p with state := s.groupStateOf p }) } := by
  rw [State.evaluateGroup, record]
  dsimp only
  rw [modifyGroup_of_some record]

theorem evaluateGroup_merges (unmerged : p.state ≠ .merged) (merges : s.groupStateOf p = .merged) :
    s.evaluateGroup g = s.merge g p := by
  have moved : s.groupStateOf p ≠ p.state := fun same => unmerged (same.symm.trans merges)
  rw [evaluateGroup_of_some record, if_neg moved, if_pos merges]

/-- An evaluated group has the state that its contacts call for, and its members and contacts as they were; every other
group is as it was (R96). -/
theorem groups_evaluateGroup : ∃ shared, (s.evaluateGroup g).groups =
    s.groups.set g (some { p with state := s.groupStateOf p, shared := shared }) := by
  rw [evaluateGroup_of_some record]
  split
  · rename_i same
    refine ⟨p.shared, Table.ext_get fun k => ?_⟩
    rw [Table.get_set, same]
    split
    · subst_vars; exact record
    · rfl
  · split
    · rename_i merged
      exact ⟨_, by rw [groups_merge, modifyGroup_of_some record, merged]⟩
    · split
      · refine ⟨.reset, ?_⟩
        rw [split_eq]
        exact congrArg State.groups (modifyGroup_of_some (s := s.mapRooms _) record _)
      · exact ⟨p.shared, rfl⟩

end Evaluated

/-! ## Contacts -/

section Contacts
variable {s : State} {r : RoomId} {g : GroupId} {p : PartGroup} {c : Contact}

theorem contactReported_same {isOpen : Bool} (member : s.groupOf r = some (g, p)) (contact : p.contactOf r = some c)
    (same : c.reading = if isOpen then .opened else .closed) : s.contactReported r isOpen = s :=
  contactReported_of_same member fun k own => by rw [contact] at own; cases own; exact same

/-- A new value is unsettled for 10 s (R95). -/
theorem contactReported_new {isOpen : Bool} (member : s.groupOf r = some (g, p)) (contact : p.contactOf r = some c)
    (new : c.reading ≠ if isOpen then .opened else .closed) : s.contactReported r isOpen =
      (s.modifyGroup g fun p => p.modifyContact r fun _ =>
        { reading := if isOpen then .opened else .closed, settled := false, timer := some 10 }).evaluateGroup g := by
  have read : c.read (if isOpen then .opened else .closed) =
      { reading := if isOpen then .opened else .closed, settled := false, timer := some 10 } := if_neg new
  have moved : c.read (if isOpen then .opened else .closed) ≠ c := fun same => by
    rw [read] at same
    exact new (congrArg Contact.reading same).symm
  rw [read] at moved
  simp only [State.contactReported, member, contact, read, moved, if_false]

/-- The part with the contact of room `r`, whose group `g` has the record `p`, settled in what it reads (R95). -/
def State.contactSettled (s : State) (r : RoomId) (g : GroupId) (p : PartGroup) : State :=
  { s with groups := s.groups.set g (some (p.modifyContact r Contact.settle)) }

theorem contactSettled_eq (member : s.groupOf r = some (g, p)) :
    s.contactSettled r g p = s.modifyGroup g fun p => p.modifyContact r Contact.settle :=
  (modifyGroup_of_some (groups_of_groupOf member) fun p => p.modifyContact r Contact.settle).symm

theorem settleEvent_of_due (member : s.groupOf r = some (g, p)) (contact : p.contactOf r = some c)
    (due : c.timer = some 0) : s.settleEvent r = ((s.contactSettled r g p).evaluateGroup g).finish s := by
  have ready : c.settleDue = true := by rw [Contact.settleDue, due]; rfl
  have ended : s.settleDue r = true := by simp only [State.settleDue, member, contact, Option.any_some, ready]
  rw [State.settleEvent, if_pos ended, contactSettled_eq member]
  simp only [State.settleExpiry, member, contact, ready, if_true]

/-- A contact that has settled has its group evaluated, and a group that merges by it has nothing else done to it (R95,
R96). -/
theorem settle_timer_ended (member : s.groupOf r = some (g, p)) (contact : p.contactOf r = some c)
    (due : c.timer = some 0) :
    let x := p.modifyContact r Contact.settle
    ∃ t, exec (.settleTimerExpiry r) s = .next t ∧ Settles s t ∧ t.port.slot = s.port.slot ∧
      (∀ q, (t.room q).agenda = (s.room q).agenda) ∧ (∀ k, k ≠ g → t.groups.get k = s.groups.get k) ∧
      (t.groups.get g).map (fun x => (x.leader, x.others, x.state)) = some (x.leader, x.others, s.groupStateOf x) ∧
      (p.state ≠ .merged → s.groupStateOf x = .merged → Follows ((s.contactSettled r g p).merge g x) t) := by
  intro x
  have record : (s.contactSettled r g p).groups.get g = some x := Table.get_set_self ..
  have work : RoomWork s ((s.contactSettled r g p).evaluateGroup g) :=
    (contactSettled_eq member ▸ RoomWork.modifyGroup s g _).trans (.evaluateGroup ..)
  have quiet : Quiet s ((s.contactSettled r g p).evaluateGroup g) :=
    (contactSettled_eq member ▸ Quiet.modifyGroup s g _).trans (.evaluateGroup ..)
  have follows := Follows.finish ((s.contactSettled r g p).evaluateGroup g) s
  obtain ⟨shared, groups⟩ := groups_evaluateGroup record
  refine ⟨_, congrArg Host.Outcome.next (settleEvent_of_due member contact due), ⟨_, work, follows⟩,
    by rw [follows.slot, quiet.port], fun q => (follows.agenda q).trans (quiet.agenda q), fun k other => ?_, ?_,
    fun unmerged merges => ?_⟩
  · rw [follows.groups, groups, Table.get_set_other _ _ other]
    exact Table.get_set_other _ _ other
  · rw [follows.groups, groups, Table.get_set_self]
    rfl
  · rw [← evaluateGroup_merges record unmerged merges]
    exact follows

end Contacts
end Sys2Proof.Machine
end

section
/-! PROOFS. The combined estimate of a merge: tally, presence and the instants of the members whose presence it takes
(R97). -/
namespace Sys2Proof.Machine

/-! ## The first of several instants -/

/-- A choice between two instants, where they are there, that comes first in an order. -/
structure Picks (le : Nat → Nat → Prop) (pick : Option Nat → Option Nat → Option Nat) : Prop where
  refl : ∀ a, le a a
  trans : ∀ {a b c}, le a b → le b c → le a c
  chosen : ∀ {a b v}, pick a b = some v → a = some v ∨ b = some v
  first : ∀ {a b q}, a = some q ∨ b = some q → ∃ v, pick a b = some v ∧ le v q

theorem picks_minInstant : Picks (· ≤ ·) minInstant where
  refl := Nat.le_refl
  trans := Nat.le_trans
  chosen {a b v} h := by cases a <;> cases b <;> simp_all [minInstant]; omega
  first {a b q} h := by cases a <;> cases b <;> simp_all [minInstant]; omega

theorem picks_maxInstant : Picks (· ≥ ·) maxInstant where
  refl := Nat.le_refl
  trans x y := Nat.le_trans y x
  chosen {a b v} h := by cases a <;> cases b <;> simp_all [maxInstant]; omega
  first {a b q} h := by cases a <;> cases b <;> simp_all [maxInstant]; omega

section Picks
variable {le : Nat → Nat → Prop} {pick : Option Nat → Option Nat → Option Nat} (h : Picks le pick)
  (f : Estimate → Option Nat)
include h

/-- The instant chosen of a list of estimates is one of theirs. -/
theorem Picks.chosen_foldl {v : Nat} (l : List Estimate) (a : Option Nat)
    (picked : l.foldl (fun a e => pick a (f e)) a = some v) : a = some v ∨ ∃ e ∈ l, f e = some v := by
  induction l generalizing a with
  | nil => exact .inl picked
  | cons e l ih =>
    obtain before | ⟨x, hx, after⟩ := ih _ picked
    · obtain start | own := h.chosen before
      · exact .inl start
      · exact .inr ⟨e, List.mem_cons_self, own⟩
    · exact .inr ⟨x, List.mem_cons_of_mem _ hx, after⟩

/-- None of their instants comes before the one chosen. -/
theorem Picks.first_foldl {q : Nat} (l : List Estimate) (a : Option Nat)
    (there : a = some q ∨ ∃ e ∈ l, f e = some q) : ∃ v, l.foldl (fun a e => pick a (f e)) a = some v ∧ le v q := by
  induction l generalizing a q with
  | nil => exact ⟨q, there.resolve_right (by simp), h.refl q⟩
  | cons e l ih =>
    rw [List.foldl_cons]
    have head (own : a = some q ∨ f e = some q) :
        ∃ v, l.foldl (fun a e => pick a (f e)) (pick a (f e)) = some v ∧ le v q := by
      obtain ⟨u, took, before⟩ := h.first own
      obtain ⟨v, found, earlier⟩ := ih _ (.inl took)
      exact ⟨v, found, h.trans earlier before⟩
    obtain start | ⟨x, hx, own⟩ := there
    · exact head (.inl start)
    · obtain rfl | later := List.mem_cons.1 hx
      · exact head (.inr own)
      · exact ih _ (.inr ⟨x, later, own⟩)

end Picks

/-! ## The highest of several presence states -/

theorem rank_injective {a b : Presence} (h : a.rank = b.rank) : a = b := by
  cases a <;> cases b <;> simp [Presence.rank] at h ⊢

theorem higher_chosen (a b : Presence) : a.higher b = a ∨ a.higher b = b := by
  unfold Presence.higher; split <;> simp

theorem rank_higher (a b : Presence) : (a.higher b).rank = max a.rank b.rank := by
  unfold Presence.higher; split <;> omega

/-- The highest presence of a list of estimates is at least the one it starts from and each of theirs, and is one of
them. -/
theorem foldl_higher (l : List Estimate) (a : Presence) :
    let h := l.foldl (fun a e => a.higher e.presence) a
    (h = a ∨ ∃ e ∈ l, e.presence = h) ∧ a.rank ≤ h.rank ∧ ∀ e ∈ l, e.presence.rank ≤ h.rank := by
  induction l generalizing a with
  | nil => exact ⟨.inl rfl, Nat.le_refl _, nofun⟩
  | cons e l ih =>
    obtain ⟨chosen, start, rest⟩ := ih (a.higher e.presence)
    rw [rank_higher] at start
    rw [List.foldl_cons]
    refine ⟨?_, by omega, fun x hx => ?_⟩
    · obtain before | ⟨x, hx, own⟩ := chosen
      · rw [before]
        exact (higher_chosen a e.presence).imp id fun own => ⟨e, List.mem_cons_self, own.symm⟩
      · exact .inr ⟨x, List.mem_cons_of_mem _ hx, own⟩
    · obtain rfl | later := List.mem_cons.1 hx
      · omega
      · exact rest x later

/-! ## The combined estimate -/

section Combined
variable (s : State) (p : PartGroup)

/-- The group's presence is at least each member's (R97). -/
theorem presence_combined_ge {m : RoomId} (member : m ∈ p.members) :
    (s.room m).oce.est.presence.rank ≤ (s.combined p).presence.rank :=
  (foldl_higher ..).2.2 _ (List.mem_map_of_mem member)

/-- The group's presence is a member's (R97). -/
theorem presence_combined_mem : ∃ m ∈ p.members, (s.room m).oce.est.presence = (s.combined p).presence := by
  obtain none | ⟨e, he, own⟩ := (foldl_higher (p.members.map fun m => (s.room m).oce.est) .empty).1
  · have leader : p.leader ∈ p.members := List.mem_cons_self
    have low := presence_combined_ge s p leader
    have empty : (s.combined p).presence = .empty := none
    refine ⟨p.leader, leader, rank_injective ?_⟩
    rw [empty] at low ⊢
    exact Nat.le_antisymm low (Nat.zero_le _)
  · obtain ⟨m, member, rfl⟩ := List.mem_map.1 he
    exact ⟨m, member, own⟩

theorem tally_combined : (s.combined p).tally =
    min ((p.members.map fun m => (s.room m).cfg.seats * 5 / 4).sum)
      ((p.members.map fun m => (s.room m).oce.est.tally).sum) := by
  rw [State.combined, List.map_map]; rfl

/-- The estimates of the members whose presence the group takes. -/
def State.leading : List Estimate :=
  (p.members.map fun m => (s.room m).oce.est).filter fun e => e.presence == (s.combined p).presence

theorem mem_leading {e : Estimate} : e ∈ s.leading p ↔
    ∃ m ∈ p.members, (s.room m).oce.est.presence = (s.combined p).presence ∧ (s.room m).oce.est = e := by
  simp only [State.leading, List.mem_filter, List.mem_map, beq_iff_eq]
  constructor
  · rintro ⟨⟨m, member, rfl⟩, own⟩; exact ⟨m, member, own, rfl⟩
  · rintro ⟨m, member, own, rfl⟩; exact ⟨⟨m, member, rfl⟩, own⟩

theorem quiet_combined : (s.combined p).quiet = if (s.combined p).presence = .quiet then
    (s.leading p).foldl (fun a e => maxInstant a e.quiet) none else none := rfl

theorem sensedSince_combined : (s.combined p).sensedSince = if (s.combined p).presence = .sensed then
    (s.leading p).foldl (fun a e => minInstant a e.sensedSince) none else none := rfl

theorem lastEvidence_combined : (s.combined p).lastEvidence = if (s.combined p).presence = .sensed then
    (s.leading p).foldl (fun a e => maxInstant a e.lastEvidence) none else none := rfl

variable {s p} {le : Nat → Nat → Prop} {pick : Option Nat → Option Nat → Option Nat} (h : Picks le pick)
  {f : Estimate → Option Nat} {x : Option Nat} {kept : Prop} [Decidable kept]
  (own : x = if kept then (s.leading p).foldl (fun a e => pick a (f e)) none else none)
include h own

/-- Where the group keeps an instant, none of a member whose presence it takes comes before it. -/
theorem leading_first (keeps : kept) {m : RoomId} (member : m ∈ p.members)
    (leads : (s.room m).oce.est.presence = (s.combined p).presence) (q : Nat) (there : f (s.room m).oce.est = some q) :
    ∃ v, x = some v ∧ le v q := by
  rw [own, if_pos keeps]
  exact h.first_foldl f _ _ (.inr ⟨_, (mem_leading s p).2 ⟨m, member, leads, rfl⟩, there⟩)

/-- An instant that the group keeps is that of a member whose presence it takes. -/
theorem leading_chosen (v : Nat) (there : x = some v) :
    ∃ m ∈ p.members, (s.room m).oce.est.presence = (s.combined p).presence ∧ f (s.room m).oce.est = some v := by
  rw [own] at there
  split at there
  · obtain start | ⟨e, he, has⟩ := h.chosen_foldl f _ _ there
    · cases start
    · obtain ⟨m, member, leads, rfl⟩ := (mem_leading s p).1 he
      exact ⟨m, member, leads, has⟩
  · cases there

end Combined

end Sys2Proof.Machine
end

section
/-! PROOFS. What a merge makes of its members: their service states by the group's presence, and their trims (R73, R97,
R101). -/
namespace Sys2Proof.Machine

/-! ## A member told -/

/-- A room that is not CLOSED and holds no live entry: where presence alone can make it AD_HOC (R73). -/
abbrev State.vacant (s : State) (r : RoomId) : Prop :=
  s.closed r = false ∧ (s.room r).agenda.all (fun e => !e.state.live) = true

/-- What a rise of its presence makes of a room's service state (R73). -/
def State.raised (s : State) (r : RoomId) (was now : Presence) : Service :=
  if was.confirmed = false ∧ now.confirmed = true then
    match (s.room r).ctx.service with
    | .setback => if s.vacant r then .adHoc else .setback
    | .awaiting => .inUse
    | .vacated => .inUse
    | svc => svc
  else (s.room r).ctx.service

/-- A room has this service state and its trim as before, and every other room is as it was. -/
structure Raised (s t : State) (r : RoomId) (v : Service) : Prop where
  service : (t.room r).ctx.service = v
  trim : (t.room r).ctx.trim = (s.room r).ctx.trim
  others : ∀ q, q ≠ r → t.room q = s.room q

section Raise
variable {s t : State} {r : RoomId} {v : Service}

theorem Raised.refl (s : State) (r : RoomId) : Raised s s r (s.room r).ctx.service := ⟨rfl, rfl, fun _ _ => rfl⟩

theorem Raised.modifyCtx (h : Raised s t r v) {f : Context → Context}
    (hf : ∀ c, (f c).service = c.service ∧ (f c).trim = c.trim) : Raised s (t.modifyCtx r f) r v where
  service := by rw [State.modifyCtx, room_modifyRoom_self]; exact (hf _).1.trans h.service
  trim := by rw [State.modifyCtx, room_modifyRoom_self]; exact (hf _).2.trans h.trim
  others q other := (room_modifyRoom_other _ _ other).trans (h.others q other)

theorem Raised.confirmIfStarted (h : Raised s t r v) : Raised s (t.confirmIfStarted r) r v := by
  unfold State.confirmIfStarted State.sendConfirm; dsimp only
  split
  · split
    · split
      · rename_i k _ _
        obtain ⟨service, trim, others⟩ :=
          h.modifyCtx (f := fun c => { c with outConfirm := some k }) fun _ => ⟨rfl, rfl⟩
        exact ⟨service, trim, others⟩
      · exact h
    · exact h
  · exact h

/-- A move that keeps the governing entry of a room of no MERGED group and does not make it SETBACK clears nothing
(R80, R84). -/
theorem Raised.moveCtx (alone : s.mergedOf r = none) {f : Context → Context}
    (gov : (f (s.room r).ctx).gov = (s.room r).ctx.gov) (service : (f (s.room r).ctx).service = v)
    (up : v ≠ .setback) (trim : (f (s.room r).ctx).trim = (s.room r).ctx.trim) : Raised s (s.moveCtx r f) r v := by
  have own : (s.modifyCtx r f).room r = { s.room r with ctx := f (s.room r).ctx } := room_modifyRoom_self ..
  have still : (s.modifyCtx r f).mergedOf r = none := alone
  have same : (s.govHandle r != (s.modifyCtx r f).govHandle r) = false := by
    rw [govHandle_of_unmerged alone, govHandle_of_unmerged still, own, gov, bne_self_eq_false]
  have high : (s.base r != .setback && (s.modifyCtx r f).base r == .setback) = false := by
    rw [base_of_unmerged still, own, service, beq_false_of_ne up, Bool.and_false]
  have kept (q : RoomId) : (s.moveCtx r f).room q = (s.modifyCtx r f).room q := by
    rw [State.moveCtx, room_afterMove, same, high]
    split <;> rfl
  refine ⟨?_, ?_, fun q other => (kept q).trans (room_modifyRoom_other _ _ other)⟩
  · rw [kept, own]; exact service
  · rw [kept, own]; exact trim

section Told
variable {was now : Presence} (filled : ¬ was.emptied now)

theorem raised_entered (alone : s.mergedOf r = none) (rose : was.rose now)
    (svc : (s.room r).ctx.service = .awaiting ∨ (s.room r).ctx.service = .vacated) :
    Raised s (s.presenceMoved r was now) r .inUse := by
  rw [presenceMoved_entered svc rose]
  exact (Raised.moveCtx (v := .inUse) alone rfl rfl nofun rfl).confirmIfStarted

theorem vacant_iff : s.vacant r ↔ s.closed r = false ∧ ∀ e ∈ (s.room r).agenda, e.state.live = false := by
  simp [State.vacant]

theorem raised_walkIn (alone : s.mergedOf r = none) (rose : was.rose now) (svc : (s.room r).ctx.service = .setback)
    (gov : (s.room r).ctx.gov = none) (vacant : s.vacant r) : Raised s (s.presenceMoved r was now) r .adHoc := by
  obtain ⟨opened, idle⟩ := vacant_iff.1 vacant
  rw [presenceMoved_walkIn svc rose opened idle]
  exact .moveCtx alone gov.symm rfl nofun rfl

include filled

theorem raised_still (svc : (s.room r).ctx.service = v)
    (still : ¬ was.rose now ∨ v ≠ .awaiting ∧ v ≠ .vacated ∧ (v = .setback → ¬ s.vacant r)) :
    Raised s (s.presenceMoved r was now) r v := by
  subst svc
  have same : s.presenceMoved r was now = s := by
    refine presenceMoved_still (fun ⟨svc, rose, vacant⟩ => ?_) (fun ⟨_, emptied⟩ => filled emptied)
      (fun ⟨svc, rose⟩ => ?_)
    · obtain ⟨-, -, shut⟩ := still.resolve_left (not_not.2 rose)
      exact shut svc (vacant_iff.2 vacant)
    · obtain ⟨waiting, left, -⟩ := still.resolve_left (not_not.2 rose)
      exact svc.elim waiting left
  rw [same]
  exact .refl s r

/-- A change of presence that does not reach EMPTY raises a room of no MERGED group, which loses no trim by it (R73,
R97). -/
theorem raised_presenceMoved (alone : s.mergedOf r = none)
    (free : (s.room r).ctx.service = .setback → (s.room r).ctx.gov = none) :
    Raised s (s.presenceMoved r was now) r (s.raised r was now) := by
  by_cases rose : was.rose now
  · rw [State.raised, if_pos rose]
    cases svc : (s.room r).ctx.service with
    | setback =>
      dsimp only
      split
      · exact raised_walkIn alone rose svc (free svc) ‹_›
      · exact raised_still filled svc (.inr ⟨nofun, nofun, fun _ => ‹_›⟩)
    | awaiting => exact raised_entered alone rose (.inl svc)
    | vacated => exact raised_entered alone rose (.inr svc)
    | inUse | overrun | adHoc | precondition | unconfigured =>
      exact raised_still filled svc (.inr ⟨nofun, nofun, nofun⟩)
  · rw [State.raised, if_neg rose]
    exact raised_still filled rfl (.inl rose)

end Told
end Raise

/-! ## The members told -/

theorem raised_congr {s t : State} {r : RoomId} (room : t.room r = s.room r) (closed : t.closed r = s.closed r)
    (was now : Presence) : t.raised r was now = s.raised r was now := by
  simp only [State.raised, State.vacant, room, closed]

theorem RoomWork.closed {s t : State} (h : RoomWork s t) (r : RoomId) : t.closed r = s.closed r := by
  rw [State.closed, State.closed, State.inOpenRange, State.inOpenRange, h.cfg, h.openFirst, h.openLast]

/-- Rooms of no MERGED group told of a presence, one after another: each is raised by its own change alone. -/
theorem told_each (was : RoomId → Presence) (now : Presence) {l : List RoomId} (distinct : l.Nodup) {s : State}
    (alone : ∀ m ∈ l, s.mergedOf m = none)
    (free : ∀ m ∈ l, (s.room m).ctx.service = .setback → (s.room m).ctx.gov = none)
    (filled : ∀ m ∈ l, ¬ (was m).emptied now) :
    let t := l.foldl (fun t m => t.presenceMoved m (was m) now) s
    (∀ q, (t.room q).ctx.trim = (s.room q).ctx.trim) ∧
      (∀ q ∉ l, t.room q = s.room q) ∧ ∀ m ∈ l, (t.room m).ctx.service = s.raised m (was m) now := by
  induction l generalizing s with
  | nil => exact ⟨fun _ => rfl, fun _ _ => rfl, nofun⟩
  | cons a l ih =>
    obtain ⟨fresh, distinct⟩ := List.nodup_cons.1 distinct
    obtain ⟨service, trim, others⟩ := raised_presenceMoved (filled a List.mem_cons_self) (alone a List.mem_cons_self)
      (free a List.mem_cons_self)
    have other {m : RoomId} (hm : m ∈ l) : (s.presenceMoved a (was a) now).room m = s.room m :=
      others m fun same => fresh (same ▸ hm)
    obtain ⟨trims, rest, told⟩ := ih distinct (s := s.presenceMoved a (was a) now)
      (fun m hm => (mergedOf_congr (EstimatesKept.presenceMoved ..).groups m).trans
        (alone m (List.mem_cons_of_mem _ hm)))
      (fun m hm => by rw [other hm]; exact free m (List.mem_cons_of_mem _ hm))
      (fun m hm => filled m (List.mem_cons_of_mem _ hm))
    refine ⟨fun q => (trims q).trans ?_, fun q outside => ?_, fun m hm => ?_⟩
    · by_cases own : q = a
      · rw [own]; exact trim
      · rw [others q own]
    · obtain ⟨apart, outside⟩ := not_or.1 (mt List.mem_cons.2 outside)
      exact (rest q outside).trans (others q apart)
    · obtain rfl | later := List.mem_cons.1 hm
      · exact (congrArg (fun x : Room => x.ctx.service) (rest _ fresh)).trans service
      · rw [List.foldl_cons, told m later]
        exact raised_congr (other later) ((RoomWork.presenceMoved ..).closed m) ..

/-! ## The merge -/

section Merge
variable {s : State} {g : GroupId} {p : PartGroup} (unmerged : p.state ≠ .merged)
  (grouped : ∀ m ∈ p.members, s.groupOf m = some (g, p))
include grouped

/-- Every member of a group that has merged is read by the combined estimate (R97). -/
theorem estimate_merge {m : RoomId} (member : m ∈ p.members) : (s.merge g p).estimate m = s.combined p := by
  have own : (s.merge g p).groupOf m = some (g, { p with state := .merged, shared := s.combined p }) :=
    (groupOf_congr (groups_merge s g p) m).trans (groupOf_modifyGroup (grouped m member) fun _ => rfl)
  rw [State.estimate, mergedOf_eq_some_iff.2 ⟨own, rfl⟩]

theorem group_merge : (s.merge g p).groups.get g = some { p with state := .merged, shared := s.combined p } := by
  have record : s.groups.get g = some p := groups_of_groupOf (grouped p.leader List.mem_cons_self)
  rw [groups_merge, modifyGroup_of_some record]
  exact Table.get_set_self ..

include unmerged
variable (distinct : p.members.Nodup)
  (free : ∀ m ∈ p.members, (s.room m).ctx.service = .setback → (s.room m).ctx.gov = none)
include distinct free

/-- The members of a group that merges are raised by the group's presence, and told so lose no trim (R73, R97). -/
theorem members_told : (∀ q, ((s.toldOfMerge p).room q).ctx.trim = (s.room q).ctx.trim) ∧
    ∀ m ∈ p.members, ((s.toldOfMerge p).room m).ctx.service =
      s.raised m (s.room m).oce.est.presence (s.combined p).presence := by
  have filled (m : RoomId) (member : m ∈ p.members) :
      ¬ (s.room m).oce.est.presence.emptied (s.combined p).presence := fun ⟨there, gone⟩ => by
    have low := presence_combined_ge s p member
    rw [gone] at low
    exact there (rank_injective (Nat.le_antisymm low (Nat.zero_le _)))
  obtain ⟨trims, -, told⟩ := told_each (fun m => (s.room m).oce.est.presence) (s.combined p).presence distinct
    (fun m member => mergedOf_of_unmerged (grouped m member) unmerged) free filled
  exact ⟨trims, told⟩

theorem trim_merge {m : RoomId} (member : m ∈ p.members) :
    ((s.merge g p).room m).ctx.trim = (s.room ((s.merge g p).governor p)).ctx.trim := by
  rw [governor_congr (service_merge s g p), room_merge, if_pos member]
  exact (members_told unmerged grouped distinct free).1 _

theorem service_merge_member {m : RoomId} (member : m ∈ p.members) : ((s.merge g p).room m).ctx.service =
    s.raised m (s.room m).oce.est.presence (s.combined p).presence :=
  (service_merge ..).trans ((members_told unmerged grouped distinct free).2 m member)

end Merge

end Sys2Proof.Machine
end

section
/-! PROOFS. The ends of the presence and settle timers, and the rules that a report, a contact and a merge follow (R95,
R96, R97, R101, R115 to R119). -/
namespace Sys2Proof.Machine

/-- Settles O37: the three timers; a report by the presence it meets; a contact by what it read before; a group by what
its contacts call for; and a merge by the members whose presence the group takes. -/
theorem roomTimersExpire : Obligations.RoomTimersExpire := by
  refine ⟨fun s r => ⟨fun on due => ?absence, fun on due => ?quiet, fun g p c => settle_timer_ended⟩,
    fun e limit times motion entries exits t => ?report,
    fun s r isOpen => ⟨fun g p c member contact => ⟨contactReported_same member contact,
      contactReported_new member contact⟩, fun g p member unread => ?unread,
      fun alone => contactReported_of_alone alone isOpen⟩,
    fun s g p record => ⟨groupStateOf_merged_iff s p, groupStateOf_split_iff s p, evaluateGroup_of_some record⟩,
    fun s g p unmerged distinct grouped free => ?merge⟩
  case absence =>
    exact ⟨_, congrArg Host.Outcome.next (absenceEvent_of_due on due), presence_timer_ended ..⟩
  case quiet =>
    obtain ⟨settles, slot, agenda, estimate⟩ :=
      presence_timer_ended (s := s) (r := r) (fun e => { e.become .empty with tally := 0 }) .quiet
    exact ⟨_, congrArg Host.Outcome.next (quietEvent_of_due on due), settles, slot, agenda, by rw [estimate]; rfl,
      by rw [estimate]⟩
  case unread =>
    exact contactReported_of_same member fun k contact => by rw [unread] at contact; cases contact
  case report =>
    have observed := Eq.refl (e.observe limit times motion entries exits t)
    refine ⟨tally_observe, fun presence => ?_, fun since presence sensed => ?_, fun presence => ?_, fun presence => ?_⟩
    · have moved := observed_empty observed presence
      exact ⟨fun idle => moved.trans (if_neg idle),
        fun seen many => moved.trans ((if_pos seen).trans (if_pos many)),
        fun seen few => moved.trans ((if_pos seen).trans (if_neg (Nat.not_le.2 few)))⟩
    · have moved := observed_sensed observed presence sensed
      exact ⟨fun idle => moved.trans (if_neg idle),
        fun seen due => moved.trans ((if_pos seen).trans (if_pos due)),
        fun seen few soon => moved.trans ((if_pos seen).trans (if_neg (by omega)))⟩
    · have moved := observed_present observed presence
      exact ⟨fun moving => moved.trans (if_pos moving), fun still => moved.trans (if_neg still)⟩
    · have moved := observed_quiet observed presence
      exact ⟨fun moving => moved.trans (if_pos moving),
        fun still counted left => moved.trans ((if_neg still).trans (if_pos ⟨counted, left⟩)),
        fun still kept => moved.trans ((if_neg still).trans (if_neg (by omega)))⟩
  case merge =>
    exact ⟨s.combined p, group_merge grouped, tally_combined s p, presence_combined_mem s p,
      fun m => presence_combined_ge s p, fun other => if_neg other, fun other => ⟨if_neg other, if_neg other⟩,
      fun m member leads => ⟨fun quiet => leading_first picks_maxInstant (quiet_combined s p) quiet member leads,
        fun sensed => ⟨leading_first picks_minInstant (sensedSince_combined s p) sensed member leads,
          leading_first picks_maxInstant (lastEvidence_combined s p) sensed member leads⟩⟩,
      leading_chosen picks_maxInstant (quiet_combined s p), leading_chosen picks_minInstant (sensedSince_combined s p),
      leading_chosen picks_maxInstant (lastEvidence_combined s p), fun m member =>
        ⟨estimate_merge grouped member, trim_merge unmerged grouped distinct free member, (Quiet.merge s g p).agenda m,
          service_merge_member unmerged grouped distinct free member⟩⟩

end Sys2Proof.Machine
end

section
/-! PROOFS. What one allocation pass decides: every grant within its demand, and all of them together within the
capacity, on the floor-short path and on the remainder path (R139 to R142). -/
namespace Sys2Proof.Machine

/-! ## Shares -/

/-- Rounding down part by part gives no more than rounding down the whole. -/
theorem sum_shareOf_le (k : Nat) (l : List Nat) : (l.map (shareOf k)).sum ≤ shareOf k l.sum := by
  induction l with
  | nil => simp
  | cons x l ih =>
    have parts : shareOf k x + shareOf k l.sum ≤ shareOf k (x + l.sum) := by
      simp only [shareOf, Nat.add_mul]; omega
    simp only [List.map_cons, List.sum_cons]
    omega

/-- The whole scaled by the factor that a quantity is of it comes to no more than the quantity (R140, R141). -/
theorem shareOf_factor_le (c whole : Nat) : shareOf (c * 1024 / whole) whole ≤ c := by
  have scaled : whole * (c * 1024 / whole) ≤ c * 1024 := Nat.mul_div_le ..
  simp only [shareOf]; omega

theorem shareOf_le {k : Nat} (h : k ≤ 1024) (x : Nat) : shareOf k x ≤ x := by
  have scaled : x * k ≤ x * 1024 := Nat.mul_le_mul_left x h
  simp only [shareOf]; omega

@[simp] theorem shareOf_zero (x : Nat) : shareOf 0 x = 0 := by simp [shareOf]

@[simp] theorem shareOf_full (x : Nat) : shareOf 1024 x = x := by simp [shareOf]

/-- A quantity within the whole is a factor of no more than 1024ths of it. -/
theorem factor_le {c whole : Nat} (h : c ≤ whole) : c * 1024 / whole ≤ 1024 :=
  Nat.div_le_of_le_mul (by rw [Nat.mul_comm whole]; omega)

/-! ## The floor-short path -/

/-- The factor of the floor-short path (R140). -/
def floorFactor (c sumF : Nat) : Nat := if sumF = 0 then 0 else c * 1024 / sumF

theorem floorShort_eq (c sumF : Nat) (ms : List PassMember) :
    floorShort c sumF ms = ms.map fun m => { m with grant := shareOf (floorFactor c sumF) m.f } := rfl

theorem floorFactor_le {c sumF : Nat} (h : c ≤ sumF) : floorFactor c sumF ≤ 1024 := by
  unfold floorFactor; split
  · decide
  · exact factor_le h

theorem shareOf_floorFactor_le (c sumF : Nat) : shareOf (floorFactor c sumF) sumF ≤ c := by
  unfold floorFactor; split
  · simp
  · exact shareOf_factor_le ..

theorem sum_floorShort_le (c : Nat) (ms : List PassMember) :
    ((floorShort c (ms.map (·.f)).sum ms).map (·.grant)).sum ≤ c := by
  have grants : (floorShort c (ms.map (·.f)).sum ms).map (·.grant) =
      (ms.map (·.f)).map (shareOf (floorFactor c (ms.map (·.f)).sum)) := by simp [floorShort_eq]
  rw [grants]
  exact (sum_shareOf_le ..).trans (shareOf_floorFactor_le ..)

theorem runPass_floorShort {c : Nat} {ms : List PassMember} (short : c ≤ (ms.map (·.f)).sum) (triggers : TriggerSet) :
    (runPass c triggers ms).members = floorShort c (ms.map (·.f)).sum ms ∧
      (runPass c triggers ms).flags = ⟨true, false, false, false⟩ := by
  simp [runPass, short]

/-- Settles O43: every grant of this path is the one factor's share of the member's floor. -/
theorem floorShortPath : Obligations.FloorShortPath := by
  intro c triggers ms sumF k p short
  obtain ⟨members, flags⟩ := runPass_floorShort short triggers
  have within : k ≤ 1024 := floorFactor_le short
  have grants : p.members = ms.map fun m => { m with grant := shareOf k m.f } := members.trans (floorShort_eq ..)
  refine ⟨grants, flags, within, fun m hm => ?_, fun nothing m hm => ?_, fun all positive => ?_⟩
  · obtain ⟨n, -, rfl⟩ := List.mem_map.1 (grants ▸ hm)
    exact shareOf_le within n.f
  · obtain ⟨n, -, rfl⟩ := List.mem_map.1 (grants ▸ hm)
    have k0 : k = 0 := by simp [k, nothing]
    simp [k0]
  · have full : k = 1024 := by
      have pos : sumF ≠ 0 := by omega
      simp only [k, if_neg pos, all]
      exact Nat.mul_div_cancel_left 1024 (Nat.pos_of_ne_zero pos)
    refine ⟨full, fun m hm => ?_⟩
    obtain ⟨n, -, rfl⟩ := List.mem_map.1 (grants ▸ hm)
    simp [full]

/-! ## The remainder path -/

/-- What a tier's members are given of their surpluses by one factor (R141). -/
def tierGiven (ms : List PassMember) (t k : Nat) : Nat :=
  ((ms.filter fun m => m.tier == t).map fun m => shareOf k m.surplus).sum

theorem tierGiven_zero (ms : List PassMember) (t : Nat) : tierGiven ms t 0 = 0 := by
  simp [tierGiven]

theorem tierGiven_full (ms : List PassMember) (t : Nat) : tierGiven ms t 1024 = tierSum ms t := by
  simp [tierGiven, tierSum]

theorem tierGiven_factor_le (ms : List PassMember) (t r : Nat) : tierGiven ms t (r * 1024 / tierSum ms t) ≤ r := by
  have parts := sum_shareOf_le (r * 1024 / tierSum ms t) ((ms.filter fun m => m.tier == t).map (·.surplus))
  rw [List.map_map] at parts
  exact parts.trans (shareOf_factor_le r (tierSum ms t))

/-- A tier served gives out exactly what it takes off the remainder, by a factor of no more than 1024 (R141). -/
theorem serveTier_spends (ms : List PassMember) (t r : Nat) (isOpen : Bool) :
    (serveTier ms t r isOpen).factor ≤ 1024 ∧
      tierGiven ms t (serveTier ms t r isOpen).factor + (serveTier ms t r isOpen).rest = r := by
  unfold serveTier; dsimp only
  split
  · exact ⟨Nat.zero_le _, by rw [tierGiven_zero]; exact Nat.zero_add r⟩
  · split
    · rename_i fits
      exact ⟨Nat.le_refl _, by rw [tierGiven_full]; exact Nat.add_sub_cancel' fits⟩
    · exact ⟨factor_le (by omega), Nat.add_sub_cancel' (tierGiven_factor_le ms t r)⟩

/-- The three tiers together give out no more than the remainder, each by a factor of no more than 1024 (R141). -/
theorem serveTiers_spend (ms : List PassMember) (r : Nat) :
    (∀ m, factorOf (serveTiers ms r) m ≤ 1024) ∧
      tierGiven ms 1 (serveTiers ms r).1.factor + tierGiven ms 2 (serveTiers ms r).2.1.factor +
        tierGiven ms 3 (serveTiers ms r).2.2.factor ≤ r := by
  have first := serveTier_spends ms 1 r true
  have second := serveTier_spends ms 2 (serveTiers ms r).1.rest (serveTiers ms r).1.open_
  have third := serveTier_spends ms 3 (serveTiers ms r).2.1.rest (serveTiers ms r).2.1.open_
  simp only [serveTiers] at *
  refine ⟨fun m => ?_, by omega⟩
  unfold factorOf
  split
  · exact first.1
  · split
    · exact second.1
    · exact third.1

/-- Members of the three tiers are given what their tiers are given. -/
theorem sum_shares_by_tier {ms : List PassMember} (tiers : ∀ m ∈ ms, 1 ≤ m.tier ∧ m.tier ≤ 3)
    (t : TierResult × TierResult × TierResult) : (ms.map fun m => shareOf (factorOf t m) m.surplus).sum =
      tierGiven ms 1 t.1.factor + tierGiven ms 2 t.2.1.factor + tierGiven ms 3 t.2.2.factor := by
  induction ms with
  | nil => rfl
  | cons m ms ih =>
    have rest := ih fun x hx => tiers x (List.mem_cons_of_mem _ hx)
    obtain ⟨low, high⟩ := tiers m (List.mem_cons_self ..)
    obtain own | own | own : m.tier = 1 ∨ m.tier = 2 ∨ m.tier = 3 := by omega
    all_goals
      simp only [tierGiven, factorOf, List.map_cons, List.sum_cons, List.filter_cons, own] at rest ⊢
      simp only [Nat.reduceBEq, Nat.reduceEqDiff, Bool.false_eq_true, if_true, if_false, List.map_cons, List.sum_cons]
      omega

theorem runPass_remainder {c : Nat} {ms : List PassMember} (enough : (ms.map (·.f)).sum < c) (triggers : TriggerSet) :
    (runPass c triggers ms).members = ms.map (fun m =>
        { m with grant := m.f + shareOf (factorOf (serveTiers ms (c - (ms.map (·.f)).sum)) m) m.surplus }) ∧
      (runPass c triggers ms).flags.floor = false := by
  simp [runPass, Nat.not_le.mpr enough]

theorem runPass_members (c : Nat) (triggers : TriggerSet) (ms : List PassMember) :
    ∃ f : PassMember → Nat, (runPass c triggers ms).members = ms.map fun m => { m with grant := f m } := by
  by_cases short : c ≤ (ms.map (·.f)).sum
  · exact ⟨_, (runPass_floorShort short triggers).1.trans (floorShort_eq ..)⟩
  · exact ⟨_, (runPass_remainder (Nat.not_le.mp short) triggers).1⟩

theorem runPass_rest (c : Nat) (triggers : TriggerSet) (ms : List PassMember) :
    (runPass c triggers ms).capacity = c ∧
      (runPass c triggers ms).unallocated = c - ((runPass c triggers ms).members.map (·.grant)).sum := by
  unfold runPass; dsimp only; split <;> exact ⟨rfl, rfl⟩

/-- The grants of the remainder path: the floors, and what the tiers are given of the remainder (R141). -/
theorem sum_remainder_le {c : Nat} {ms : List PassMember} (enough : (ms.map (·.f)).sum < c)
    (tiers : ∀ m ∈ ms, 1 ≤ m.tier ∧ m.tier ≤ 3) (triggers : TriggerSet) :
    ((runPass c triggers ms).members.map (·.grant)).sum ≤ c := by
  have spent := (serveTiers_spend ms (c - (ms.map (·.f)).sum)).2
  rw [(runPass_remainder enough triggers).1, List.map_map]
  have parts := sum_shares_by_tier tiers (serveTiers ms (c - (ms.map (·.f)).sum))
  have total := List.sum_map_add (l := ms) (f := fun m => m.f)
    (g := fun m => shareOf (factorOf (serveTiers ms (c - (ms.map (·.f)).sum)) m) m.surplus)
  simp only [Function.comp_def]
  omega

/-- Settles O44: on either path one factor of at most 1024 scales what each member is given, and what a path gives out
it takes from the capacity. -/
theorem passWithinCapacity : Obligations.PassWithinCapacity := by
  intro c triggers ms fit p
  obtain ⟨capacity, unallocated⟩ := runPass_rest c triggers ms
  obtain ⟨grant, members⟩ := runPass_members c triggers ms
  have same : p.members.map (fun m => (m.room, m.tier, m.d, m.f)) = ms.map fun m => (m.room, m.tier, m.d, m.f) := by
    simp [p, members]
  by_cases short : c ≤ (ms.map (·.f)).sum
  · have path := (runPass_floorShort short triggers).1
    refine ⟨by rw [path]; exact sum_floorShort_le c ms, unallocated, capacity, same, fun m hm => ?_, fun h => by omega⟩
    obtain ⟨n, hn, rfl⟩ := List.mem_map.1 ((path.trans (floorShort_eq ..)) ▸ hm)
    exact (shareOf_le (floorFactor_le short) n.f).trans (fit n hn).1
  · have enough := Nat.not_le.mp short
    obtain ⟨path, floor⟩ := runPass_remainder enough triggers
    refine ⟨sum_remainder_le enough (fun m hm => (fit m hm).2) triggers, unallocated, capacity, same, fun m hm => ?_,
      fun _ => ⟨floor, fun m hm => ?_⟩⟩
    · obtain ⟨n, hn, rfl⟩ := List.mem_map.1 (path ▸ hm)
      have share := shareOf_le ((serveTiers_spend ms (c - (ms.map (·.f)).sum)).1 n) n.surplus
      have floors := (fit n hn).1
      simp only [PassMember.surplus] at share ⊢
      omega
    · obtain ⟨n, -, rfl⟩ := List.mem_map.1 (path ▸ hm)
      exact Nat.le_add_right ..

end Sys2Proof.Machine
end

section
/-! PROOFS. The stages of a demand, by the effective state of its room (R127 to R131). -/
namespace Sys2Proof.Machine

/-! ## The stages -/

/-- Base ventilation is the least number of litres that covers the hundredths asked for (R128). -/
theorem baseVentilation_ceils (n rp area rate : Nat) :
    n * rp * 10 + area * rate ≤ 100 * baseVentilation n rp area rate ∧
      100 * baseVentilation n rp area rate < n * rp * 10 + area * rate + 100 := by
  unfold baseVentilation ceilDiv; omega

theorem co2Trim_above {co2 : Sensor} {target : Nat} (valid : co2.valid = true) (above : (target : Int) < co2.value)
    (gain : Nat) : co2Trim co2 target gain = (co2.value.toNat - target) * gain / 100 := by
  simp [co2Trim, valid, above]

theorem co2Trim_none {co2 : Sensor} {target : Nat} (h : co2.valid = false ∨ co2.value ≤ (target : Int)) (gain : Nat) :
    co2Trim co2 target gain = 0 := by
  obtain invalid | below := h
  · simp [co2Trim, invalid]
  · simp [co2Trim, below]

/-- The demand of four stages never lies below its floor, nor above a ceiling that is no less than the floor (R130). -/
theorem fourStage_within (n floor top vb trim : Nat) (theta : Sensor) :
    floor ≤ (fourStage n floor top vb trim theta).d ∧
      (floor ≤ top → (fourStage n floor top vb trim theta).d ≤ top) := by
  simp only [fourStage, clampDemand, clampNat]; omega

/-! ## By effective state -/

section Figures
variable {s : State} {r : RoomId}

/-- The trim of a service state: only the occupied class has one (R129). -/
def State.serviceTrim (s : State) (r : RoomId) (svc : Service) : Nat :=
  if svc.occupiedClass then co2Trim (s.room r).oce.co2 (s.govProfile r).co2Target (s.govProfile r).co2Gain else 0

theorem figures_service {svc : Service} (h : s.effective r = .service svc) :
    s.figures r = serviceFigures (s.room r).cfg svc (s.nEff r) (s.govProfile r) (s.room r).oce := by
  simp only [State.figures, h]

/-- The four stages of the occupied class and of PRECONDITION, from the occupied floor (R127). -/
theorem figures_occupied {svc : Service} (h : s.effective r = .service svc)
    (class_ : svc.occupiedClass = true ∨ svc = .precondition) :
    s.figures r = fourStage (s.nEff r) (s.room r).cfg.vminOcc (s.room r).cfg.vmax
      (baseVentilation (s.nEff r) (s.govProfile r).perPerson (s.room r).cfg.area (s.room r).cfg.areaRate)
      (s.serviceTrim r svc) (s.room r).oce.theta := by
  rw [figures_service h]
  cases svc
  case unconfigured => simp [Service.occupiedClass] at class_
  case setback => simp [Service.occupiedClass] at class_
  all_goals rfl

/-- The four stages of SETBACK and of a CLOSED room, from the unoccupied floor, with no base and no trim (R127). -/
theorem figures_setback (h : s.effective r = .service .setback ∨ s.effective r = .closed) :
    s.figures r = fourStage (s.nEff r) (s.room r).cfg.vminUn (s.room r).cfg.vmax 0 0 (s.room r).oce.theta := by
  obtain h | h := h <;> simp only [State.figures, h, serviceFigures]

theorem figures_unconfigured (h : s.effective r = .service .unconfigured) :
    s.figures r = { basis := .none, nEff := 0, vb := 0, trim := 0, vv := 0, vt := 0, d := 0, f := 0 } := by
  rw [figures_service h]; rfl

theorem figures_safe (h : s.effective r = .safe) :
    s.figures r = oneFlow .safeFloor (s.nEff r) (safeFloor (s.room r).cfg (s.base r)) := by
  simp only [State.figures, h]

theorem figures_hold {x : Hold} (h : s.effective r = .hold) (hold : (s.room r).ctx.hold = some x) :
    s.figures r = oneFlow .holdFlow (s.nEff r) (min x.flow (s.room r).cfg.vmax) := by
  simp only [State.figures, h, hold]

theorem trim_occupied {svc : Service} (h : s.effective r = .service svc) (occupied : svc.occupiedClass = true) :
    (s.figures r).trim =
      co2Trim (s.room r).oce.co2 (s.govProfile r).co2Target (s.govProfile r).co2Gain := by
  rw [figures_occupied h (.inl occupied)]
  exact if_pos occupied

/-- A room whose service state is not of the occupied class, or that an overlay covers, has no trim (R129, R131). -/
theorem trim_unoccupied (h : ∀ svc, s.effective r = .service svc → svc.occupiedClass = false) :
    (s.figures r).trim = 0 := by
  cases e : s.effective r with
  | service svc =>
    have off := h svc e
    rw [figures_service e]
    cases svc
    case unconfigured => rfl
    case setback => rfl
    case precondition => rfl
    all_goals cases off
  | safe => rw [figures_safe e]; rfl
  | hold => simp only [State.figures, e, oneFlow]
  | closed => rw [figures_setback (.inr e)]; rfl

/-- There is a trim only with a CO2 value that is valid and above its target (R129). -/
theorem trim_none (h : (s.room r).oce.co2.valid = false ∨ (s.room r).oce.co2.value ≤ ((s.govProfile r).co2Target : Int)) :
    (s.figures r).trim = 0 := by
  by_cases occupied : ∃ svc, s.effective r = .service svc ∧ svc.occupiedClass = true
  · obtain ⟨svc, e, occupied⟩ := occupied
    rw [trim_occupied e occupied, co2Trim_none h]
  · exact trim_unoccupied fun svc e => by simpa using fun on => occupied ⟨svc, e, on⟩

/-- In a service state ventilation demand is base ventilation and trim together (R130). -/
theorem vv_service {svc : Service} (h : s.effective r = .service svc) :
    (s.figures r).vv = (s.figures r).vb + (s.figures r).trim := by
  rw [figures_service h]
  cases svc <;> rfl

/-- Whatever a room's state, its floor is within its demand (R130, R131). -/
theorem figures_floor_le (s : State) (r : RoomId) : (s.figures r).f ≤ (s.figures r).d := by
  cases e : s.effective r with
  | service svc =>
    cases svc
    case unconfigured => rw [figures_unconfigured e]
    case setback => rw [figures_setback (.inl e)]; exact (fourStage_within ..).1
    case precondition => rw [figures_occupied e (.inr rfl)]; exact (fourStage_within ..).1
    all_goals rw [figures_occupied e (.inl rfl)]; exact (fourStage_within ..).1
  | safe => rw [figures_safe e]; exact Nat.le_refl _
  | hold => simp only [State.figures, e, oneFlow]; exact Nat.le_refl _
  | closed => rw [figures_setback (.inr e)]; exact (fourStage_within ..).1

end Figures

/-- Settles O45: each clause reads one stage of the figures of its effective state. -/
theorem demandStages : Obligations.DemandStages := by
  intro s r x c p co2
  refine ⟨fun svc e class_ => ⟨x.vb, rfl, ?_⟩, fun e => ?_, fun svc e occupied valid above => ?_, fun none => ?_,
    fun svc e => vv_service e, by decide, by decide, by decide, by decide, by decide, fun svc e class_ => ?_,
    fun e => ?_, fun e => figures_unconfigured e, fun e => ?_, fun h e hold => ?_⟩
  · have vb : x.vb = baseVentilation (s.nEff r) p.perPerson c.area c.areaRate :=
      congrArg Figures.vb (figures_occupied e class_)
    rw [vb]; exact baseVentilation_ceils ..
  · exact congrArg Figures.vb (figures_setback e)
  · exact (trim_occupied e occupied).trans (co2Trim_above valid above _)
  · obtain off | none := none
    · exact trim_unoccupied off
    · exact trim_none none
  · have stages : x = _ := figures_occupied e class_
    rw [stages]
    exact ⟨rfl, rfl, rfl, rfl, rfl, fun fits => ⟨rfl, (fourStage_within ..).1, (fourStage_within ..).2 fits⟩⟩
  · have stages : x = _ := figures_setback e
    rw [stages]
    exact ⟨rfl, rfl, rfl, rfl, rfl, fun fits => ⟨rfl, (fourStage_within ..).1, (fourStage_within ..).2 fits⟩⟩
  · have floor : safeFloor c (s.base r) =
        if (s.base r).occupiedClass = true ∨ s.base r = .precondition then c.vminOcc else c.vminUn := by
      simp [safeFloor]
    exact (figures_safe e).trans (by rw [floor]; rfl)
  · exact figures_hold e hold

end Sys2Proof.Machine
end

section
/-! PROOFS. What demand and lighting are formed from, and that they are formed alike wherever it is alike (R126, R153). -/
namespace Sys2Proof.Machine

/-! ## What outputs read -/

/-- All of a room that a demand record or a lighting record is formed from: no timer, no count and no output is in it. -/
structure RoomInputs where
  cfg : RoomRec
  service : Service
  safe : Bool
  hold : Option (SceneId × Nat)
  gov : Option Handle
  trim : Int
  agenda : List Entry
  tally : Nat
  presence : Presence
  co2 : Sensor
  lux : Sensor
  theta : Sensor

/-- What demand and lighting read of a hold: its scene and its flow (R131, R154). -/
def Hold.outputs (h : Hold) : SceneId × Nat := (h.scene, h.flow)

def Room.inputs (x : Room) : RoomInputs :=
  { cfg := x.cfg, service := x.ctx.service, safe := x.ctx.safe, hold := x.ctx.hold.map Hold.outputs, gov := x.ctx.gov,
    trim := x.ctx.trim, agenda := x.agenda.map Entry.untimed, tally := x.oce.est.tally, presence := x.oce.est.presence,
    co2 := x.oce.co2, lux := x.oce.lux, theta := x.oce.theta }

/-- All of a partition group that outputs are formed from: its members, its state, and the shared count of people. -/
structure GroupInputs where
  leader : RoomId
  others : List RoomId
  state : GroupState
  tally : Nat
  presence : Presence

def PartGroup.inputs (p : PartGroup) : GroupInputs :=
  { leader := p.leader, others := p.others.map (·.1), state := p.state, tally := p.shared.tally,
    presence := p.shared.presence }

/-- Everything that demand and lighting are formed from is as it was. -/
structure InputsKept (s t : State) : Prop where
  rooms : ∀ r, (t.room r).inputs = (s.room r).inputs
  groups : ∀ g, (t.groups.get g).map PartGroup.inputs = (s.groups.get g).map PartGroup.inputs
  profiles : t.profiles = s.profiles
  openFirst : t.openFirst = s.openFirst
  openLast : t.openLast = s.openLast
  scenes : t.scenes = s.scenes
  economy : t.economy = s.economy
  cap : t.cap = s.cap

theorem InputsKept.refl (s : State) : InputsKept s s := ⟨fun _ => rfl, fun _ => rfl, rfl, rfl, rfl, rfl, rfl, rfl⟩

theorem InputsKept.trans {s t u : State} (a : InputsKept s t) (b : InputsKept t u) : InputsKept s u :=
  ⟨fun r => (b.rooms r).trans (a.rooms r), fun g => (b.groups g).trans (a.groups g), b.profiles.trans a.profiles,
   b.openFirst.trans a.openFirst, b.openLast.trans a.openLast, b.scenes.trans a.scenes, b.economy.trans a.economy,
   b.cap.trans a.cap⟩

theorem RoomKept.inputs {x y : Room} (h : RoomKept x y) : y.inputs = x.inputs := by
  simp only [Room.inputs, h.cfg, h.service, h.safe, h.hold, h.gov, h.trim, h.agenda, h.oce]

/-- What follows an effect changes none of the inputs. -/
theorem Follows.inputsKept {s t : State} (h : Follows s t) : InputsKept s t :=
  ⟨fun r => (h.rooms r).inputs, fun g => by rw [h.groups], h.profiles, h.openFirst, h.openLast, h.scenes, h.economy,
   h.cap⟩

/-! ## The same inputs give the same outputs -/

namespace PartGroup
variable {p q : PartGroup} (h : q.inputs = p.inputs)
include h

theorem leader_of_inputs : q.leader = p.leader := congrArg GroupInputs.leader h

theorem rooms_of_inputs : q.others.map (·.1) = p.others.map (·.1) := congrArg GroupInputs.others h

theorem members_of_inputs : q.members = p.members := by
  simp only [PartGroup.members, leader_of_inputs h, rooms_of_inputs h]

theorem state_of_inputs : q.state = p.state := congrArg GroupInputs.state h

theorem tally_of_inputs : q.shared.tally = p.shared.tally := congrArg GroupInputs.tally h

theorem presence_of_inputs : q.shared.presence = p.shared.presence := congrArg GroupInputs.presence h

end PartGroup

theorem occupantFigure_congr {e e' : Estimate} (tally : e'.tally = e.tally) (presence : e'.presence = e.presence)
    (svc : Service) (counting : Bool) (attendance walkIn : Nat) :
    occupantFigure svc counting e' attendance walkIn = occupantFigure svc counting e attendance walkIn := by
  simp only [occupantFigure, tally, presence]

theorem sumOver_congr {s t : State} {f : Room → Nat} (same : ∀ r, f (t.room r) = f (s.room r)) (rs : List RoomId) :
    t.sumOver rs f = s.sumOver rs f := by simp only [State.sumOver, same]

namespace InputsKept
variable {s t : State} (h : InputsKept s t)
include h

theorem cfg (r : RoomId) : (t.room r).cfg = (s.room r).cfg := congrArg RoomInputs.cfg (h.rooms r)

theorem service (r : RoomId) : (t.room r).ctx.service = (s.room r).ctx.service := congrArg RoomInputs.service (h.rooms r)

theorem safe (r : RoomId) : (t.room r).ctx.safe = (s.room r).ctx.safe := congrArg RoomInputs.safe (h.rooms r)

theorem hold (r : RoomId) : (t.room r).ctx.hold.map Hold.outputs = (s.room r).ctx.hold.map Hold.outputs :=
  congrArg RoomInputs.hold (h.rooms r)

theorem gov (r : RoomId) : (t.room r).ctx.gov = (s.room r).ctx.gov := congrArg RoomInputs.gov (h.rooms r)

theorem trim (r : RoomId) : (t.room r).ctx.trim = (s.room r).ctx.trim := congrArg RoomInputs.trim (h.rooms r)

theorem agenda (r : RoomId) : (t.room r).agenda.map Entry.untimed = (s.room r).agenda.map Entry.untimed :=
  congrArg RoomInputs.agenda (h.rooms r)

theorem tally (r : RoomId) : (t.room r).oce.est.tally = (s.room r).oce.est.tally := congrArg RoomInputs.tally (h.rooms r)

theorem presence (r : RoomId) : (t.room r).oce.est.presence = (s.room r).oce.est.presence :=
  congrArg RoomInputs.presence (h.rooms r)

theorem co2 (r : RoomId) : (t.room r).oce.co2 = (s.room r).oce.co2 := congrArg RoomInputs.co2 (h.rooms r)

theorem lux (r : RoomId) : (t.room r).oce.lux = (s.room r).oce.lux := congrArg RoomInputs.lux (h.rooms r)

theorem theta (r : RoomId) : (t.room r).oce.theta = (s.room r).oce.theta := congrArg RoomInputs.theta (h.rooms r)

theorem hold_isSome (r : RoomId) : (t.room r).ctx.hold.isSome = (s.room r).ctx.hold.isSome := by
  simpa using congrArg Option.isSome (h.hold r)

/-! ### Groups and governing rooms -/

theorem groupOf (r : RoomId) : (t.groupOf r).map (Prod.map id PartGroup.inputs) =
    (s.groupOf r).map (Prod.map id PartGroup.inputs) := by
  simp only [State.groupOf, List.map_findSome?]
  congr 1
  funext g
  have same := h.groups g
  cases hs : s.groups.get g <;> cases ht : t.groups.get g <;> rw [hs, ht] at same <;> simp only [Option.map_some,
    Option.map_none, Option.some.injEq, reduceCtorEq] at same
  · simp [hs, ht]
  · simp only [Function.comp_apply, hs, ht, PartGroup.members_of_inputs same]
    split <;> simp [same]

/-- A room is in a MERGED group of the same members after as before, or in none. -/
theorem mergedOf (r : RoomId) : (s.mergedOf r = none ∧ t.mergedOf r = none) ∨
    ∃ g p q, s.mergedOf r = some (g, p) ∧ t.mergedOf r = some (g, q) ∧ q.inputs = p.inputs := by
  have same := h.groupOf r
  unfold State.mergedOf
  cases hs : s.groupOf r with
  | none =>
    rw [hs] at same
    exact .inl ⟨rfl, by rw [Option.map_eq_none_iff.1 same]⟩
  | some x =>
    obtain ⟨g, p⟩ := x
    rw [hs] at same
    obtain ⟨⟨g', q⟩, ht, pair⟩ := Option.map_eq_some_iff.1 same
    obtain ⟨rfl, inputs⟩ := Prod.mk.inj pair
    rw [ht]
    have state := PartGroup.state_of_inputs inputs
    by_cases merged : p.state = .merged
    · exact .inr ⟨g', p, q, by simp [merged], by simp [state, merged], inputs⟩
    · exact .inl ⟨by simp [merged], by simp [state, merged]⟩

theorem governor {p q : PartGroup} (same : q.inputs = p.inputs) : t.governor q = s.governor p := by
  simp only [State.governor, PartGroup.members_of_inputs same, PartGroup.leader_of_inputs same, h.service]

theorem govRoom (r : RoomId) : t.govRoom r = s.govRoom r := by
  unfold State.govRoom
  obtain ⟨hs, ht⟩ | ⟨g, p, q, hs, ht, same⟩ := h.mergedOf r
  · rw [hs, ht]
  · rw [hs, ht]; exact h.governor same

theorem base (r : RoomId) : t.base r = s.base r := by rw [State.base, State.base, h.govRoom, h.service]

theorem closed (r : RoomId) : t.closed r = s.closed r := by
  rw [State.closed, State.closed, State.inOpenRange, State.inOpenRange, h.cfg, h.openFirst, h.openLast]

theorem effective (r : RoomId) : t.effective r = s.effective r := by
  simp only [State.effective, h.cfg, h.safe, h.hold_isSome, h.closed, h.base]

/-! ### Governing entries -/

theorem ownEntry (r : RoomId) : (t.ownEntry r).map Entry.untimed = (s.ownEntry r).map Entry.untimed := by
  have find (a : List Entry) (k : Handle) :
      (entryOf a k).map Entry.untimed = entryOf (a.map Entry.untimed) k := by
    rw [entryOf, entryOf, List.find?_map]; rfl
  unfold State.ownEntry
  rw [h.gov]
  cases (s.room r).ctx.gov with
  | none => rfl
  | some k => exact (find _ k).trans ((congrArg (entryOf · k) (h.agenda r)).trans (find _ k).symm)

theorem attendance (r : RoomId) : attendanceOf (t.ownEntry r) = attendanceOf (s.ownEntry r) := by
  have read (e : Option Entry) : attendanceOf (e.map Entry.untimed) = attendanceOf e := by cases e <;> rfl
  rw [← read, h.ownEntry, read]

theorem govProfile (r : RoomId) : t.govProfile r = s.govProfile r := by
  have read (e : Option Entry) : profileIdOf (e.map Entry.untimed) = profileIdOf e := by cases e <;> rfl
  unfold State.govProfile State.govEntry
  rw [h.govRoom, h.profiles, ← read, h.ownEntry, read]

/-! ### Demand -/

theorem areaShare {p q : PartGroup} (same : q.inputs = p.inputs) (total : Nat) (r : RoomId) :
    t.areaShare q total r = s.areaShare p total r := by
  have others (f : RoomId → Nat) : (q.others.map fun o => f o.1) = p.others.map fun o => f o.1 := by
    have rooms := congrArg (List.map f) (PartGroup.rooms_of_inputs same)
    rw [List.map_map, List.map_map] at rooms
    exact rooms
  have areas := sumOver_congr (f := (·.cfg.area)) (fun r => congrArg RoomRec.area (h.cfg r)) p.members
  simp only [State.areaShare, PartGroup.members_of_inputs same, PartGroup.leader_of_inputs same, areas, h.cfg]
  rw [others fun m => total * (s.room m).cfg.area / s.sumOver p.members (·.cfg.area)]

theorem nEff (r : RoomId) : t.nEff r = s.nEff r := by
  unfold State.nEff
  obtain ⟨hs, ht⟩ | ⟨g, p, q, hs, ht, same⟩ := h.mergedOf r
  · rw [hs, ht]
    dsimp only
    rw [occupantFigure_congr (h.tally r) (h.presence r), h.service, h.cfg, h.attendance]
  · rw [hs, ht]
    have govAttendance : attendanceOf (t.govEntry r) = attendanceOf (s.govEntry r) := by
      unfold State.govEntry; rw [h.govRoom, h.attendance]
    dsimp only
    rw [occupantFigure_congr (PartGroup.tally_of_inputs same) (PartGroup.presence_of_inputs same),
      PartGroup.members_of_inputs same, h.base, govAttendance, h.areaShare same,
      sumOver_congr (f := (·.cfg.walkIn)) fun r => congrArg RoomRec.walkIn (h.cfg r)]
    simp only [h.cfg]

theorem serviceFigures (r : RoomId) (c : RoomRec) (svc : Service) (n : Nat) (p : Profile) :
    Machine.serviceFigures c svc n p (t.room r).oce = Machine.serviceFigures c svc n p (s.room r).oce := by
  simp only [Machine.serviceFigures, h.co2, h.theta]

theorem figures (r : RoomId) : t.figures r = s.figures r := by
  have same := h.hold r
  cases hs : (s.room r).ctx.hold <;> cases ht : (t.room r).ctx.hold <;> rw [hs, ht] at same <;>
    simp_all [Hold.outputs, State.figures, h.effective, h.nEff, h.base, h.govProfile, h.serviceFigures, h.cfg]

/-! ### Lighting -/

theorem cell (sc : SceneId) (ch : ChannelId) : t.cell sc ch = s.cell sc ch := by rw [State.cell, State.cell, h.scenes]

theorem litState (r : RoomId) : t.litState r = s.litState r := by
  simp only [State.litState, h.effective, h.hold_isSome, h.closed, h.base]

theorem sceneLevel (e : Effective) (sc : SceneId) (ch : ChannelId) : t.sceneLevel e sc ch = s.sceneLevel e sc ch := by
  simp only [State.sceneLevel, h.cell]

theorem dimmed (r : RoomId) (l : Nat) (ch : ChannelId) : t.dimmed r l ch = s.dimmed r l ch := by
  simp only [State.dimmed, h.cfg, h.lux, h.govProfile]

theorem formLight (r : RoomId) : t.formLight r = s.formLight r := by
  have same := h.hold r
  cases hs : (s.room r).ctx.hold <;> cases ht : (t.room r).ctx.hold <;> rw [hs, ht] at same <;>
    simp_all [Hold.outputs, State.formLight, h.litState, h.cell, h.cfg, h.economy, h.cap, h.govProfile, h.trim,
      h.sceneLevel, h.dimmed]

end InputsKept

end Sys2Proof.Machine
end

section
/-! PROOFS. The few ways in which a step moves demand records, lighting records and allocation passes, and what each of
them keeps: every output follows its inputs, and every pass stays within its capacity (R126, R130, R142, R153). -/
namespace Sys2Proof.Machine

/-! ## What a step may do to outputs and passes -/

/-- No pass has started or completed. -/
structure PassesKept (s t : State) : Prop where
  last : ∀ g, (t.airs.get g).last = (s.airs.get g).last
  running : ∀ g, (t.airs.get g).running = (s.airs.get g).running

/-- Demand records, lighting records, the inputs of both and the passes are all as they were. -/
structure OutputsHeld (s t : State) : Prop where
  inputs : InputsKept s t
  air : ∀ r, (t.room r).air = (s.room r).air
  light : ∀ r, (t.room r).light = (s.room r).light
  passes : PassesKept s t

/-- All that any step does to demand, lighting and passes. -/
inductive OutputMoves : State → State → Prop
  /-- nothing of them moves, and nothing that they are formed from -/
  | held {s t : State} : OutputsHeld s t → OutputMoves s t
  /-- an effect that leaves the passes alone, with everything that follows it -/
  | finished {s u : State} (before : State) (touched : RoomId → Bool) :
      PassesKept s u → OutputMoves s (u.finishWith before touched)
  /-- pending passes start -/
  | started (s : State) : OutputMoves s s.startPasses
  /-- a running pass completes -/
  | completed (s : State) (g : AirId) : OutputMoves s (s.completePass g)
  /-- a warm reset -/
  | restarted (s : State) (cause : ResetCause) : OutputMoves s (s.warmReset cause)
  /-- a power-on -/
  | powered (s : State) : OutputMoves s s.powerOn
  /-- one after another -/
  | trans {s t u : State} : OutputMoves s t → OutputMoves t u → OutputMoves s u

theorem PassesKept.of_airs {s t : State} (h : t.airs = s.airs) : PassesKept s t :=
  ⟨fun g => by rw [h], fun g => by rw [h]⟩

theorem PassesKept.refl (s : State) : PassesKept s s := .of_airs rfl

theorem PassesKept.trans {s t u : State} (a : PassesKept s t) (b : PassesKept t u) : PassesKept s u :=
  ⟨fun g => (b.last g).trans (a.last g), fun g => (b.running g).trans (a.running g)⟩

theorem PassesKept.foldl {α : Type} {f : State → α → State} (h : ∀ s a, PassesKept s (f s a)) (l : List α)
    (s : State) : PassesKept s (l.foldl f s) := by
  induction l generalizing s with
  | nil => exact .refl s
  | cons a l ih => exact (h s a).trans (ih _)

theorem RoomWork.passesKept {s t : State} (h : RoomWork s t) : PassesKept s t := .of_airs h.airs

/-- A change of every air group that leaves its passes alone. -/
theorem PassesKept.mapIdx (s : State) {f : AirId → AirGroup → AirGroup}
    (h : ∀ g a, (f g a).last = a.last ∧ (f g a).running = a.running) :
    PassesKept s { s with airs := s.airs.mapIdx f } :=
  ⟨fun g => by rw [Table.get_mapIdx]; exact (h g _).1, fun g => by rw [Table.get_mapIdx]; exact (h g _).2⟩

theorem fire_passes (a : AirGroup) (k : Trigger) : (a.fire k).last = a.last ∧ (a.fire k).running = a.running := by
  unfold AirGroup.fire; split <;> exact ⟨rfl, rfl⟩

theorem PassesKept.fireMembers (s b : State) (p : RoomId → Bool) : PassesKept s (s.fireMembers b p) := by
  refine .mapIdx s fun g a => ?_
  dsimp only
  split
  · exact fire_passes ..
  · exact ⟨rfl, rfl⟩

theorem PassesKept.modifyAirGroup (s : State) (g : AirId) {f : AirGroup → AirGroup}
    (h : ∀ a, (f a).last = a.last ∧ (f a).running = a.running) : PassesKept s (s.modifyAirGroup g f) := by
  have get (k : AirId) : (s.modifyAirGroup g f).airs.get k = if k = g then f (s.airs.get g) else s.airs.get k :=
    Table.get_modify ..
  constructor <;> intro k <;> rw [get] <;> split
  · subst_vars; exact (h _).1
  · rfl
  · subst_vars; exact (h _).2
  · rfl

/-! ## Outputs that follow their inputs -/

theorem Demand.take_take (a : Demand) (c : RoomRec) (x : Figures) : (a.take c x).take c x = a.take c x := by
  unfold Demand.take
  cases c.enabled <;> cases c.airGroup <;> rfl

/-- Where demand and lighting have just been formed, and nothing they are formed from has moved since, they follow. -/
theorem outputsFollow_of_followed {u t : State} (kept : InputsKept u.follow t)
    (air : ∀ r, (t.room r).air = (u.follow.room r).air) (light : ∀ r, (t.room r).light = (u.follow.room r).light) :
    OutputsFollow t := fun r => by
  have inputs : InputsKept u t := (Follows.follow u).inputsKept.trans kept
  have recomputed : InputsKept u u.recompute := (Follows.mapRooms u fun r => { RoomKept.refl _ with }).inputsKept
  rw [air, light, room_follow_air, room_follow_light, inputs.figures, inputs.formLight, inputs.cfg,
    recomputed.formLight]
  exact ⟨(Demand.take_take ..).symm, rfl⟩

/-- The parts of a room that nothing after the following of inputs touches. -/
theorem room_finishWith_outputs (u b : State) (p : RoomId → Bool) (r : RoomId) :
    ((u.finishWith b p).room r).air = (u.follow.room r).air ∧
      ((u.finishWith b p).room r).light = (u.follow.room r).light := by
  obtain ⟨q, hq⟩ := room_takeNext ((u.follow.noteRooms (u.follow.roomMoved b)).fireMembers b p).startPasses r
  have last : (u.finishWith b p).room r =
      { u.follow.room r with ctx := { (u.follow.room r).ctx with requests := q } } := hq
  rw [last]
  exact ⟨rfl, rfl⟩

theorem follows_finishWith_followed (u b : State) (p : RoomId → Bool) : Follows u.follow (u.finishWith b p) :=
  ((Follows.noteRooms ..).trans (.fireMembers ..)).trans ((Follows.startPasses _).trans (.takeNext _))

theorem outputsFollow_finishWith (u b : State) (p : RoomId → Bool) : OutputsFollow (u.finishWith b p) :=
  outputsFollow_of_followed (follows_finishWith_followed u b p).inputsKept
    (fun r => (room_finishWith_outputs u b p r).1) fun r => (room_finishWith_outputs u b p r).2

theorem outputsFollow_warmReset (s : State) (cause : ResetCause) : OutputsFollow (s.warmReset cause) := by
  refine outputsFollow_of_followed (u := s.restarted cause) ((Follows.startPasses _).trans (.takeNext _)).inputsKept
    (fun r => ?_) fun r => ?_
  all_goals
    obtain ⟨q, hq⟩ := room_takeNext (s.restarted cause).follow.startPasses r
    rw [State.warmReset, hq]
    rfl

theorem OutputsFollow.of_held {s t : State} (h : OutputsFollow s) (held : OutputsHeld s t) : OutputsFollow t :=
  fun r => by
    rw [held.air, held.light, held.inputs.figures, held.inputs.formLight, held.inputs.cfg]
    exact h r

theorem room_completePass {s : State} {g : AirId} {p : PassRecord} (running : (s.airs.get g).running = some p)
    (r : RoomId) : (s.completePass g).room r = storeGrant g p r (s.room r) := by
  simp only [State.completePass, running]
  exact room_mapRooms ..

/-- A completed pass moves nothing of a room but grant and tier, and these only in a member (R133, R142). -/
theorem storeGrant_cases (g : AirId) (p : PassRecord) (r : RoomId) (x : Room) : storeGrant g p r x = x ∨
    (x.cfg.enabled = true ∧ x.cfg.airGroup = some g ∧ ∃ m, p.members.find? (fun m => m.room == r) = some m ∧
      storeGrant g p r x = { x with air := { x.air with grant := m.grant, tier := some m.tier } }) := by
  unfold storeGrant
  split
  · rename_i m found
    by_cases member : x.cfg.enabled = true ∧ x.cfg.airGroup = some g
    · exact .inr ⟨member.1, member.2, m, found, by simp [member]⟩
    · exact .inl (if_neg (by simpa using member))
  · exact .inl rfl

theorem storeGrant_inputs (g : AirId) (p : PassRecord) (r : RoomId) (x : Room) :
    (storeGrant g p r x).inputs = x.inputs := by
  obtain same | ⟨-, -, m, -, stored⟩ := storeGrant_cases g p r x
  · rw [same]
  · rw [stored]; rfl

theorem OutputsFollow.completePass {s : State} (h : OutputsFollow s) (g : AirId) : OutputsFollow (s.completePass g) := by
  cases running : (s.airs.get g).running with
  | none => simpa only [State.completePass, running] using h
  | some p =>
    have room := room_completePass running
    have inputs : InputsKept s (s.completePass g) := by
      have rooms (r : RoomId) : ((s.completePass g).room r).inputs = (s.room r).inputs := by
        rw [room]; exact storeGrant_inputs ..
      simp only [State.completePass, running] at rooms ⊢
      exact ⟨rooms, fun _ => rfl, rfl, rfl, rfl, rfl, rfl, rfl⟩
    intro r
    rw [inputs.figures, inputs.formLight, room]
    obtain same | ⟨on, member, m, -, stored⟩ := storeGrant_cases g p r (s.room r)
    · rw [same]; exact h r
    · rw [stored]
      have formed := (h r).1
      refine ⟨?_, (h r).2⟩
      simp only [Demand.take, on, member] at formed ⊢
      rw [formed]
      rfl

/-- Whatever a step does to outputs and passes, outputs that followed their inputs follow them after it. -/
theorem OutputsFollow.of_moves {s t : State} (h : OutputsFollow s) (moves : OutputMoves s t) : OutputsFollow t := by
  induction moves with
  | held kept => exact h.of_held kept
  | finished b p _ => exact outputsFollow_finishWith _ b p
  | started s => exact h
  | completed s g => exact h.completePass g
  | restarted s cause => exact outputsFollow_warmReset s cause
  | powered s => exact outputsFollow_reset
  | trans _ _ first second => exact second (first h)

/-! ## Passes within their capacity -/

/-- Every pass done or running is within its capacity. -/
def PassesOk (s : State) : Prop :=
  ∀ g, PassOk (s.airs.get g).last ∧ ∀ p, (s.airs.get g).running = some p → PassOk p

/-- Every floor is within its demand. -/
def FloorsOk (s : State) : Prop := ∀ r, (s.room r).air.f ≤ (s.room r).air.d

theorem airOk_iff (s : State) : AirOk s ↔ FloorsOk s ∧ PassesOk s := Iff.rfl

theorem PassesOk.of_kept {s t : State} (h : PassesOk s) (kept : PassesKept s t) : PassesOk t := fun g => by
  rw [kept.last, kept.running]; exact h g

theorem passOk_empty : PassOk PassRecord.empty := by simp [PassOk, PassRecord.empty]

theorem tierOf_range (e : Effective) : 1 ≤ tierOf e ∧ tierOf e ≤ 3 := by
  cases e with
  | service svc => cases svc <;> decide
  | safe => decide
  | hold => decide
  | closed => decide

/-- A pass over members whose floors are within their demands is within its capacity (R142). -/
theorem passOk_runPass {s : State} (floors : FloorsOk s) (c : Nat) (triggers : TriggerSet) (rs : List RoomId) :
    PassOk (runPass c triggers (rs.map s.passMember)) := by
  have fit : ∀ m ∈ rs.map s.passMember, m.f ≤ m.d ∧ 1 ≤ m.tier ∧ m.tier ≤ 3 := fun m hm => by
    obtain ⟨r, -, rfl⟩ := List.mem_map.1 hm
    exact ⟨floors r, tierOf_range _⟩
  obtain ⟨sum, -, capacity, -, grants, -⟩ := passWithinCapacity c triggers _ fit
  refine ⟨by rw [capacity]; exact sum, fun m hm => ⟨grants m hm, ?_⟩⟩
  obtain ⟨grant, members⟩ := runPass_members c triggers (rs.map s.passMember)
  obtain ⟨n, hn, rfl⟩ := List.mem_map.1 (members ▸ hm)
  exact (fit n hn).1

theorem PassesOk.startPasses {s : State} (h : PassesOk s) (floors : FloorsOk s) : PassesOk s.startPasses := fun g => by
  rw [State.startPasses, Table.get_mapIdx]
  unfold State.startPass
  split
  · exact ⟨(h g).1, fun p hp => by cases hp; exact passOk_runPass floors ..⟩
  · exact h g

theorem FloorsOk.of_air {s t : State} (h : FloorsOk s) (air : ∀ r, (t.room r).air = (s.room r).air) : FloorsOk t :=
  fun r => by rw [air]; exact h r

/-- A demand record just recomputed has its floor within its demand, whatever it was (R130, R131). -/
theorem floorsOk_follow (u : State) : FloorsOk u.follow := fun r => by
  rw [room_follow_air]; exact figures_floor_le u r

theorem airOk_finishWith {u : State} (h : PassesOk u) (b : State) (p : RoomId → Bool) : AirOk (u.finishWith b p) := by
  have fired : PassesOk ((u.follow.noteRooms (u.follow.roomMoved b)).fireMembers b p) :=
    PassesOk.of_kept (s := u.follow.noteRooms (u.follow.roomMoved b)) h (.fireMembers ..)
  have started := fired.startPasses (floorsOk_follow u)
  exact ⟨(floorsOk_follow u).of_air fun r => (room_finishWith_outputs u b p r).1, started.of_kept (.of_airs (takeNext_airs _))⟩

theorem airOk_warmReset (s : State) (cause : ResetCause) : AirOk (s.warmReset cause) := by
  have fresh : PassesOk (s.restarted cause).follow := fun g => by
    have air : (s.restarted cause).follow.airs.get g = (s.airs.get g).restart := airs_restarted s cause g
    rw [air]
    exact ⟨passOk_empty, fun p hp => by cases hp⟩
  have started := fresh.startPasses (floorsOk_follow _)
  refine ⟨(floorsOk_follow (s.restarted cause)).of_air fun r => ?_, started.of_kept (.of_airs (takeNext_airs _))⟩
  obtain ⟨q, hq⟩ := room_takeNext (s.restarted cause).follow.startPasses r
  rw [State.warmReset, hq]
  rfl

theorem AirOk.completePass {s : State} (h : AirOk s) (g : AirId) : AirOk (s.completePass g) := by
  cases running : (s.airs.get g).running with
  | none => simpa only [State.completePass, running] using h
  | some p =>
    obtain ⟨floors, passes⟩ := h
    refine ⟨fun r => ?_, fun k => ?_⟩
    · rw [room_completePass running]
      obtain same | ⟨-, -, m, -, stored⟩ := storeGrant_cases g p r (s.room r)
      · rw [same]; exact floors r
      · rw [stored]; exact floors r
    · have air : (s.completePass g).airs.get k = if k = g then (s.airs.get g).complete p else s.airs.get k := by
        simp only [State.completePass, running]; exact Table.get_set ..
      rw [air]
      split
      · exact ⟨(passes g).2 p running, fun q hq => by cases hq⟩
      · exact passes k

/-- Whatever a step does to outputs and passes, floors stay within demands and passes within capacities. -/
theorem AirOk.of_moves {s t : State} (h : AirOk s) (moves : OutputMoves s t) : AirOk t := by
  induction moves with
  | held kept => exact ⟨FloorsOk.of_air h.1 kept.air, PassesOk.of_kept h.2 kept.passes⟩
  | finished b p kept => exact airOk_finishWith (PassesOk.of_kept h.2 kept) b p
  | started s => exact ⟨h.1, PassesOk.startPasses h.2 h.1⟩
  | completed s g => exact h.completePass g
  | restarted s cause => exact airOk_warmReset s cause
  | powered s => exact airOk_reset
  | trans _ _ first second => exact second (first h)

end Sys2Proof.Machine
end

section
/-! PROOFS. What the effects of commands and events leave of the air groups: all but a change of air group and the absence
of the host leave them alone, and those two start and complete no pass (R8, R137, R138). -/
namespace Sys2Proof.Machine

/-! ## Booking, clock and closures -/

section Operations
variable (s : State)

theorem airs_createBooking (now : Instant) (f : BookingFields) : (s.createBooking now f).1.airs = s.airs := by
  unfold State.createBooking
  repeat' split
  all_goals first
    | rfl
    | exact ((RoomWork.placeToday ..).trans (.reportChanges ..)).airs

theorem airs_amendBooking (now : Instant) (h : Handle) (f : BookingFields) :
    (s.amendBooking now h f).1.airs = s.airs := by
  cases hr : s.resolve h with
  | refused e => rw [amendBooking_refused hr]; rfl
  | live k old =>
    cases hf : recordOf f with
    | none => rw [amendBooking_range hr hf]; rfl
    | some p =>
      rw [amendBooking_checks hr hf]
      repeat' split
      all_goals first
        | rfl
        | exact ((OnlyAgendas.amendAgendas ..).roomWork.trans (.reportChanges ..)).airs

theorem airs_cancelBooking (h : Handle) : (s.cancelBooking h).1.airs = s.airs := by
  unfold State.cancelBooking; split
  · rfl
  · exact ((RoomWork.removeHandle ..).trans (.reportChanges ..)).airs

theorem airs_suspendBooking (h : Handle) : (s.suspendBooking h).1.airs = s.airs := by
  unfold State.suspendBooking; split
  · rfl
  · exact ((RoomWork.removeHandle ..).trans (.reportChanges ..)).airs

theorem airs_resumeBooking (now : Instant) (h : Handle) : (s.resumeBooking now h).1.airs = s.airs := by
  unfold State.resumeBooking; dsimp only
  repeat' split
  all_goals first
    | rfl
    | exact ((RoomWork.placeToday ..).trans (.reportChanges ..)).airs

theorem airs_setClock (d : Date) (m : Nat) : (s.setClock d m).1.airs = s.airs := by
  unfold State.setClock; split
  · rfl
  · split
    · exact (RoomWork.jump ..).airs
    · exact ((RoomWork.buildAll ..).airs.trans (RoomWork.mapAgendas _ fun _ _ => []).airs).trans
        (RoomWork.retire (s.putClock d m) d).airs

theorem airs_addClosure (now : Instant) (d : Date) : (s.addClosure now d).1.airs = s.airs := by
  unfold State.addClosure; dsimp only
  repeat' split
  all_goals first
    | rfl
    | exact (RoomWork.reportChanges ..).airs

theorem airs_removeClosure (now : Instant) (d : Date) : (s.removeClosure now d).1.airs = s.airs := by
  unfold State.removeClosure; dsimp only
  split
  · rfl
  · split
    · rfl
    · refine (RoomWork.reportChanges ..).airs.trans ?_
      split
      · exact (OnlyAgendas.broughtBack _ now allRooms).roomWork.airs
      · rfl

theorem airs_serveNote (kind : NoteKind) (h : Handle) : (s.serveNote kind h).airs = s.airs := by
  unfold State.serveNote; dsimp only
  repeat' split
  all_goals first
    | rfl
    | exact ((RoomWork.removeHandle ..).trans (.reportChanges ..)).airs

theorem airs_extend (now : Instant) (r : RoomId) (h : Handle) (step : Nat) :
    (s.extend now r h step).1.airs = s.airs := by
  unfold State.extend; split
  · exact ((RoomWork.mapHandle ..).trans (.reportChanges ..)).airs
  · rfl

theorem airs_extendForHost (now : Instant) (r : RoomId) (h : Handle) (step : Nat) :
    (s.extendForHost now r h step).1.airs = s.airs := by
  have same := airs_extend s now r h step
  unfold State.extendForHost
  split <;> simp_all

theorem airs_serveRoom (now : Instant) (r : RoomId) (q : RoomReq) : (s.serveRoom now r q).airs = s.airs := by
  cases q with
  | note kind h => exact airs_serveNote ..
  | extend h step => exact airs_extend s now r h step

theorem airs_endRebuild : s.endRebuild.airs = s.airs := by
  unfold State.endRebuild; dsimp only
  repeat' split
  all_goals rfl

theorem airs_stepEffect (now : Instant) (st : CalStep) : (s.stepEffect now st).airs = s.airs := by
  cases st with
  | retire => exact (RoomWork.retire s now.date).airs
  | build r => exact (airs_endRebuild _).trans (RoomWork.build s now r).airs
  | termEnd => exact (RoomWork.termStepped s).airs

/-! ## Configuration -/

theorem airs_leaveSafe (r : RoomId) : (s.leaveSafe r).airs = s.airs := (RoomWork.leaveSafe s r).airs

theorem airs_readdress (r : RoomId) (address : Nat) : (s.readdress r address).airs = s.airs :=
  (readdress_after s r address).1.airs.trans (airs_leaveSafe s r)

theorem airs_recorded (r : RoomId) (c : RoomRec) : (s.recorded r c).airs = s.airs := by
  unfold State.recorded; dsimp only; split
  · rfl
  · exact airs_readdress ..

theorem airs_refitTally (r : RoomId) (off : Bool) : (s.refitTally r off).airs = s.airs := by
  unfold State.refitTally; dsimp only
  repeat' split
  all_goals rfl

/-- A room that moves between air groups fires CAPACITY_WRITE in both, and starts no pass yet (R8, R137). -/
theorem PassesKept.moveAirGroup (r : RoomId) (old new : Option AirId) :
    PassesKept s (s.moveAirGroup r old new) := by
  have fired (t : State) (g : AirId) : PassesKept t (t.modifyAirGroup g fun a => a.fire .capacityWrite) :=
    .modifyAirGroup t g fun a => fire_passes a _
  have moved : PassesKept s (s.modifyAir r fun a => { a with grant := 0 }) := .of_airs rfl
  unfold State.moveAirGroup; dsimp only
  split
  · exact .refl s
  · cases old <;> cases new
    · exact moved
    · exact moved.trans (fired ..)
    · exact moved.trans (fired ..)
    · exact (moved.trans (fired ..)).trans (fired ..)

theorem PassesKept.rewriteRoom (r : RoomId) (c : RoomRec) : PassesKept s (s.rewriteRoom r c) := by
  rw [rewriteRoom_eq]
  have refitted (off : Bool) : PassesKept s ((s.recorded r c).refitTally r off) :=
    .of_airs ((airs_refitTally ..).trans (airs_recorded s r c))
  exact ((refitted _).trans (.moveAirGroup ..)).trans (.of_airs rfl)

theorem PassesKept.applyRoom (r : RoomId) (c : RoomRec) : PassesKept s (s.applyRoom r c) := by
  unfold State.applyRoom; split
  · exact .of_airs rfl
  · exact .of_airs rfl
  · exact .rewriteRoom ..
  · exact .of_airs rfl

theorem PassesKept.writeRoom (r : RoomId) (w : RoomWrite) : PassesKept s (s.writeRoom r w).1 := by
  unfold State.writeRoom; split
  · exact .refl s
  · exact .applyRoom ..

theorem PassesKept.writeRoomStored (n : Nat) (w : RoomWrite) : PassesKept s (s.writeRoomStored n w).1 := by
  unfold State.writeRoomStored
  repeat' split
  all_goals first
    | exact .refl s
    | exact .writeRoom ..

theorem airs_writeWing (gap : Nat) (b : Band) (silence : Nat) (check : State → Nat → Option Result) :
    (s.writeWing gap b silence check).1.airs = s.airs := by
  unfold State.writeWing; dsimp only
  repeat' split
  all_goals rfl

theorem airs_writePartition (n : Nat) (rooms : List Nat) : (s.writePartition n rooms).1.airs = s.airs := by
  unfold State.writePartition
  repeat' split
  all_goals first
    | rfl
    | exact (RoomWork.splitIfMerged ..).airs

theorem airs_deletePartition (n : Nat) : (s.deletePartition n).1.airs = s.airs := by
  unfold State.deletePartition
  repeat' split
  all_goals first
    | rfl
    | exact (RoomWork.splitIfMerged ..).airs

/-! ## Store operations -/

theorem PassesKept.hostEffect (now : Instant) (op : HostOp) : PassesKept s (s.hostEffect now op).1 := by
  cases op with
  | extend r h step => exact .of_airs (airs_extendForHost ..)
  | command c =>
    cases c
    case createBooking => exact .of_airs (airs_createBooking ..)
    case amendBooking => exact .of_airs (airs_amendBooking ..)
    case cancelBooking => exact .of_airs (airs_cancelBooking ..)
    case suspendBooking => exact .of_airs (airs_suspendBooking ..)
    case resumeBooking => exact .of_airs (airs_resumeBooking ..)
    case setClock => exact .of_airs (airs_setClock ..)
    case addClosure => exact .of_airs (airs_addClosure ..)
    case removeClosure => exact .of_airs (airs_removeClosure ..)
    case writeRoom => exact .writeRoomStored ..
    case writeWing => exact .of_airs (airs_writeWing ..)
    case writePartition => exact .of_airs (airs_writePartition ..)
    case deletePartition => exact .of_airs (airs_deletePartition ..)
    all_goals exact .refl s

theorem PassesKept.opEffect (run : Running) : PassesKept s (s.opEffect run) := by
  unfold State.opEffect; split
  · exact (PassesKept.hostEffect ..).trans (RoomWork.completeCommand ..).passesKept
  · exact .of_airs (airs_serveRoom ..)
  · exact .of_airs (airs_stepEffect ..)

/-! ## The open range, stations and the host -/

theorem airs_applyOpenRange (first last : RoomId) : (s.applyOpenRange first last).airs = s.airs :=
  (RoomWork.offerWork (s.rangeTaken first last) .rangeDone).airs.trans (RoomWork.rangeTaken s first last).airs

theorem airs_enterSafe (r : RoomId) : (s.enterSafe r).airs = s.airs := by
  unfold State.enterSafe
  exact (RoomWork.offerWork ..).airs.trans (RoomWork.freezeRoom (s.modifyCtx r _) r).airs

theorem airs_gradeStation (r : RoomId) (was : StationState) (health : Nat) :
    (s.gradeStation r was health).airs = s.airs := by
  unfold State.gradeStation; dsimp only; split <;> rfl

theorem airs_setpointFailed (r : RoomId) (x : Station) : (s.setpointFailed r x).airs = s.airs := by
  unfold State.setpointFailed; split
  · exact airs_enterSafe ..
  · exact airs_gradeStation ..

theorem airs_failedAt (x : Exchange) (code : Nat) : (s.failedAt x code).airs = s.airs := by
  unfold State.failedAt; split
  · rfl
  · dsimp only; split
    · exact airs_setpointFailed ..
    · rfl

theorem airs_logFailure : s.logFailure.airs = s.airs := by
  unfold State.logFailure; split <;> rfl

theorem airs_fail (x : Exchange) (code : Nat) : (s.fail x code).airs = s.airs := by
  have logged := airs_logFailure { s with loop := { s.loop with exchange := none } }
  unfold State.fail; dsimp only; split
  · exact logged
  · exact (airs_failedAt ..).trans logged

theorem airs_takeEvent (r : RoomId) (rep : Report) : (s.takeEvent r rep).airs = s.airs := by
  cases station : (s.room r).station with
  | none => rw [State.takeEvent, station]
  | some y => exact (RoomWork.takeEvent (rep := rep) station).airs

theorem airs_deliverReport (r : RoomId) (rep : Report) : (s.deliverReport r rep).airs = s.airs := by
  have restarted : (if rep.flags.restarted then s.modifyStation r fun x => { x with lastEvent := none } else s).airs =
      s.airs := by split <;> rfl
  exact (airs_takeEvent ..).trans ((RoomWork.told ..).airs.trans restarted)

theorem airs_goodAt (x : Exchange) (rep : Report) : (s.goodAt x rep).airs = s.airs := by
  unfold State.goodAt; split
  · rfl
  · dsimp only; repeat' split
    · exact (airs_deliverReport ..).trans (airs_gradeStation ..)
    · exact airs_leaveSafe ..
    · rfl

theorem airs_succeed (x : Exchange) (rep : Report) : (s.succeed x rep).airs = s.airs := by
  unfold State.succeed; dsimp only; split
  · rfl
  · exact airs_goodAt ..

/-- The absence of the host fires CAPACITY_WRITE in every group, and starts no pass yet (R138, R199). -/
theorem PassesKept.hostAbsent : PassesKept s s.hostAbsent := by
  have fallen (a : AirGroup) : a.fallBack.last = a.last ∧ a.fallBack.running = a.running :=
    fire_passes { a with capacity := a.fallback } .capacityWrite
  have kept := PassesKept.mapIdx s (f := fun _ a => a.fallBack) fun _ a => fallen a
  exact ⟨kept.last, kept.running⟩

/-! ## The clock -/

theorem airs_overrunChecks : s.overrunChecks.airs = s.airs := (RoomWork.foldl RoomWork.overrunCheck ..).airs

theorem airs_offerWork (w : CalWork) : (s.offerWork w).airs = s.airs := (RoomWork.offerWork s w).airs

end Operations

end Sys2Proof.Machine
end

section
/-! PROOFS. Every command and every event moves demand, lighting and passes only in the few ways of `OutputMoves`, so
every step keeps what these ways keep (R126, R130, R142, R153). -/
namespace Sys2Proof.Machine

/-! ## Changes that outputs and passes do not notice -/

theorem OutputsHeld.refl (s : State) : OutputsHeld s s := ⟨.refl s, fun _ => rfl, fun _ => rfl, .refl s⟩

theorem OutputMoves.refl (s : State) : OutputMoves s s := .held (.refl s)

theorem OutputMoves.foldl {α : Type} {f : State → α → State} (h : ∀ s a, OutputMoves s (f s a)) (l : List α)
    (s : State) : OutputMoves s (l.foldl f s) := by
  induction l generalizing s with
  | nil => exact .refl s
  | cons a l ih => exact (h s a).trans (ih _)

/-- A change of port, store, calendar, wing parameters, façades, window, loop or clocks alone. -/
theorem OutputMoves.elsewhere {s t : State}
    (h : t = { s with port := t.port, store := t.store, cal := t.cal, setback := t.setback, oceNow := t.oceNow,
                      window := t.window, facades := t.facades, loop := t.loop, divider := t.divider,
                      pending := t.pending }) : OutputMoves s t := by
  rw [h]
  exact .held ⟨⟨fun _ => rfl, fun _ => rfl, rfl, rfl, rfl, rfl, rfl, rfl⟩, fun _ => rfl, fun _ => rfl, .of_airs rfl⟩

/-- A change of one room that outputs do not read. -/
theorem OutputMoves.modifyRoom (s : State) (r : RoomId) {f : Room → Room}
    (h : ∀ x, (f x).inputs = x.inputs ∧ (f x).air = x.air ∧ (f x).light = x.light) :
    OutputMoves s (s.modifyRoom r f) := by
  refine .held ⟨⟨fun q => ?_, fun _ => rfl, rfl, rfl, rfl, rfl, rfl, rfl⟩, fun q => ?_, fun q => ?_, .of_airs rfl⟩ <;>
    rw [room_modifyRoom] <;> split <;> simp_all

theorem OutputMoves.modifyStation (s : State) (r : RoomId) (f : Station → Station) :
    OutputMoves s (s.modifyStation r f) := .modifyRoom s r fun _ => ⟨rfl, rfl, rfl⟩

/-- A change of one air group's record or timer. -/
theorem OutputMoves.modifyAirGroup (s : State) (g : AirId) {f : AirGroup → AirGroup}
    (h : ∀ a, (f a).last = a.last ∧ (f a).running = a.running) : OutputMoves s (s.modifyAirGroup g f) :=
  .held { OutputsHeld.refl s with inputs := ⟨fun _ => rfl, fun _ => rfl, rfl, rfl, rfl, rfl, rfl, rfl⟩,
                                  passes := .modifyAirGroup s g h }

theorem OutputMoves.takeNext (s : State) : OutputMoves s s.takeNext := by
  refine .held ⟨(Follows.takeNext s).inputsKept, fun r => ?_, fun r => ?_, .of_airs (takeNext_airs s)⟩ <;>
    obtain ⟨q, hq⟩ := room_takeNext s r <;> rw [hq]

theorem OutputMoves.respond (s : State) (c : Instr) (late : Bool) (e : Status) (x : Result) :
    OutputMoves s (s.respond c late e x) := .elsewhere rfl

/-- An effect that leaves the air groups alone, with what follows it. -/
theorem OutputMoves.finish {s u : State} (h : u.airs = s.airs) (before : State) : OutputMoves s (u.finish before) :=
  .finished before _ (.of_airs h)

/-! ## Commands as they arrive -/

theorem OutputMoves.arrive {act : State → State} (h : ∀ t, OutputMoves t (act t)) (s : State) :
    OutputMoves s (s.arrive act) := by
  unfold State.arrive; split
  · exact .elsewhere rfl
  · exact h s

theorem OutputMoves.hostHeard_arrive {act : State → State} (h : ∀ t, OutputMoves t (act t)) (s : State) :
    OutputMoves s (s.hostHeard.arrive act) := .trans (.elsewhere rfl) (.arrive h s.hostHeard)

theorem OutputMoves.queued {act : State → Answered} (h : ∀ t, OutputMoves t (act t).1) (s : State) (c : Instr) :
    OutputMoves s (s.queued c act) := .hostHeard_arrive (fun t => (h t).trans (.respond ..)) s

theorem OutputMoves.queuedRead (s : State) (c : Instr) (answer : State → Status × Result) :
    OutputMoves s (s.queuedRead c answer) := .queued (fun t => .refl t) s c

/-- What a command with an effect answers: no pass starts in the effect itself, and a refusal changes nothing (R193). -/
structure Effect (t : State) (a : Answered) : Prop where
  passes : PassesKept t a.1
  refused : a.2.1.accepted = false → a.1 = t

theorem Effect.refuse (t : State) (e : Status) : Effect t (t.refuse e) := ⟨.refl t, fun _ => rfl⟩

theorem Effect.accepted {t : State} {a : Answered} (h : PassesKept t a.1) (ok : a.2.1.accepted = true) : Effect t a :=
  ⟨h, fun refused => by simp [ok] at refused⟩

/-- An effect, followed by what follows effects where it is accepted. -/
theorem Effect.moves {t : State} {a : Answered} (h : Effect t a) (touched : RoomId → Bool) :
    OutputMoves t (if a.2.1.accepted then a.1.finishWith t touched else a.1) := by
  split
  · exact .finished t touched h.passes
  · rename_i refused
    rw [h.refused (by simpa using refused)]
    exact .refl t

theorem OutputMoves.queuedTouching {act : State → Answered} (h : ∀ t, Effect t (act t)) (s : State) (c : Instr)
    (touched : RoomId → Bool) : OutputMoves s (s.queuedTouching c touched act) :=
  .queued (fun t => (h t).moves touched) s c

theorem OutputMoves.queuedEffect {act : State → Answered} (h : ∀ t, Effect t (act t)) (s : State) (c : Instr) :
    OutputMoves s (s.queuedEffect c act) := .queuedTouching h s c _

theorem OutputMoves.storeCommand (s : State) (c : Instr) (op : HostOp) :
    OutputMoves s (s.storeCommand c op).takeNext := .trans (.elsewhere rfl) (.takeNext (s.storeCommand c op))

theorem OutputMoves.queuedOperation (s : State) (c : Instr) (op : HostOp) : OutputMoves s (s.queuedOperation c op) :=
  .hostHeard_arrive (fun t => .storeCommand t c op) s

theorem OutputMoves.queuedEither {act : State → Answered ⊕ HostOp} (h : ∀ t a, act t = .inl a → Effect t a) (s : State)
    (c : Instr) : OutputMoves s (s.queuedEither c act) := by
  refine .hostHeard_arrive (fun t => ?_) s
  split
  · rename_i u e x ha
    exact ((h t _ ha).moves fun _ => false).trans (.respond ..)
  · exact .storeCommand ..

/-! ### Configuration -/

section Commands
variable (s : State)

theorem Effect.writeRoom (r : RoomId) (w : RoomWrite) : Effect s (s.writeRoom r w) := by
  cases checks : s.roomChecks r w with
  | error e => rw [State.writeRoom, checks]; exact .refuse s e
  | ok c =>
    have kept := PassesKept.writeRoom s r w
    rw [State.writeRoom, checks] at kept ⊢
    exact .accepted kept (okStatus_accepted _)

theorem Effect.writeRoomNow {n : Nat} {w : RoomWrite} {a : Answered} (h : s.writeRoomNow n w = .inl a) :
    Effect s a := by
  unfold State.writeRoomNow at h
  repeat' split at h
  all_goals cases h
  · exact .refuse ..
  · exact .refuse ..
  · exact .writeRoom ..

theorem Effect.writeWingNow {gap silence : Nat} {b : Band} {a : Answered} (h : s.writeWingNow gap b silence = .inl a) :
    Effect s a := by
  unfold State.writeWingNow at h
  split at h
  · cases h
  · cases h
    unfold State.writeWing; dsimp only
    split
    · exact .refuse ..
    · exact .accepted (.of_airs rfl) (okStatus_accepted _)

theorem Effect.writeProfile (n : Nat) (w : ProfileWrite) : Effect s (s.writeProfile n w) := by
  unfold State.writeProfile
  split
  · exact .refuse ..
  · split
    · exact .refuse ..
    · exact .accepted (.of_airs rfl) (okStatus_accepted _)

theorem OutputMoves.writeAirGroup (n fallback period : Nat) (mask : TriggerMask) :
    OutputMoves s (s.writeAirGroup n fallback period mask).1 := by
  unfold State.writeAirGroup; split
  · exact .refl s
  · exact .modifyAirGroup s _ fun _ => ⟨rfl, rfl⟩

/-- A new calibration recalculates no stored value, so outputs do not notice it (R113). -/
theorem OutputMoves.writeCalibration (n : Nat) (c : Calibration) : OutputMoves s (s.writeCalibration n c).1 := by
  unfold State.writeCalibration; split
  · exact .refl s
  · rename_i r _
    exact .modifyRoom s r (f := fun x => { x with oce := { x.oce with cal := clampCalibration c } })
      fun _ => ⟨rfl, rfl, rfl⟩

/-! ### Service and air -/

theorem Effect.holdRoomNow (n : Nat) (f : HoldFields) : Effect s (s.holdRoomNow n f) := by
  unfold State.holdRoomNow State.holdRoom
  repeat' split
  · exact .refuse ..
  · exact .refuse ..
  · exact .refuse ..
  · exact .accepted (.of_airs rfl) (okStatus_accepted _)

theorem Effect.releaseHoldNow (n : Nat) : Effect s (s.releaseHoldNow n) := by
  unfold State.releaseHoldNow State.releaseHold
  repeat' split
  · exact .refuse ..
  · exact .refuse ..
  · exact .accepted (.of_airs rfl) rfl

theorem Effect.extendNow {n : Nat} {h : Handle} {a : Answered} (ha : s.extendNow n h = .inl a) : Effect s a := by
  unfold State.extendNow at ha
  repeat' split at ha
  all_goals cases ha
  all_goals exact .refuse ..

theorem OutputMoves.endOccurrence {t : State} {n : Nat} {h : Handle} (hx : execEndOccurrence n h s = .next t) :
    OutputMoves s t := by
  cases hx
  refine .hostHeard_arrive (fun t => ?_) s
  repeat' split
  all_goals exact .elsewhere rfl

theorem OutputMoves.setOpenRange {t : State} {first last : Nat} (hx : execSetOpenRange first last s = .next t) :
    OutputMoves s t := by
  cases hx
  refine .hostHeard_arrive (fun t => ?_) s
  split
  · rename_i a b _ _
    have same : ((t.takeCommand (.setOpenRange first last)).applyOpenRange a b).airs = t.airs := airs_applyOpenRange _ a b
    exact .finish same t
  · exact .respond ..

theorem OutputMoves.readStatus (n : Nat) : OutputMoves s (s.readStatus n).1 := by
  unfold State.readStatus; split
  · exact .refl s
  · rename_i r _
    exact .modifyRoom s r (f := fun x => { x with ctx := { x.ctx with noteLost := false } })
      fun _ => ⟨rfl, rfl, rfl⟩

theorem OutputMoves.setCapacity (n c : Nat) : OutputMoves s (s.setCapacity n c).1 := by
  unfold State.setCapacity; split
  · exact .refl s
  · exact .trans (.modifyAirGroup s _ fun a => fire_passes { a with capacity := min 20000 c } _) (.started _)

theorem OutputMoves.requestAllocation (n : Nat) : OutputMoves s (s.requestAllocation n).1 := by
  unfold State.requestAllocation; split
  · exact .refl s
  · exact .trans (.modifyAirGroup s _ fun a => fire_passes a _) (.started _)

/-! ### Light and loop -/

theorem OutputMoves.sceneWindow (f : WindowFields) : OutputMoves s (s.sceneWindow f).1 := by
  unfold State.sceneWindow; split <;> exact .elsewhere rfl

theorem OutputMoves.sceneRead (t : State) (count k : Nat) (h : OutputMoves s t) :
    OutputMoves s (if countOk count then t.sceneRead k else s.refuse .range).1 := by
  split
  · exact h.trans (.elsewhere rfl)
  · exact .refl s

theorem airs_takeLevel (n : SceneTally) (level : Nat) : (s.takeLevel n level).1.airs = s.airs := by
  unfold State.takeLevel; dsimp only
  repeat' split
  all_goals rfl

theorem airs_sceneWrite (count : Nat) (levels : List Nat) : (s.sceneWrite count levels).1.airs = s.airs := by
  have run (l : List Nat) (p : State × SceneTally) :
      (l.foldl (fun p level => p.1.takeLevel p.2 level) p).1.airs = p.1.airs := by
    induction l generalizing p with
    | nil => rfl
    | cons a l ih => exact (ih _).trans (airs_takeLevel ..)
  exact run _ (s, ⟨0, 0, false⟩)

/-- A run of levels is taken where its count is in range, and refused otherwise (R151). -/
theorem Effect.sceneWrite (t : State) (count : Nat) (levels : List Nat) (h : t.airs = s.airs) :
    Effect s (if countOk count then t.sceneWrite count levels else s.refuse .range) := by
  split
  · exact .accepted (.of_airs ((airs_sceneWrite ..).trans h)) (okStatus_accepted _)
  · exact .refuse ..

theorem Effect.setEconomy (e : Option Switch) (cap : Nat) : Effect s (s.setEconomy e cap) := by
  unfold State.setEconomy; split
  · exact .refuse ..
  · exact .accepted (.of_airs rfl) (okStatus_accepted _)

theorem Effect.setFacade (n : Nat) (a : Option Sun) (b : Option Season) (c : Option Switch) :
    Effect s (s.setFacade n a b c) := by
  unfold State.setFacade; split
  · exact .accepted (.of_airs rfl) rfl
  · exact .refuse ..

theorem OutputMoves.readmitStation (n : Nat) : OutputMoves s (s.readmitStation n).1 := by
  unfold State.readmitStation
  repeat' split
  · exact .refl s
  · exact .refl s
  · exact .modifyStation ..

theorem OutputMoves.readStation (n : Nat) : OutputMoves s (s.readStation n).1 := by
  unfold State.readStation
  repeat' split
  · exact .refl s
  · exact .refl s
  · exact .modifyStation ..

/-! ## The part's own events -/

theorem OutputMoves.completeOp : OutputMoves s s.completeOp := by
  unfold State.completeOp; split
  · exact .refl s
  · rename_i run _
    have released : PassesKept (s.opEffect run) (s.opEffect run).releaseStore := .of_airs rfl
    exact .finished s _ (((PassesKept.opEffect s run).trans released).trans (RoomWork.applyHeld _).passesKept)

theorem OutputMoves.completeIf (p : StoreOp → Bool) : OutputMoves s (s.completeIf p) := by
  unfold State.completeIf; split
  · exact .completeOp s
  · exact .refl s

theorem OutputMoves.minuteEvent : OutputMoves s s.minuteEvent := by
  unfold State.minuteEvent; split
  · refine .finish ((airs_overrunChecks _).trans ?_) s
    exact airs_offerWork { s with cal := { s.cal with minute := s.cal.minute + 1, second := 0, minuteDue := false } } _
  · exact .refl s

theorem OutputMoves.rolloverEvent : OutputMoves s s.rolloverEvent := by
  unfold State.rolloverEvent; split
  · refine .finish ((airs_overrunChecks _).trans ?_) s
    exact airs_offerWork s (.minute 1440)
  · exact .refl s

theorem OutputMoves.termEnd : OutputMoves s s.termEnd := by
  unfold State.termEnd; split
  · refine .finish ((airs_overrunChecks _).trans ?_) s
    exact airs_offerWork s (.minute 1440)
  · exact .refl s

theorem OutputMoves.noShowExpiry (r : RoomId) : OutputMoves s (s.noShowExpiry r) := by
  unfold State.noShowExpiry
  repeat' split
  · exact .finish (airs_offerWork ..) s
  · exact .refl s
  · exact .refl s

theorem OutputMoves.requestTaken (p : CalWork → Bool) : OutputMoves s (s.requestTaken p) := by
  unfold State.requestTaken; split
  · exact .finish (RoomWork.takeWork s p).airs s
  · exact .refl s

theorem OutputMoves.absenceEvent (r : RoomId) : OutputMoves s (s.absenceEvent r) := by
  unfold State.absenceEvent; split
  · exact .finish (RoomWork.absenceExpiry s r).airs s
  · exact .refl s

theorem OutputMoves.quietEvent (r : RoomId) : OutputMoves s (s.quietEvent r) := by
  unfold State.quietEvent; split
  · exact .finish (RoomWork.quietExpiry s r).airs s
  · exact .refl s

theorem OutputMoves.settleEvent (r : RoomId) : OutputMoves s (s.settleEvent r) := by
  unfold State.settleEvent; split
  · exact .finish (RoomWork.settleExpiry s r).airs s
  · exact .refl s

theorem OutputMoves.holdEvent (r : RoomId) : OutputMoves s (s.holdEvent r) := by
  unfold State.holdEvent; split
  · exact .finished (u := s.endHold r) s _ (.of_airs rfl)
  · exact .refl s

theorem OutputMoves.silenceExpiry : OutputMoves s s.silenceExpiry := by
  unfold State.silenceExpiry; split
  · exact .finished s _ (.hostAbsent s)
  · exact .refl s

theorem OutputMoves.periodEvent (g : AirId) : OutputMoves s (s.periodEvent g) := by
  have matched (a : AirGroup) : a.matchPeriod.last = a.last ∧ a.matchPeriod.running = a.running := by
    unfold AirGroup.matchPeriod; split
    · exact fire_passes { a with timer := 0 } _
    · exact ⟨rfl, rfl⟩
  unfold State.periodEvent; split
  · exact .trans (.modifyAirGroup s g matched) (.started _)
  · exact .refl s

theorem OutputMoves.passEvent (g : AirId) : OutputMoves s (s.passEvent g) := by
  unfold State.passEvent; split
  · exact .trans (.completed s g) (.started _)
  · exact .refl s

theorem OutputMoves.travelEvent (r : RoomId) (b : BlindId) : OutputMoves s (s.travelEvent r b) := by
  unfold State.travelEvent; split
  · exact .finished (u := s.modifyBlind r b _) s _ (.of_airs rfl)
  · exact .refl s

theorem OutputMoves.pauseEvent (r : RoomId) (b : BlindId) : OutputMoves s (s.pauseEvent r b) := by
  unfold State.pauseEvent; split
  · exact .finished (u := s.modifyBlind r b _) s _ (.of_airs rfl)
  · exact .refl s

theorem OutputMoves.startRound : OutputMoves s s.startRound := by
  unfold State.startRound; split <;> exact .elsewhere rfl

theorem OutputMoves.visit : OutputMoves s s.visit := by
  unfold State.visit
  repeat' split
  all_goals exact .elsewhere rfl

theorem OutputMoves.noReply : OutputMoves s s.noReply := by
  unfold State.noReply; split
  · exact .refl s
  · exact .finish (airs_fail ..) s

theorem OutputMoves.replyReceived (reply : Reply) : OutputMoves s (s.replyReceived reply) := by
  unfold State.replyReceived
  repeat' split
  · exact .refl s
  · exact .finish (airs_fail ..) s
  · exact .finish (airs_succeed ..) s

/-! ### Seconds and cycles -/

theorem OutputMoves.drainRoom (r : RoomId) : OutputMoves s (s.drainRoom r) :=
  .trans (.trans (.trans (.trans (.trans (.noShowExpiry s r) (.absenceEvent ..)) (.quietEvent ..)) (.settleEvent ..))
    (.holdEvent ..)) (.trans (.trans (.trans (.travelEvent ..) (.pauseEvent ..)) (.travelEvent ..)) (.pauseEvent ..))

theorem OutputMoves.drain : OutputMoves s s.drain := by
  have clock : OutputMoves s s.minuteEvent.rolloverEvent.termEnd :=
    .trans (.trans (.minuteEvent s) (.rolloverEvent _)) (.termEnd _)
  have held (t : State) : OutputMoves t
      (if t.store.running.isNone && !t.cal.work.isEmpty then t.applyHeld.finish t else t) := by
    split
    · exact .finish (RoomWork.applyHeld t).airs t
    · exact .refl t
  have rooms (t : State) : OutputMoves t (allRooms.foldl State.drainRoom t) := .foldl OutputMoves.drainRoom ..
  have periods (t : State) : OutputMoves t ((List.finRange 4).foldl State.periodEvent t) :=
    .foldl OutputMoves.periodEvent ..
  exact (clock.trans (held _)).trans ((rooms _).trans (.trans (.silenceExpiry _) (periods _)))

/-- A second moves timers alone: no timer of an entry, a hold, an estimate or an air group is an input of an output. -/
theorem OutputMoves.countSecond : OutputMoves s s.countSecond := by
  have room (r : RoomId) : s.countSecond.room r = (s.room r).second := room_mapRooms ..
  have hold (h : Hold) : h.second.outputs = h.outputs := by unfold Hold.second; split <;> rfl
  have estimate (e : Estimate) : e.second.tally = e.tally ∧ e.second.presence = e.presence := by
    unfold Estimate.second; split <;> exact ⟨rfl, rfl⟩
  have air (a : AirGroup) : a.second.last = a.last ∧ a.second.running = a.running := by
    unfold AirGroup.second; split <;> exact ⟨rfl, rfl⟩
  have airs := PassesKept.mapIdx s (f := fun _ a => a.second) fun _ a => air a
  refine .held ⟨⟨fun r => ?_, fun g => ?_, rfl, rfl, rfl, rfl, rfl, rfl⟩, fun r => by rw [room]; rfl,
    fun r => by rw [room]; rfl, airs.last, airs.running⟩
  · rw [room]
    simp [Room.inputs, Room.second, estimate, hold, Entry.untimed, Function.comp_def]
  · have group : s.countSecond.groups.get g = (s.groups.get g).map PartGroup.second := Table.get_mapIdx ..
    have inputs (p : PartGroup) : p.second.inputs = p.inputs := by
      simp [PartGroup.inputs, PartGroup.second, estimate, Function.comp_def]
    rw [group, Option.map_map]
    exact congrArg (Option.map · (s.groups.get g)) (funext inputs)

/-- Cycles move the blinds' timers, the divider and the round timer alone. -/
theorem OutputMoves.cycles (n : Nat) : OutputMoves s (s.cycles n) := by
  refine .held ⟨⟨fun r => ?_, fun _ => rfl, rfl, rfl, rfl, rfl, rfl, rfl⟩, fun r => ?_, fun r => ?_, .of_airs rfl⟩
  · rw [room_cycles]; rfl
  · rw [room_cycles]
  · rw [room_cycles]

theorem OutputMoves.second : OutputMoves s s.second := .trans (.drain s) (.countSecond s.drain)

theorem OutputMoves.cycles_second (n : Nat) : OutputMoves s (s.cycles n).wrapDivider.second :=
  .trans (.trans (.cycles s n) (.elsewhere rfl)) (.second (s.cycles n).wrapDivider)

theorem OutputMoves.tick : OutputMoves s s.tick := by
  unfold State.tick; dsimp only; split
  · exact .cycles_second s 1
  · exact .cycles s 1

end Commands

/-! ## Every step -/

/-- Every command and event moves outputs and passes in the ways of `OutputMoves`, and in no other. -/
theorem OutputMoves.of_exec {s t : State} (c : Instr) (hx : exec c s = .next t) : OutputMoves s t := by
  have next {u : State} (same : exec c s = .next u) (hu : OutputMoves s u) : OutputMoves s t := by
    cases same.symm.trans hx; exact hu
  cases c
  case powerOn => exact next rfl (.powered s)
  case resetLine | restart => exact next rfl (.restarted ..)
  case poll | readResponse | readAttention | ackAttention | readRoomChanges | readBookingChanges =>
    exact next rfl (.elsewhere rfl)
  case malformed => exact next rfl (.arrive (fun t => .respond ..) s)
  case unknownCommand | setAttention | readLoopLog => exact next rfl (.queued (fun t => .elsewhere rfl) s _)
  case readResetCause | readRoom | readProfile | readWing | readPartition | readAirGroup | readCalibration | readClock |
      listClosures | readRoomSensors | readAllocation | readRoomAir | readRoomLighting | readWingLighting =>
    exact next rfl (.queuedRead ..)
  case writePartition | deletePartition | createBooking | amendBooking | cancelBooking | suspendBooking | resumeBooking |
      readBooking | listRoomBookings | readAgenda | findFreeRoom | setClock | addClosure | removeClosure =>
    exact next rfl (.queuedOperation ..)
  case writeRoom => exact next rfl (.queuedEither (fun t a => .writeRoomNow t) s _)
  case writeProfile => exact next rfl (.queuedEffect (fun t => .writeProfile ..) s _)
  case writeWing => exact next rfl (.queuedEither (fun t a => .writeWingNow t) s _)
  case writeAirGroup => exact next rfl (.queued (fun t => .writeAirGroup ..) s _)
  case writeCalibration => exact next rfl (.queued (fun t => .writeCalibration ..) s _)
  case holdRoom => exact next rfl (.queuedTouching (fun t => .holdRoomNow ..) s _ _)
  case releaseHold => exact next rfl (.queuedTouching (fun t => .releaseHoldNow ..) s _ _)
  case endOccurrence => exact .endOccurrence s hx
  case extendOccurrence => exact next rfl (.queuedEither (fun t a => .extendNow t) s _)
  case setOpenRange => exact .setOpenRange s hx
  case readRoomStatus => exact next rfl (.queued (fun t => .readStatus ..) s _)
  case setCapacity => exact next rfl (.queued (fun t => .setCapacity ..) s _)
  case requestAllocation => exact next rfl (.queued (fun t => .requestAllocation ..) s _)
  case sceneWindow => exact next rfl (.queued (fun t => .sceneWindow ..) s _)
  case sceneWriteStart => exact next rfl (.queuedEffect (fun t => .sceneWrite t t.rewindWindow _ _ rfl) s _)
  case sceneWriteContinue => exact next rfl (.queuedEffect (fun t => .sceneWrite t t _ _ rfl) s _)
  case sceneReadStart => exact next rfl (.queued (fun t => .sceneRead t t.rewindWindow _ _ (.elsewhere rfl)) s _)
  case sceneReadContinue => exact next rfl (.queued (fun t => .sceneRead t t _ _ (.refl t)) s _)
  case setEconomy => exact next rfl (.queuedEffect (fun t => .setEconomy ..) s _)
  case setFacade => exact next rfl (.queuedEffect (fun t => .setFacade ..) s _)
  case readmitStation => exact next rfl (.queued (fun t => .readmitStation ..) s _)
  case readStation => exact next rfl (.queued (fun t => .readStation ..) s _)
  case storeOperationComplete => exact next rfl (.completeOp s)
  case retirementPass | agendaBuild | termEndStep | noteServed | extensionRequestServed =>
    exact next rfl (.completeIf ..)
  case secondEvent => exact next rfl (.cycles_second s _)
  case minuteEvent => exact next rfl (.minuteEvent s)
  case rolloverEvent => exact next rfl (.rolloverEvent s)
  case termEnd => exact next rfl (.termEnd s)
  case noShowExpiry => exact next rfl (.noShowExpiry ..)
  case confirmRequest | endNowRequest => exact next rfl (.requestTaken ..)
  case sensedAbsenceExpiry => exact next rfl (.absenceEvent ..)
  case quietTimerExpiry => exact next rfl (.quietEvent ..)
  case settleTimerExpiry => exact next rfl (.settleEvent ..)
  case holdExpiry => exact next rfl (.holdEvent ..)
  case hostSilenceExpiry => exact next rfl (.silenceExpiry s)
  case periodTimerMatch => exact next rfl (.periodEvent ..)
  case allocationPassComplete => exact next rfl (.passEvent ..)
  case roundStart => exact next rfl (.startRound s)
  case stationVisit => exact next rfl (.visit s)
  case noReply => exact next rfl (.noReply s)
  case reportReceived => exact next rfl (.replyReceived ..)
  case blindTravelComplete => exact next rfl (.travelEvent ..)
  case blindPauseEnd => exact next rfl (.pauseEvent ..)

/-- A step runs a command or lets a cycle pass. -/
theorem OutputMoves.of_step {s t : State} (hx : step s = .next t) : OutputMoves s t := by
  unfold step at hx
  split at hx
  · rename_i c rest _
    exact .trans (.elsewhere rfl) (.of_exec (s := { s with pending := rest }) c hx)
  · cases hx
    exact .tick s

/-- Settles O54: none of the ways in which a step moves outputs and passes takes a floor above its demand, or a pass
above its capacity. -/
theorem airKeptWithinCapacity : Obligations.AirKeptWithinCapacity := fun _ _ h hx => h.of_moves (.of_step hx)

/-- Settles O59: each of the ways in which a step moves outputs ends with every output formed from its inputs. -/
theorem outputsKept : Obligations.OutputsKept := fun _ _ h hx => h.of_moves (.of_step hx)

end Sys2Proof.Machine
end

section
/-! PROOFS. The triggers of an air group, and the storing of a completed pass (R133 to R137, R142). -/
namespace Sys2Proof.Machine

/-! ## Triggers and starting passes -/

theorem fire_allowed {a : AirGroup} {k : Trigger} (allowed : maskAllows a.mask k = true) :
    a.fire k = { a with pending := true, triggers := a.triggers.add k } := if_pos allowed

theorem fire_masked {a : AirGroup} {k : Trigger} (masked : maskAllows a.mask k = false) : a.fire k = a :=
  if_neg (by simp [masked])

theorem startPass_of_idle {a : AirGroup} (pending : a.pending = true) (idle : a.running = none) (s : State) (g : AirId) :
    s.startPass g a = { a with pending := false, triggers := .none,
                               running := some (runPass a.capacity a.triggers ((s.airMembers g).map s.passMember)) } := by
  simp [State.startPass, pending, idle]

theorem startPass_of_running {a : AirGroup} (running : a.running.isSome = true) (s : State) (g : AirId) :
    s.startPass g a = a := by
  unfold State.startPass
  rw [if_neg]
  cases h : a.running <;> simp_all

theorem airs_startPasses (s : State) (g : AirId) : s.startPasses.airs.get g = s.startPass g (s.airs.get g) :=
  Table.get_mapIdx ..

theorem airs_modifyAirGroup (s : State) (g k : AirId) (f : AirGroup → AirGroup) :
    (s.modifyAirGroup g f).airs.get k = if k = g then f (s.airs.get g) else s.airs.get k := Table.get_modify ..

/-- A trigger of kind `kind` has fired in group `g` alone, with this capacity standing: what has become of every air
group (R137, R139). -/
def TriggerFired (s : State) (g : AirId) (allowed : Bool) (capacity : Nat) (kind : Trigger) (t : State) : Prop :=
  (allowed = true → (s.airs.get g).running = none →
    (t.airs.get g).running = some (runPass capacity ((s.airs.get g).triggers.add kind)
      ((s.airMembers g).map s.passMember)) ∧ (t.airs.get g).pending = false) ∧
  (allowed = true → (s.airs.get g).running.isSome = true → (t.airs.get g).pending = true ∧
    (t.airs.get g).triggers = (s.airs.get g).triggers.add kind) ∧
  (allowed = false → (s.airs.get g).pending = false →
    (t.airs.get g).running = (s.airs.get g).running ∧ (t.airs.get g).pending = false) ∧
  ∀ k, k ≠ g → ((s.airs.get k).pending = false ∨ (s.airs.get k).running.isSome = true) →
    t.airs.get k = s.airs.get k

/-- Firing a trigger in one group after a change of its record or timer, and starting what may start (R137). -/
theorem triggerFired (s : State) (g : AirId) {a : AirGroup} (kind : Trigger) (mask : a.mask = (s.airs.get g).mask)
    (pending : a.pending = (s.airs.get g).pending) (triggers : a.triggers = (s.airs.get g).triggers)
    (running : a.running = (s.airs.get g).running) :
    TriggerFired s g (maskAllows (s.airs.get g).mask kind) a.capacity kind
      (s.modifyAirGroup g fun _ => a.fire kind).startPasses := by
  have own : (s.modifyAirGroup g fun _ => a.fire kind).startPasses.airs.get g = s.startPass g (a.fire kind) := by
    rw [airs_startPasses, airs_modifyAirGroup, if_pos rfl]; rfl
  refine ⟨fun allowed idle => ?_, fun allowed busy => ?_, fun masked clear => ?_, fun k other still => ?_⟩
  · rw [own, fire_allowed (mask ▸ allowed), ← triggers,
      startPass_of_idle (a := { a with pending := true, triggers := a.triggers.add kind }) rfl (running.trans idle)]
    exact ⟨rfl, rfl⟩
  · rw [own, fire_allowed (mask ▸ allowed), ← triggers, startPass_of_running (by simpa [running] using busy)]
    exact ⟨rfl, rfl⟩
  · rw [own, fire_masked (mask ▸ masked), startPass_of_not_pending (pending.trans clear)]
    exact ⟨running, pending.trans clear⟩
  · rw [airs_startPasses, airs_modifyAirGroup, if_neg other]
    obtain clear | busy := still
    · exact startPass_of_not_pending clear ..
    · exact startPass_of_running busy ..

theorem Follows.modifyAirGroup (s : State) (g : AirId) {f : AirGroup → AirGroup}
    (h : AirKept (s.airs.get g) (f (s.airs.get g))) : Follows s (s.modifyAirGroup g f) :=
  { Follows.refl s with
    port := .refl _
    rooms := fun _ => .refl _
    airs := fun k => by
      rw [airs_modifyAirGroup]; split
      · subst_vars; exact h
      · exact .refl _ }

/-- A trigger that fires in a group whose record or timer has changed, and what starts of it, follow that change. -/
theorem follows_fired (s : State) (g : AirId) (a : AirGroup) (kind : Trigger) :
    Follows (s.modifyAirGroup g fun _ => a) (s.modifyAirGroup g fun _ => a.fire kind).startPasses := by
  have twice : (s.modifyAirGroup g fun _ => a.fire kind) =
      (s.modifyAirGroup g fun _ => a).modifyAirGroup g fun _ => a.fire kind := by
    simp only [State.modifyAirGroup, Table.modify, Table.set_set]
  rw [twice]
  refine (Follows.modifyAirGroup _ g ?_).trans (.startPasses _)
  rw [airs_modifyAirGroup, if_pos rfl]
  exact .fire ..

/-! ### The three triggers -/

section Triggers
variable {s : State} {n : Nat} {g : AirId}

theorem exec_setCapacity_range (open_ : s.slotOpen = true) (hn : asIndex 4 n = none) (c : Nat) :
    exec (.setCapacity n c) s = .next (s.answered (.setCapacity n c) .range .none) := by
  refine congrArg Host.Outcome.next (queued_of_slotOpen open_ ?_)
  rw [State.setCapacity, hn]; rfl

theorem exec_requestAllocation_range (open_ : s.slotOpen = true) (hn : asIndex 4 n = none) :
    exec (.requestAllocation n) s = .next (s.answered (.requestAllocation n) .range .none) := by
  refine congrArg Host.Outcome.next (queued_of_slotOpen open_ ?_)
  rw [State.requestAllocation, hn]; rfl

theorem exec_setCapacity_fires (open_ : s.slotOpen = true) (hn : asIndex 4 n = some g) (c : Nat) :
    exec (.setCapacity n c) s = .next
      ((s.hostHeard.modifyAirGroup g fun _ => { s.airs.get g with capacity := min 20000 c }.fire
        .capacityWrite).startPasses.respond (.setCapacity n c) false (okStatus (20000 < c)) (.capacity g (min 20000 c))) := by
  refine congrArg Host.Outcome.next (queued_of_slotOpen open_ ?_)
  rw [State.setCapacity, hn]; rfl

theorem exec_requestAllocation_fires (open_ : s.slotOpen = true) (hn : asIndex 4 n = some g) :
    exec (.requestAllocation n) s = .next
      ((s.hostHeard.modifyAirGroup g fun _ => (s.airs.get g).fire .hostRequest).startPasses.respond
        (.requestAllocation n) false .ok (.passStarted (s.airs.get g).mask.hostRequest)) := by
  refine congrArg Host.Outcome.next (queued_of_slotOpen open_ ?_)
  rw [State.requestAllocation, hn]; rfl

theorem exec_periodTimerMatch_fires (on : 0 < (s.airs.get g).period) (due : (s.airs.get g).timer = (s.airs.get g).period) :
    exec (.periodTimerMatch g) s = .next
      (s.modifyAirGroup g fun _ => { s.airs.get g with timer := 0 }.fire .period).startPasses := by
  refine congrArg Host.Outcome.next ?_
  have now : (s.airs.get g).periodDue = true := by simp [AirGroup.periodDue, on, due]
  have matched : (s.airs.get g).matchPeriod = { s.airs.get g with timer := 0 }.fire .period := if_pos now
  rw [State.periodEvent, if_pos now, ← matched]
  rfl

end Triggers

/-- Settles O41: each of the three is one trigger fired in one group, after a change of its capacity or its timer. -/
theorem triggersFire : Obligations.TriggersFire := by
  intro s g a ms fired
  refine ⟨fun n c open_ hn => ⟨_, exec_setCapacity_fires open_ hn c, ?_, rfl, ?_⟩,
    fun n open_ hn => ⟨_, exec_requestAllocation_fires open_ hn, ?_, rfl, ?_⟩,
    fun n c open_ hn => ⟨exec_setCapacity_range open_ hn c, exec_requestAllocation_range open_ hn⟩,
    fun on due => ⟨_, exec_periodTimerMatch_fires on due, ?_, rfl, rfl, ?_⟩⟩
  · exact (follows_fired s.hostHeard g { a with capacity := min 20000 c } .capacityWrite).respond ..
  · exact triggerFired s.hostHeard g (a := { a with capacity := min 20000 c }) .capacityWrite rfl rfl rfl rfl
  · have same : (s.hostHeard.modifyAirGroup g fun _ => a) = s.hostHeard := by
      have airs : s.airs.modify g (fun _ => a) = s.airs := Table.ext_get fun k => by
        rw [Table.get_modify]; split
        · subst_vars; rfl
        · rfl
      exact congrArg (fun x => ({ s.hostHeard with airs := x } : State)) airs
    have follows := follows_fired s.hostHeard g a .hostRequest
    rw [same] at follows
    exact follows.respond ..
  · exact triggerFired s.hostHeard g (a := a) .hostRequest rfl rfl rfl rfl
  · exact follows_fired s g { a with timer := 0 } .period
  · exact triggerFired s g (a := { a with timer := 0 }) .period rfl rfl rfl rfl

/-! ## A completed pass -/

theorem mem_airMembers {s : State} {g : AirId} {r : RoomId} :
    r ∈ s.airMembers g ↔ (s.room r).cfg.enabled = true ∧ (s.room r).cfg.airGroup = some g := by
  simp [State.airMembers, allRooms]

theorem storeGrant_member {s : State} {g : AirId} {p : PassRecord} {r : RoomId} {m : PassMember}
    (found : p.members.find? (fun m => m.room == r) = some m) (member : r ∈ s.airMembers g) :
    storeGrant g p r (s.room r) =
      { s.room r with air := { (s.room r).air with grant := m.grant, tier := some m.tier } } := by
  obtain ⟨on, group⟩ := mem_airMembers.1 member
  simp [storeGrant, found, on, group]

theorem storeGrant_other {s : State} {g : AirId} {p : PassRecord} {r : RoomId}
    (h : r ∉ s.airMembers g ∨ p.members.find? (fun m => m.room == r) = none) :
    storeGrant g p r (s.room r) = s.room r := by
  obtain same | ⟨on, group, m, found, -⟩ := storeGrant_cases g p r (s.room r)
  · exact same
  · obtain out | missing := h
    · exact absurd (mem_airMembers.2 ⟨on, group⟩) out
    · rw [found] at missing; cases missing

/-- The group of a completed pass before a further pass starts there, and every other group (R142). -/
theorem airs_completePass {s : State} {g : AirId} {p : PassRecord} (running : (s.airs.get g).running = some p)
    (k : AirId) : (s.completePass g).airs.get k = if k = g then (s.airs.get g).complete p else s.airs.get k := by
  simp only [State.completePass, running]; exact Table.get_set ..

theorem port_completePass {s : State} {g : AirId} {p : PassRecord} (running : (s.airs.get g).running = some p) :
    (s.completePass g).port = s.port.raiseIf ((s.airs.get g).flags.newlySet p.flags) .airShort := by
  simp only [State.completePass, running]

theorem rest_completePass (s : State) (g : AirId) :
    (s.completePass g).store = s.store ∧ (s.completePass g).cal = s.cal := by
  unfold State.completePass; dsimp only; split <;> exact ⟨rfl, rfl⟩

theorem exec_allocationPassComplete {s : State} {g : AirId} {p : PassRecord} (running : (s.airs.get g).running = some p) :
    exec (.allocationPassComplete g) s = .next (s.completePass g).startPasses :=
  congrArg Host.Outcome.next (if_pos (by rw [running]; rfl))

theorem flags_raiseIf (p : Port) (b : Bool) (c : Cause) :
    p.raiseIf b c = { p with flags := (p.raiseIf b c).flags } := by
  unfold Port.raiseIf; split <;> rfl

/-- Settles O42: the pass is stored in its group, its grants in those rooms that are still members, and what starts
afterwards leaves all of it as it is. -/
theorem passStored : Obligations.PassStored := by
  intro s g p running a newly
  have air (k : AirId) := AirKept.startPass (s.completePass g) k ((s.completePass g).airs.get k)
  simp only [← airs_startPasses] at air
  have own := air g
  rw [airs_completePass running, if_pos rfl] at own
  have room (r : RoomId) : (s.completePass g).startPasses.room r = storeGrant g p r (s.room r) := room_completePass running r
  have port : (s.completePass g).startPasses.port = s.port.raiseIf newly .airShort := port_completePass running
  refine ⟨_, exec_allocationPassComplete running, own.passCount, own.flags, own.unallocated, own.last, own.capacity,
    own.timer, fun k other => ?_, fun r => ?_, ?_, fun old => ?_, fun new => ?_, (rest_completePass s g).1,
    (rest_completePass s g).2⟩
  · have kept := air k
    rwa [airs_completePass running, if_neg other] at kept
  · rw [room]
    refine ⟨?_, ?_, fun m found member => ?_, fun h => storeGrant_other h⟩
    · obtain same | ⟨-, -, m, -, stored⟩ := storeGrant_cases g p r (s.room r)
      · rw [same]
      · rw [stored]
    · obtain same | ⟨-, -, m, -, stored⟩ := storeGrant_cases g p r (s.room r)
      · rw [same]; exact ⟨rfl, rfl⟩
      · rw [stored]; exact ⟨rfl, rfl⟩
    · rw [storeGrant_member found member]
      exact ⟨rfl, rfl⟩
  · rw [port]; exact flags_raiseIf ..
  · rw [port, old]; rfl
  · rw [State.flagged, port, new]; exact getLsbD_raise ..

end Sys2Proof.Machine
end

section
/-! PROOFS. The scene window: its steps from cell to cell, the levels written and read through it, and the commands that
do so (R148 to R152). -/
namespace Sys2Proof.Machine

/-! ## One step of the pointer -/

section Steps
variable {w : Window}

theorem val_succ_of_lt {n : Nat} {a b : Fin (n + 1)} (h : a < b) : (a + 1).val = a.val + 1 :=
  Fin.val_add_one_of_lt (lt_of_lt_of_le h (Fin.le_last b))

theorem succ_le_of_lt {n : Nat} {a b : Fin (n + 1)} (h : a < b) : a + 1 ≤ b :=
  Fin.le_def.2 (by rw [val_succ_of_lt h]; exact Fin.lt_def.1 h)

theorem le_succ_of_lt {n : Nat} {a b : Fin (n + 1)} (h : a < b) : a ≤ a + 1 :=
  Fin.le_def.2 (by rw [val_succ_of_lt h]; exact Nat.le_succ _)

theorem eq_succ_of_val {n : Nat} {a b c : Fin (n + 1)} (h : a < b) (next : c.val = a.val + 1) : c = a + 1 :=
  Fin.ext (next.trans (val_succ_of_lt h).symm)

/-- The pointer stands on the window's last cell (R150). -/
def Window.onLast (w : Window) : Prop := w.scene = w.lastScene ∧ w.channel = w.lastChannel

theorem atLast_iff : w.atLast = true ↔ w.onLast := by simp [Window.atLast, Window.onLast]

theorem step_wraps (last : w.onLast) (wrap : w.wrap = .on) : w.step = w.rewind := by
  simp [Window.step, atLast_iff.2 last, wrap]

theorem step_stops (last : w.onLast) (wrap : w.wrap = .off) : w.step = { w with pastEnd := true } := by
  simp [Window.step, atLast_iff.2 last, wrap]

theorem atLast_of_channel (h : w.channel < w.lastChannel) : ¬ w.atLast = true :=
  fun last => absurd (atLast_iff.1 last).2 (ne_of_lt h)

theorem atLast_of_scene (h : w.scene < w.lastScene) : ¬ w.atLast = true :=
  fun last => absurd (atLast_iff.1 last).1 (ne_of_lt h)

theorem step_next_channel (order : w.order = .sceneMajor) (h : w.channel < w.lastChannel) :
    w.step = { w with channel := w.channel + 1 } := by
  rw [Window.step, if_neg (atLast_of_channel h), order]; exact if_pos h

theorem step_first_channel (order : w.order = .sceneMajor) (last : w.channel = w.lastChannel)
    (h : w.scene < w.lastScene) : w.step = { w with scene := w.scene + 1, channel := w.firstChannel } := by
  rw [Window.step, if_neg (atLast_of_scene h), order]; exact if_neg (by simp [last])

theorem step_next_scene (order : w.order = .channelMajor) (h : w.scene < w.lastScene) :
    w.step = { w with scene := w.scene + 1 } := by
  rw [Window.step, if_neg (atLast_of_scene h), order]; exact if_pos h

theorem step_first_scene (order : w.order = .channelMajor) (last : w.scene = w.lastScene)
    (h : w.channel < w.lastChannel) : w.step = { w with scene := w.firstScene, channel := w.channel + 1 } := by
  rw [Window.step, if_neg (atLast_of_channel h), order]; exact if_neg (by simp [last])

/-! ## A pointer within its window -/

/-- The pointer is a cell of an ordered window (R148, R149). -/
structure WindowOk (w : Window) : Prop where
  firstScene : w.firstScene ≤ w.scene
  lastScene : w.scene ≤ w.lastScene
  firstChannel : w.firstChannel ≤ w.channel
  lastChannel : w.channel ≤ w.lastChannel

theorem WindowOk.rewind (h : WindowOk w) : WindowOk w.rewind :=
  ⟨le_refl _, h.firstScene.trans h.lastScene, le_refl _, h.firstChannel.trans h.lastChannel⟩

theorem WindowOk.step (h : WindowOk w) : WindowOk w.step := by
  have ⟨firstScene, lastScene, firstChannel, lastChannel⟩ := h
  have turns (last : w.onLast) : WindowOk w.step := by
    cases wrap : w.wrap with
    | on => rw [step_wraps last wrap]; exact h.rewind
    | off => rw [step_stops last wrap]; exact ⟨firstScene, lastScene, firstChannel, lastChannel⟩
  cases order : w.order with
  | sceneMajor =>
    obtain channel | channel := lt_or_eq_of_le lastChannel
    · rw [step_next_channel order channel]
      exact ⟨firstScene, lastScene, firstChannel.trans (le_succ_of_lt channel), succ_le_of_lt channel⟩
    · obtain scene | scene := lt_or_eq_of_le lastScene
      · rw [step_first_channel order channel scene]
        exact ⟨firstScene.trans (le_succ_of_lt scene), succ_le_of_lt scene, le_refl _, firstChannel.trans lastChannel⟩
      · exact turns ⟨scene, channel⟩
  | channelMajor =>
    obtain scene | scene := lt_or_eq_of_le lastScene
    · rw [step_next_scene order scene]
      exact ⟨firstScene.trans (le_succ_of_lt scene), succ_le_of_lt scene, firstChannel, lastChannel⟩
    · obtain channel | channel := lt_or_eq_of_le lastChannel
      · rw [step_first_scene order scene channel]
        exact ⟨le_refl _, firstScene.trans lastScene, firstChannel.trans (le_succ_of_lt channel), succ_le_of_lt channel⟩
      · exact turns ⟨scene, channel⟩

end Steps

/-! ## SCENE_WINDOW -/

theorem asIndex_val {n k : Nat} {i : Fin n} (h : asIndex n k = some i) : i.val = k := by
  unfold asIndex at h
  split at h
  · cases h; rfl
  · cases h

/-- A window is accepted where its four bounds are within their ranges and in order, and starts at its first cell
(R149). -/
theorem windowOf_eq_some {f : WindowFields} {w : Window} (h : windowOf f = some w) :
    w = w.rewind ∧ w.firstScene.val = f.firstScene ∧ w.lastScene.val = f.lastScene ∧
      w.firstChannel.val = f.firstChannel ∧ w.lastChannel.val = f.lastChannel ∧ w.firstScene ≤ w.lastScene ∧
      w.firstChannel ≤ w.lastChannel := by
  simp only [windowOf, Option.bind_eq_bind, Option.bind_eq_some_iff, Option.ite_none_right_eq_some,
    Option.some.injEq] at h
  obtain ⟨s0, hs0, s1, hs1, c0, hc0, c1, hc1, order, -, wrap, -, ⟨scenes, channels⟩, rfl⟩ := h
  exact ⟨rfl, asIndex_val hs0, asIndex_val hs1, asIndex_val hc0, asIndex_val hc1, scenes, channels⟩

/-! ## Levels written -/

section Levels
variable {s : State} (t : SceneTally) (level : Nat)

theorem takeLevel_pastEnd (h : s.window.pastEnd = true) :
    s.takeLevel t level = (s, { t with dropped := t.dropped + 1 }) := by
  simp [State.takeLevel, h]

theorem takeLevel_dark (h : s.window.pastEnd = false) (dark : s.window.scene = 0) :
    s.takeLevel t level = ({ s with window := s.window.step }, { t with dropped := t.dropped + 1 }) := by
  simp [State.takeLevel, h, dark]

/-- The scene table with one cell set. -/
def State.setCell (s : State) (sc : SceneId) (ch : ChannelId) (level : Nat) : State :=
  { s with scenes := s.scenes.modify sc fun row => row.set ch level }

theorem cell_setCell (s : State) (sc k : SceneId) (ch c : ChannelId) (level : Nat) :
    (s.setCell sc ch level).cell k c = if k = sc ∧ c = ch then level else s.cell k c := by
  simp only [State.cell, State.setCell, Table.get_modify]
  by_cases scene : k = sc
  · subst scene; simp [Table.get_set]
  · simp [scene]

theorem takeLevel_stored (h : s.window.pastEnd = false) (lit : s.window.scene ≠ 0) :
    s.takeLevel t level =
      ({ s.setCell s.window.scene s.window.channel (min 1000 level) with window := s.window.step },
       { t with stored := t.stored + 1, clamped := t.clamped || decide (1000 < level) }) := by
  simp [State.takeLevel, h, lit, State.setCell]

end Levels

/-! ## A run of levels -/

/-- A run of levels taken in order, from a tally on (R151). -/
def takeRun (p : State × SceneTally) (levels : List Nat) : State × SceneTally :=
  levels.foldl (fun p level => p.1.takeLevel p.2 level) p

theorem takeLevels_eq (s : State) (levels : List Nat) : s.takeLevels levels = takeRun (s, ⟨0, 0, false⟩) levels := rfl

theorem takeRun_cons (p : State × SceneTally) (level : Nat) (levels : List Nat) :
    takeRun p (level :: levels) = takeRun (p.1.takeLevel p.2 level) levels := rfl

/-- What some levels taken leave: all but table and window, and scene 0. Each of them is stored or dropped (R151). -/
structure LevelsTaken (p q : State × SceneTally) (count : Nat) : Prop where
  rest : q.1 = { p.1 with scenes := q.1.scenes, window := q.1.window }
  dark : ∀ ch, q.1.cell 0 ch = p.1.cell 0 ch
  counted : q.2.stored + q.2.dropped = p.2.stored + p.2.dropped + count

theorem levelsTaken_takeLevel (s : State) (t : SceneTally) (level : Nat) :
    LevelsTaken (s, t) (s.takeLevel t level) 1 := by
  cases past : s.window.pastEnd with
  | true => rw [takeLevel_pastEnd t level past]; exact ⟨rfl, fun _ => rfl, rfl⟩
  | false =>
    by_cases dark : s.window.scene = 0
    · rw [takeLevel_dark t level past dark]; exact ⟨rfl, fun _ => rfl, rfl⟩
    · rw [takeLevel_stored t level past dark]
      refine ⟨rfl, fun ch => ?_, Nat.add_right_comm ..⟩
      exact (cell_setCell ..).trans (if_neg fun same => dark same.1.symm)

theorem levelsTaken_takeRun (p : State × SceneTally) (levels : List Nat) :
    LevelsTaken p (takeRun p levels) levels.length := by
  induction levels generalizing p with
  | nil => exact ⟨rfl, fun _ => rfl, rfl⟩
  | cons level levels ih =>
    obtain ⟨rest, dark, counted⟩ := ih (p.1.takeLevel p.2 level)
    have ⟨rest', dark', counted'⟩ := levelsTaken_takeLevel p.1 p.2 level
    rw [takeRun_cons]
    refine ⟨rest.trans (by rw [rest']), fun ch => (dark ch).trans (dark' ch), ?_⟩
    rw [counted, counted', List.length_cons, Nat.add_assoc, Nat.add_comm 1]

/-- That the host has been heard makes no difference to the levels taken. -/
theorem takeRun_hostHeard (s : State) (t : SceneTally) (levels : List Nat) :
    takeRun (s.hostHeard, t) levels = ((takeRun (s, t) levels).1.hostHeard, (takeRun (s, t) levels).2) := by
  have one (s : State) (t : SceneTally) (level : Nat) :
      s.hostHeard.takeLevel t level = ((s.takeLevel t level).1.hostHeard, (s.takeLevel t level).2) := by
    unfold State.takeLevel; dsimp only; repeat' split
    all_goals first
      | rfl
      | contradiction
  induction levels generalizing s t with
  | nil => rfl
  | cons level levels ih => rw [takeRun_cons, takeRun_cons]; dsimp only; rw [one]; exact ih ..

/-! ## Levels read -/

theorem length_readLevels (s : State) (n : Nat) (w : Window) : (s.readLevels n w).2.length = n := by
  induction n generalizing w with
  | zero => rfl
  | succ n ih => exact congrArg (· + 1) (ih _)

/-- A read past the end returns the last cell again (R152). -/
theorem readLevels_pastEnd (s : State) {w : Window} (past : w.pastEnd = true) (n : Nat) :
    s.readLevels n w = (w, List.replicate n (s.cell w.scene w.channel)) := by
  induction n with
  | zero => rfl
  | succ n ih => rw [State.readLevels, if_pos past, ih]; rfl

/-- What is read is in the scene table and nowhere else. -/
theorem readLevels_same {s t : State} (h : t.scenes = s.scenes) (n : Nat) (w : Window) :
    t.readLevels n w = s.readLevels n w := by
  induction n generalizing w with
  | zero => rfl
  | succ n ih => rw [State.readLevels, State.readLevels, ih, State.cell, State.cell, h]

/-! ## The scene commands -/

theorem countOk_iff {n : Nat} : countOk n = true ↔ 1 ≤ n ∧ n ≤ 16 := by simp [countOk]

section Commands
variable {s : State} (hs : s.slotOpen = true)
include hs

/-- An accepted command with an effect on the owner alone, `v`: it is answered, and what follows effects follows. -/
theorem becomes_queuedEffect {v : State} {cmd : Instr} {act : State → Answered} {e : Status} {x : Result}
    (hx : exec cmd s = .next (s.queuedEffect cmd act)) (ha : act s.hostHeard = (v.hostHeard, e, x))
    (he : e.accepted = true) : Becomes cmd s (v.answered cmd e x) :=
  becomes_of_exec (hx.trans (congrArg Host.Outcome.next (queuedEffect_accepted hs ha he))) (.respond (.finish ..) ..)

theorem exec_sceneWindow_refused {f : WindowFields} (h : windowOf f = none) :
    exec (.sceneWindow f) s = .next (s.answered (.sceneWindow f) .range .none) := by
  refine congrArg Host.Outcome.next (queued_of_slotOpen hs ?_)
  rw [State.sceneWindow, h]; rfl

theorem exec_sceneWindow_accepted {f : WindowFields} {w : Window} (h : windowOf f = some w) :
    exec (.sceneWindow f) s =
      .next (({ s with window := w } : State).answered (.sceneWindow f) .ok (.window w)) := by
  refine congrArg Host.Outcome.next (queued_of_slotOpen hs (u := ({ s with window := w } : State).hostHeard) ?_)
  rw [State.sceneWindow, h]; rfl

/-- Levels written from a window on: table and window are those after the run, and the answer tells its tally and where
the pointer stands (R151). -/
theorem becomes_sceneWrite {w : Window} {cmd : Instr} {act : State → Answered} {n : Nat} {levels : List Nat}
    (hx : exec cmd s = .next (s.queuedEffect cmd act))
    (ha : act s.hostHeard = ({ s with window := w } : State).hostHeard.sceneWrite n levels) :
    let q := ({ s with window := w } : State).takeLevels (levels.take n)
    Becomes cmd s (({ s with scenes := q.1.scenes, window := q.1.window } : State).answered cmd (okStatus q.2.clamped)
        (.sceneWritten q.2.stored q.2.dropped q.1.window.scene q.1.window.channel q.1.window.pastEnd)) ∧
      q.2.stored + q.2.dropped = (levels.take n).length ∧ ∀ ch, q.1.cell 0 ch = s.cell 0 ch := by
  intro q
  obtain ⟨rest, dark, counted⟩ := levelsTaken_takeRun ({ s with window := w }, ⟨0, 0, false⟩) (levels.take n)
  have left : q.1 = { s with scenes := q.1.scenes, window := q.1.window } := rest
  refine ⟨becomes_queuedEffect hs hx ?_ (okStatus_accepted _), counted.trans (by simp), dark⟩
  rw [ha, State.sceneWrite, takeLevels_eq, takeRun_hostHeard, ← left]
  rfl

/-- Levels read from a window on (R152). -/
theorem exec_sceneRead {w : Window} {cmd : Instr} {act : State → Answered} {n : Nat}
    (hx : exec cmd s = .next (s.queued cmd act))
    (ha : act s.hostHeard = ({ s with window := w } : State).hostHeard.sceneRead n) :
    let q := s.readLevels n w
    exec cmd s = .next (({ s with window := q.1 } : State).answered cmd .ok
        (.sceneLevels q.2 q.1.scene q.1.channel q.1.pastEnd)) ∧ q.2.length = n := by
  intro q
  refine ⟨hx.trans (congrArg Host.Outcome.next ?_), length_readLevels ..⟩
  refine queued_of_slotOpen hs (u := ({ s with window := q.1 } : State).hostHeard) ?_
  have same : ({ s with window := w } : State).hostHeard.readLevels n w = q :=
    readLevels_same (by rfl) n w
  rw [ha, State.sceneRead]
  exact congrArg (fun q : Window × List Nat =>
    (({ s with window := q.1 } : State).hostHeard, Status.ok,
      Result.sceneLevels q.2 q.1.scene q.1.channel q.1.pastEnd)) same

theorem exec_scene_refused {n : Nat} (out : ¬ (1 ≤ n ∧ n ≤ 16)) (levels : List Nat) :
    exec (.sceneWriteStart n levels) s = .next (s.answered (.sceneWriteStart n levels) .range .none) ∧
      exec (.sceneWriteContinue n levels) s = .next (s.answered (.sceneWriteContinue n levels) .range .none) ∧
      exec (.sceneReadStart n) s = .next (s.answered (.sceneReadStart n) .range .none) ∧
      exec (.sceneReadContinue n) s = .next (s.answered (.sceneReadContinue n) .range .none) := by
  have uncounted : ¬ countOk n = true := mt countOk_iff.1 out
  refine ⟨?_, ?_, ?_, ?_⟩ <;> refine congrArg Host.Outcome.next ?_
  · exact queuedEffect_refused hs (if_neg uncounted) rfl
  · exact queuedEffect_refused hs (if_neg uncounted) rfl
  · exact queued_of_slotOpen hs (if_neg uncounted)
  · exact queued_of_slotOpen hs (if_neg uncounted)

end Commands

/-- One level through the pointer: dropped past the end and in scene 0, and stored, clamped, in every other cell
(R151). -/
theorem takeLevel_cell (s : State) (t : SceneTally) (level : Nat) (h : s.window.pastEnd = false)
    (lit : s.window.scene ≠ 0) (sc : SceneId) (ch : ChannelId) :
    (s.takeLevel t level).1.cell sc ch =
      if sc = s.window.scene ∧ ch = s.window.channel then min 1000 level else s.cell sc ch := by
  rw [takeLevel_stored t level h lit]; exact cell_setCell ..

/-- Settles O46: the commands by the run of levels each takes, the run by one level, the pointer by one step. -/
theorem sceneAccess : Obligations.SceneAccess := by
  refine ⟨fun s hs => ⟨fun f => exec_sceneWindow_refused hs, fun f w accepted => ?_, fun n levels out =>
    exec_scene_refused hs out levels, fun n levels one sixteen => ?_, fun n one sixteen => ?_,
    fun w past n => readLevels_pastEnd s past n, ?_⟩, fun w _ _ => ?_⟩
  · obtain ⟨first, bounds⟩ := windowOf_eq_some accepted
    exact ⟨exec_sceneWindow_accepted hs accepted, congrArg Window.scene first, congrArg Window.channel first,
      congrArg Window.pastEnd first, bounds⟩
  · have counted : countOk n = true := countOk_iff.2 ⟨one, sixteen⟩
    exact ⟨becomes_sceneWrite hs rfl (if_pos counted), becomes_sceneWrite hs rfl (if_pos counted)⟩
  · have counted : countOk n = true := countOk_iff.2 ⟨one, sixteen⟩
    exact ⟨exec_sceneRead hs rfl (if_pos counted), exec_sceneRead hs rfl (if_pos counted)⟩
  · intro t level u m
    refine ⟨fun past => ?_, fun inside dark => ?_, fun inside lit => ?_⟩
    · exact Prod.mk.inj (takeLevel_pastEnd t level past)
    · exact Prod.mk.inj (takeLevel_dark t level inside dark)
    · have cell := takeLevel_cell s t level inside lit
      have taken := takeLevel_stored t level inside lit
      have tally : m = _ := congrArg Prod.snd taken
      refine ⟨congrArg (·.1.window) taken, (cell ..).trans (if_pos ⟨rfl, rfl⟩),
        fun sc ch other => (cell sc ch).trans (if_neg other), ?_⟩
      rw [tally]; exact ⟨rfl, rfl, rfl⟩
  · intro v at_ last
    refine ⟨fun order h ch next => ?_, fun order end_ h sc next => ?_, fun order h sc next => ?_,
      fun order end_ h ch next => ?_, step_wraps, step_stops⟩
    · exact (step_next_channel order h).trans (by rw [eq_succ_of_val h next])
    · exact (step_first_channel order end_ h).trans (by rw [eq_succ_of_val h next])
    · exact (step_next_scene order h).trans (by rw [eq_succ_of_val h next])
    · exact (step_first_scene order end_ h).trans (by rw [eq_succ_of_val h next])

end Sys2Proof.Machine
end

section
/-! PROOFS. Which commands and events keep the scene table and its window: all but the scene commands leave both as they
are (R148 to R152). -/
namespace Sys2Proof.Machine

/-! ## A scene table and window that stay in range -/

/-- Where the scene table and its window are within their ranges before, they are so after. -/
structure KeepsScenes (s t : State) : Prop where
  ok : ScenesOk s → ScenesOk t

theorem scenesOk_iff {s : State} : ScenesOk s ↔
    ((∀ ch, s.cell 0 ch = 0) ∧ ∀ sc ch, s.cell sc ch ≤ 1000) ∧ WindowOk s.window :=
  ⟨fun ⟨dark, levels, a, b, c, d⟩ => ⟨⟨dark, levels⟩, a, b, c, d⟩,
   fun ⟨⟨dark, levels⟩, a, b, c, d⟩ => ⟨dark, levels, a, b, c, d⟩⟩

/-- The scene table and its window. -/
def State.sceneMemory (s : State) : Table 16 (Table 4 Nat) × Window := (s.scenes, s.window)

/-- A change elsewhere leaves table and window the very same. -/
theorem KeepsScenes.elsewhere {s t : State} (same : t.sceneMemory = s.sceneMemory) : KeepsScenes s t := ⟨fun h => by
  obtain ⟨scenes, window⟩ := Prod.mk.inj same
  unfold ScenesOk State.cell
  rw [scenes, window]
  exact h⟩

theorem KeepsScenes.refl (s : State) : KeepsScenes s s := ⟨id⟩

theorem KeepsScenes.trans {s t u : State} (a : KeepsScenes s t) (b : KeepsScenes t u) : KeepsScenes s u :=
  ⟨b.ok ∘ a.ok⟩

/-- What keeps them from one state on keeps them from any other with the same table and window. -/
theorem KeepsScenes.since {s u t : State} (h : KeepsScenes u t) (same : u.sceneMemory = s.sceneMemory) :
    KeepsScenes s t := .trans (.elsewhere same) h

theorem KeepsScenes.foldl {α : Type} {f : State → α → State} (h : ∀ s a, KeepsScenes s (f s a)) (l : List α)
    (s : State) : KeepsScenes s (l.foldl f s) := by
  induction l generalizing s with
  | nil => exact .refl s
  | cons a l ih => exact (h s a).trans (ih _)

theorem RoomWork.keepsScenes {s t : State} (h : RoomWork s t) : KeepsScenes s t :=
  .elsewhere (Prod.ext h.scenes h.window)

theorem Follows.keepsScenes {s t : State} (h : Follows s t) : KeepsScenes s t :=
  .elsewhere (Prod.ext h.scenes h.window)

theorem KeepsScenes.finish {s t : State} (h : KeepsScenes s t) (b : State) : KeepsScenes s (t.finish b) :=
  h.trans (Follows.finish t b).keepsScenes

/-! ### The scene commands -/

section Scenes
variable (s : State)

theorem KeepsScenes.withWindow {w : Window} (h : WindowOk s.window → WindowOk w) :
    KeepsScenes s { s with window := w } := ⟨fun ok => by
  obtain ⟨levels, window⟩ := scenesOk_iff.1 ok
  exact scenesOk_iff.2 ⟨levels, h window⟩⟩

theorem KeepsScenes.rewindWindow : KeepsScenes s s.rewindWindow := .withWindow s .rewind

theorem KeepsScenes.setCell {sc : SceneId} (lit : sc ≠ 0) (ch : ChannelId) (level : Nat) :
    KeepsScenes s (s.setCell sc ch (min 1000 level)) := ⟨fun ok => by
  obtain ⟨⟨dark, levels⟩, window⟩ := scenesOk_iff.1 ok
  refine scenesOk_iff.2 ⟨⟨fun c => ?_, fun k c => ?_⟩, window⟩
  · rw [cell_setCell, if_neg fun same => lit same.1.symm]; exact dark c
  · rw [cell_setCell]
    split
    · exact Nat.min_le_left ..
    · exact levels k c⟩

theorem KeepsScenes.takeLevel (n : SceneTally) (level : Nat) : KeepsScenes s (s.takeLevel n level).1 := by
  cases past : s.window.pastEnd with
  | true => rw [takeLevel_pastEnd n level past]; exact .refl s
  | false =>
    by_cases dark : s.window.scene = 0
    · rw [takeLevel_dark n level past dark]; exact .withWindow s .step
    · rw [takeLevel_stored n level past dark]
      exact (KeepsScenes.setCell s dark s.window.channel level).trans (.withWindow _ .step)

theorem KeepsScenes.sceneWrite (count : Nat) (levels : List Nat) : KeepsScenes s (s.sceneWrite count levels).1 := by
  have run (l : List Nat) (p : State × SceneTally) : KeepsScenes p.1 (takeRun p l).1 := by
    induction l generalizing p with
    | nil => exact .refl _
    | cons a l ih => exact (KeepsScenes.takeLevel ..).trans (ih _)
  exact run _ (s, ⟨0, 0, false⟩)

theorem windowOk_readLevels (n : Nat) {w : Window} (h : WindowOk w) : WindowOk (s.readLevels n w).1 := by
  induction n generalizing w with
  | zero => exact h
  | succ n ih =>
    refine ih ?_
    split
    · exact h
    · exact h.step

theorem KeepsScenes.sceneRead (count : Nat) : KeepsScenes s (s.sceneRead count).1 :=
  .withWindow s (windowOk_readLevels s count)

theorem KeepsScenes.sceneWindow (f : WindowFields) : KeepsScenes s (s.sceneWindow f).1 := by
  unfold State.sceneWindow
  split
  · exact .refl s
  · rename_i w accepted
    obtain ⟨first, -, -, -, -, scenes, channels⟩ := windowOf_eq_some accepted
    refine .withWindow s fun _ => ?_
    rw [first]
    exact ⟨le_refl _, scenes, le_refl _, channels⟩

/-- A run of levels is written or read where its count is in range, and refused otherwise (R151, R152). -/
theorem KeepsScenes.whereCounted {a : Answered} {count : Nat} (h : KeepsScenes s a.1) :
    KeepsScenes s (if countOk count then a else s.refuse .range).1 := by
  split
  · exact h
  · exact .refl s

end Scenes

/-! ### Commands as they arrive -/

theorem KeepsScenes.arrive {act : State → State} (h : ∀ t, KeepsScenes t (act t)) (s : State) :
    KeepsScenes s (s.arrive act) := by
  unfold State.arrive; split
  · exact .elsewhere rfl
  · exact h s

theorem KeepsScenes.hostHeard_arrive {act : State → State} (h : ∀ t, KeepsScenes t (act t)) (s : State) :
    KeepsScenes s (s.hostHeard.arrive act) := (KeepsScenes.arrive h s.hostHeard).since (by rfl)

theorem KeepsScenes.queued {act : State → Answered} (h : ∀ t, KeepsScenes t (act t).1) (s : State) (c : Instr) :
    KeepsScenes s (s.queued c act) :=
  .hostHeard_arrive (fun t => (h t).trans (.elsewhere (by rfl))) s

theorem KeepsScenes.queuedRead (s : State) (c : Instr) (answer : State → Status × Result) :
    KeepsScenes s (s.queuedRead c answer) := .queued (fun t => .refl t) s c

theorem KeepsScenes.queuedTouching {act : State → Answered} (h : ∀ t, KeepsScenes t (act t).1) (s : State)
    (c : Instr) (touched : RoomId → Bool) : KeepsScenes s (s.queuedTouching c touched act) := by
  refine .queued (fun t => ?_) s c
  change KeepsScenes t (if (act t).2.1.accepted then (act t).1.finishWith t touched else (act t).1)
  split
  · exact (h t).trans (Follows.finishWith ..).keepsScenes
  · exact h t

theorem KeepsScenes.queuedEffect {act : State → Answered} (h : ∀ t, KeepsScenes t (act t).1) (s : State) (c : Instr) :
    KeepsScenes s (s.queuedEffect c act) := .queuedTouching h s c _

theorem KeepsScenes.storeCommand (s : State) (c : Instr) (op : HostOp) :
    KeepsScenes s (s.storeCommand c op).takeNext := (Follows.takeNext (s.storeCommand c op)).keepsScenes.since (by rfl)

theorem KeepsScenes.queuedOperation (s : State) (c : Instr) (op : HostOp) : KeepsScenes s (s.queuedOperation c op) :=
  .hostHeard_arrive (fun t => .storeCommand t c op) s

theorem KeepsScenes.queuedEither {act : State → Answered ⊕ HostOp} (h : ∀ t a, act t = .inl a → KeepsScenes t a.1)
    (s : State) (c : Instr) : KeepsScenes s (s.queuedEither c act) := by
  refine .hostHeard_arrive (fun t => ?_) s
  split
  · rename_i u e x ha
    have kept : KeepsScenes t u := h t _ ha
    split
    · exact (kept.finish t).trans (.elsewhere (by rfl))
    · exact kept.trans (.elsewhere (by rfl))
  · exact .storeCommand ..

section Effects
variable (s : State)

/-! ### Configuration -/

theorem KeepsScenes.rewriteRoom (r : RoomId) (c : RoomRec) : KeepsScenes s (s.rewriteRoom r c) := by
  have recorded : KeepsScenes s (s.recorded r c) := by
    unfold State.recorded; dsimp only; split
    · exact .elsewhere rfl
    · have left (t : State) : KeepsScenes t (t.leaveSafe r) := (RoomWork.leaveSafe t r).keepsScenes.since (by rfl)
      exact ((left _).trans ((readdress_after ..).1.keepsScenes.since (by rfl))).since (by rfl)
  have refitted (t : State) (off : Bool) : KeepsScenes t (t.refitTally r off) := by
    unfold State.refitTally; dsimp only; repeat' split
    all_goals exact .elsewhere rfl
  have moved (t : State) (old new : Option AirId) : KeepsScenes t (t.moveAirGroup r old new) := by
    unfold State.moveAirGroup; dsimp only; repeat' split
    all_goals exact .elsewhere rfl
  rw [rewriteRoom_eq]
  exact ((recorded.trans (refitted ..)).trans (moved ..)).trans (.elsewhere (by rfl))

theorem KeepsScenes.writeRoom (r : RoomId) (w : RoomWrite) : KeepsScenes s (s.writeRoom r w).1 := by
  unfold State.writeRoom; split
  · exact .refl s
  · unfold State.applyRoom; split
    · exact .elsewhere rfl
    · exact .elsewhere rfl
    · exact .rewriteRoom ..
    · exact .elsewhere rfl

theorem KeepsScenes.writeRoomStored (n : Nat) (w : RoomWrite) : KeepsScenes s (s.writeRoomStored n w).1 := by
  unfold State.writeRoomStored; repeat' split
  all_goals first
    | exact .refl s
    | exact .writeRoom ..

theorem KeepsScenes.writeRoomNow {n : Nat} {w : RoomWrite} {a : Answered} (h : s.writeRoomNow n w = .inl a) :
    KeepsScenes s a.1 := by
  unfold State.writeRoomNow at h
  repeat' split at h
  all_goals cases h
  · exact .refl s
  · exact .refl s
  · exact .writeRoom ..

theorem KeepsScenes.writeWing (gap : Nat) (b : Band) (silence : Nat) (check : State → Nat → Option Result) :
    KeepsScenes s (s.writeWing gap b silence check).1 := by
  unfold State.writeWing; dsimp only; repeat' split
  all_goals exact .elsewhere rfl

theorem KeepsScenes.writeWingNow {gap silence : Nat} {b : Band} {a : Answered}
    (h : s.writeWingNow gap b silence = .inl a) : KeepsScenes s a.1 := by
  unfold State.writeWingNow at h
  split at h
  · cases h
  · cases h; exact .writeWing ..

theorem KeepsScenes.splitIfMerged (g : GroupId) : KeepsScenes s (s.splitIfMerged g) :=
  (RoomWork.splitIfMerged s g).keepsScenes

theorem KeepsScenes.writePartition (n : Nat) (rooms : List Nat) : KeepsScenes s (s.writePartition n rooms).1 := by
  unfold State.writePartition; repeat' split
  all_goals first
    | exact .elsewhere rfl
    | exact (KeepsScenes.splitIfMerged ..).trans (.elsewhere (by rfl))

theorem KeepsScenes.deletePartition (n : Nat) : KeepsScenes s (s.deletePartition n).1 := by
  unfold State.deletePartition; repeat' split
  all_goals first
    | exact .elsewhere rfl
    | exact (KeepsScenes.splitIfMerged ..).trans (.elsewhere (by rfl))

theorem KeepsScenes.writeProfile (n : Nat) (w : ProfileWrite) : KeepsScenes s (s.writeProfile n w).1 := by
  unfold State.writeProfile; repeat' split
  all_goals exact .elsewhere rfl

theorem KeepsScenes.writeAirGroup (n fallback period : Nat) (mask : TriggerMask) :
    KeepsScenes s (s.writeAirGroup n fallback period mask).1 := by
  unfold State.writeAirGroup; split <;> exact .elsewhere rfl

theorem KeepsScenes.writeCalibration (n : Nat) (c : Calibration) : KeepsScenes s (s.writeCalibration n c).1 := by
  unfold State.writeCalibration; split <;> exact .elsewhere rfl

/-! ### Service, air, light and loop -/

theorem KeepsScenes.holdRoomNow (n : Nat) (f : HoldFields) : KeepsScenes s (s.holdRoomNow n f).1 := by
  unfold State.holdRoomNow State.holdRoom; repeat' split
  all_goals exact .elsewhere rfl

theorem KeepsScenes.releaseHoldNow (n : Nat) : KeepsScenes s (s.releaseHoldNow n).1 := by
  unfold State.releaseHoldNow State.releaseHold; repeat' split
  all_goals exact .elsewhere rfl

theorem KeepsScenes.extendNow {n : Nat} {h : Handle} {a : Answered} (ha : s.extendNow n h = .inl a) :
    KeepsScenes s a.1 := by
  unfold State.extendNow at ha
  repeat' split at ha
  all_goals cases ha
  all_goals exact .refl s

theorem KeepsScenes.endOccurrence {t : State} {n : Nat} {h : Handle} (hx : execEndOccurrence n h s = .next t) :
    KeepsScenes s t := by
  cases hx
  refine .hostHeard_arrive (fun t => ?_) s
  repeat' split
  all_goals exact .elsewhere rfl

theorem KeepsScenes.setOpenRange {t : State} {first last : Nat} (hx : execSetOpenRange first last s = .next t) :
    KeepsScenes s t := by
  cases hx
  refine .hostHeard_arrive (fun t => ?_) s
  split
  · rename_i a b _ _
    let u := t.takeCommand (.setOpenRange first last)
    have taken : KeepsScenes t (u.rangeTaken a b) := (RoomWork.rangeTaken u a b).keepsScenes.since (by rfl)
    exact KeepsScenes.finish (taken.trans (RoomWork.offerWork ..).keepsScenes) t
  · exact .elsewhere rfl

theorem KeepsScenes.readStatus (n : Nat) : KeepsScenes s (s.readStatus n).1 := by
  unfold State.readStatus; split <;> exact .elsewhere rfl

theorem KeepsScenes.setCapacity (n capacity : Nat) : KeepsScenes s (s.setCapacity n capacity).1 := by
  unfold State.setCapacity; split <;> exact .elsewhere rfl

theorem KeepsScenes.requestAllocation (n : Nat) : KeepsScenes s (s.requestAllocation n).1 := by
  unfold State.requestAllocation; split <;> exact .elsewhere rfl

theorem KeepsScenes.setEconomy (e : Option Switch) (cap : Nat) : KeepsScenes s (s.setEconomy e cap).1 := by
  unfold State.setEconomy; split <;> exact .elsewhere rfl

theorem KeepsScenes.setFacade (n : Nat) (a : Option Sun) (b : Option Season) (c : Option Switch) :
    KeepsScenes s (s.setFacade n a b c).1 := by
  unfold State.setFacade; split <;> exact .elsewhere rfl

theorem KeepsScenes.readmitStation (n : Nat) : KeepsScenes s (s.readmitStation n).1 := by
  unfold State.readmitStation; repeat' split
  all_goals exact .elsewhere rfl

theorem KeepsScenes.readStation (n : Nat) : KeepsScenes s (s.readStation n).1 := by
  unfold State.readStation; repeat' split
  all_goals exact .elsewhere rfl

theorem KeepsScenes.startRound : KeepsScenes s s.startRound := by
  unfold State.startRound; split <;> exact .elsewhere rfl

theorem KeepsScenes.visit : KeepsScenes s s.visit := by
  unfold State.visit; repeat' split
  all_goals exact .elsewhere rfl

theorem KeepsScenes.gradeStation (r : RoomId) (was : StationState) (health : Nat) :
    KeepsScenes s (s.gradeStation r was health) := by
  unfold State.gradeStation; dsimp only; split <;> exact .elsewhere rfl

theorem KeepsScenes.setpointFailed (r : RoomId) (x : Station) : KeepsScenes s (s.setpointFailed r x) := by
  have entered (t : State) : KeepsScenes t (t.enterSafe r) := by
    unfold State.enterSafe
    refine KeepsScenes.trans ?_ (RoomWork.offerWork ..).keepsScenes
    exact ((RoomWork.freezeRoom (t.modifyCtx r _) r).keepsScenes.trans (.elsewhere (by rfl))).since (by rfl)
  unfold State.setpointFailed; split
  · exact (entered _).since (by rfl)
  · exact .gradeStation ..

theorem KeepsScenes.fail (x : Exchange) (code : Nat) : KeepsScenes s (s.fail x code) := by
  have logged (t : State) : KeepsScenes t t.logFailure := by
    unfold State.logFailure; split <;> exact .elsewhere rfl
  have failed (t : State) : KeepsScenes t (t.failedAt x code) := by
    unfold State.failedAt; split
    · exact .refl t
    · dsimp only; split
      · exact (KeepsScenes.setpointFailed ..).since (by rfl)
      · exact .elsewhere rfl
  unfold State.fail; dsimp only; split
  · exact (logged _).since (by rfl)
  · exact ((logged _).trans (failed _)).since (by rfl)

theorem KeepsScenes.deliverReport (r : RoomId) (rep : Report) : KeepsScenes s (s.deliverReport r rep) := by
  have event (t : State) : KeepsScenes t (t.takeEvent r rep) := by
    cases station : (t.room r).station with
    | none => rw [State.takeEvent, station]; exact .refl t
    | some y => exact (RoomWork.takeEvent (rep := rep) station).keepsScenes.since (by rfl)
  have restarted : KeepsScenes s
      (if rep.flags.restarted then s.modifyStation r fun x => { x with lastEvent := none } else s) := by
    split <;> exact .elsewhere rfl
  exact ((restarted.trans (RoomWork.told _ r rep).keepsScenes).trans (event _)).trans (.elsewhere (by rfl))

theorem KeepsScenes.succeed (x : Exchange) (rep : Report) : KeepsScenes s (s.succeed x rep) := by
  have good (t : State) : KeepsScenes t (t.goodAt x rep) := by
    unfold State.goodAt; split
    · exact .refl t
    · dsimp only; repeat' split
      · exact ((KeepsScenes.gradeStation ..).trans (.deliverReport ..)).since (by rfl)
      · exact (RoomWork.leaveSafe ..).keepsScenes.since (by rfl)
      · exact .elsewhere rfl
  unfold State.succeed; dsimp only; split
  · exact .elsewhere rfl
  · exact (good _).since (by rfl)

theorem KeepsScenes.noReply : KeepsScenes s s.noReply := by
  unfold State.noReply; split
  · exact .refl s
  · exact (KeepsScenes.fail ..).finish s

theorem KeepsScenes.replyReceived (reply : Reply) : KeepsScenes s (s.replyReceived reply) := by
  unfold State.replyReceived; repeat' split
  · exact .refl s
  · exact (KeepsScenes.fail ..).finish s
  · exact (KeepsScenes.succeed ..).finish s

/-! ### Store operations -/

theorem KeepsScenes.createBooking (now : Instant) (f : BookingFields) : KeepsScenes s (s.createBooking now f).1 := by
  unfold State.createBooking; repeat' split
  all_goals first
    | exact .elsewhere rfl
    | exact ((RoomWork.placeToday ..).trans (.reportChanges ..)).keepsScenes.since (by rfl)

theorem KeepsScenes.amendBooking (now : Instant) (g : Handle) (f : BookingFields) :
    KeepsScenes s (s.amendBooking now g f).1 := by
  cases hr : s.resolve g with
  | refused e => rw [amendBooking_refused hr]; exact .refl s
  | live k old =>
    cases hf : recordOf f with
    | none => rw [amendBooking_range hr hf]; exact .refl s
    | some p =>
      rw [amendBooking_checks hr hf]; repeat' split
      all_goals first
        | exact .elsewhere rfl
        | exact ((OnlyAgendas.amendAgendas ..).roomWork.trans (.reportChanges ..)).keepsScenes.since (by rfl)

theorem KeepsScenes.cancelBooking (g : Handle) : KeepsScenes s (s.cancelBooking g).1 := by
  unfold State.cancelBooking; split
  · exact .refl s
  · exact ((RoomWork.removeHandle ..).trans (.reportChanges ..)).keepsScenes.since (by rfl)

theorem KeepsScenes.suspendBooking (g : Handle) : KeepsScenes s (s.suspendBooking g).1 := by
  unfold State.suspendBooking; split
  · exact .refl s
  · exact ((RoomWork.removeHandle ..).trans (.reportChanges ..)).keepsScenes.since (by rfl)

theorem KeepsScenes.resumeBooking (now : Instant) (g : Handle) : KeepsScenes s (s.resumeBooking now g).1 := by
  unfold State.resumeBooking; dsimp only; repeat' split
  all_goals first
    | exact .elsewhere rfl
    | exact ((RoomWork.placeToday ..).trans (.reportChanges ..)).keepsScenes.since (by rfl)

theorem KeepsScenes.retire (d : Date) : KeepsScenes s (s.retire d).1 := by
  have freed (slots : Table 512 Slot) : KeepsScenes s { s with store := { s.store with slots := slots } } :=
    .elsewhere rfl
  exact (freed _).trans (RoomWork.retire s d).keepsScenes

theorem KeepsScenes.setClock (d : Date) (m : Nat) : KeepsScenes s (s.setClock d m).1 := by
  unfold State.setClock; split
  · exact .refl s
  · split
    · exact (RoomWork.jump ..).keepsScenes.since (by rfl)
    · have retired : KeepsScenes s ((s.putClock d m).retire d).1 :=
        (KeepsScenes.retire (s.putClock d m) d).since (by rfl)
      exact retired.trans ((RoomWork.mapAgendas _ fun _ _ => []).trans (.buildAll ..)).keepsScenes

theorem KeepsScenes.addClosure (now : Instant) (d : Date) : KeepsScenes s (s.addClosure now d).1 := by
  unfold State.addClosure; dsimp only; repeat' split
  all_goals first
    | exact .elsewhere rfl
    | exact (RoomWork.reportChanges ..).keepsScenes.since (by rfl)

theorem KeepsScenes.removeClosure (now : Instant) (d : Date) : KeepsScenes s (s.removeClosure now d).1 := by
  unfold State.removeClosure; dsimp only; split
  · exact .refl s
  · split
    · exact .refl s
    · refine KeepsScenes.trans ?_ (RoomWork.reportChanges ..).keepsScenes
      split
      · exact (OnlyAgendas.broughtBack _ now allRooms).roomWork.keepsScenes.since (by rfl)
      · exact .elsewhere rfl

theorem KeepsScenes.extend (now : Instant) (r : RoomId) (g : Handle) (step : Nat) :
    KeepsScenes s (s.extend now r g step).1 := by
  unfold State.extend; split
  · exact ((RoomWork.mapHandle ..).trans (.reportChanges ..)).keepsScenes
  · exact .refl s

theorem KeepsScenes.extendForHost (now : Instant) (r : RoomId) (g : Handle) (step : Nat) :
    KeepsScenes s (s.extendForHost now r g step).1 := by
  have kept := KeepsScenes.extend s now r g step
  unfold State.extendForHost
  split <;> simp_all

theorem KeepsScenes.serveNote (kind : NoteKind) (g : Handle) : KeepsScenes s (s.serveNote kind g) := by
  unfold State.serveNote; dsimp only; repeat' split
  all_goals first
    | exact .elsewhere rfl
    | exact ((RoomWork.removeHandle ..).trans (.reportChanges ..)).keepsScenes.since (by rfl)

theorem KeepsScenes.serveRoom (now : Instant) (r : RoomId) (q : RoomReq) : KeepsScenes s (s.serveRoom now r q) := by
  cases q with
  | note kind g => exact .serveNote s kind g
  | extend g step => exact (KeepsScenes.extend s now r g step).trans (.elsewhere (by rfl))

theorem KeepsScenes.stepEffect (now : Instant) (st : CalStep) : KeepsScenes s (s.stepEffect now st) := by
  cases st with
  | retire => exact .retire s now.date
  | build r =>
    have ended (t : State) : KeepsScenes t t.endRebuild := by
      unfold State.endRebuild; dsimp only; repeat' split
      all_goals exact .elsewhere rfl
    exact (RoomWork.build s now r).keepsScenes.trans (ended _)
  | termEnd => exact (RoomWork.termStepped s).keepsScenes

theorem KeepsScenes.hostEffect (now : Instant) (op : HostOp) : KeepsScenes s (s.hostEffect now op).1 := by
  cases op with
  | extend r g step => exact .extendForHost ..
  | command c =>
    cases c
    case createBooking => exact .createBooking ..
    case amendBooking => exact .amendBooking ..
    case cancelBooking => exact .cancelBooking ..
    case suspendBooking => exact .suspendBooking ..
    case resumeBooking => exact .resumeBooking ..
    case setClock => exact .setClock ..
    case addClosure => exact .addClosure ..
    case removeClosure => exact .removeClosure ..
    case writeRoom => exact .writeRoomStored ..
    case writeWing => exact .writeWing ..
    case writePartition => exact .writePartition ..
    case deletePartition => exact .deletePartition ..
    all_goals exact .refl s

theorem KeepsScenes.completeOp : KeepsScenes s s.completeOp := by
  have effect (run : Running) : KeepsScenes s (s.opEffect run) := by
    unfold State.opEffect; split
    · exact (KeepsScenes.hostEffect ..).trans (RoomWork.completeCommand ..).keepsScenes
    · exact .serveRoom ..
    · exact .stepEffect ..
  unfold State.completeOp; split
  · exact .refl s
  · rename_i run _
    exact ((effect run).trans ((RoomWork.applyHeld _).keepsScenes.since (by rfl))).finish s

theorem KeepsScenes.completeIf (p : StoreOp → Bool) : KeepsScenes s (s.completeIf p) := by
  unfold State.completeIf; split
  · exact .completeOp s
  · exact .refl s

/-! ### The clock and the timers -/

theorem KeepsScenes.offerWork (w : CalWork) : KeepsScenes s (s.offerWork w) := (RoomWork.offerWork s w).keepsScenes

theorem KeepsScenes.overrunChecks : KeepsScenes s s.overrunChecks := (RoomWork.overrunChecks s).keepsScenes

theorem KeepsScenes.minuteEvent : KeepsScenes s s.minuteEvent := by
  unfold State.minuteEvent; split
  · exact (((KeepsScenes.offerWork ..).since (by rfl)).trans (.overrunChecks _)).finish s
  · exact .refl s

theorem KeepsScenes.rolloverEvent : KeepsScenes s s.rolloverEvent := by
  unfold State.rolloverEvent; split
  · exact ((KeepsScenes.offerWork s _).trans ((KeepsScenes.overrunChecks _).since (by rfl))).finish s
  · exact .refl s

theorem KeepsScenes.termEnd : KeepsScenes s s.termEnd := by
  unfold State.termEnd; split
  · exact ((KeepsScenes.offerWork s _).trans ((KeepsScenes.overrunChecks _).since (by rfl))).finish s
  · exact .refl s

theorem KeepsScenes.noShowExpiry (r : RoomId) : KeepsScenes s (s.noShowExpiry r) := by
  unfold State.noShowExpiry; repeat' split
  · exact (KeepsScenes.offerWork ..).finish s
  · exact .refl s
  · exact .refl s

theorem KeepsScenes.requestTaken (p : CalWork → Bool) : KeepsScenes s (s.requestTaken p) := by
  unfold State.requestTaken; split
  · exact (RoomWork.takeWork s p).keepsScenes.finish s
  · exact .refl s

theorem KeepsScenes.absenceEvent (r : RoomId) : KeepsScenes s (s.absenceEvent r) := by
  unfold State.absenceEvent; split
  · exact (RoomWork.absenceExpiry s r).keepsScenes.finish s
  · exact .refl s

theorem KeepsScenes.quietEvent (r : RoomId) : KeepsScenes s (s.quietEvent r) := by
  unfold State.quietEvent; split
  · exact (RoomWork.quietExpiry s r).keepsScenes.finish s
  · exact .refl s

theorem KeepsScenes.settleEvent (r : RoomId) : KeepsScenes s (s.settleEvent r) := by
  unfold State.settleEvent; split
  · exact (RoomWork.settleExpiry s r).keepsScenes.finish s
  · exact .refl s

theorem KeepsScenes.holdEvent (r : RoomId) : KeepsScenes s (s.holdEvent r) := by
  unfold State.holdEvent; split
  · exact (Follows.finishWith (s.endHold r) ..).keepsScenes.since (by rfl)
  · exact .refl s

theorem KeepsScenes.silenceExpiry : KeepsScenes s s.silenceExpiry := by
  unfold State.silenceExpiry; split
  · exact (Follows.finishWith s.hostAbsent ..).keepsScenes.since (by rfl)
  · exact .refl s

theorem KeepsScenes.periodEvent (g : AirId) : KeepsScenes s (s.periodEvent g) := by
  unfold State.periodEvent; split <;> exact .elsewhere rfl

theorem KeepsScenes.passEvent (g : AirId) : KeepsScenes s (s.passEvent g) := by
  unfold State.passEvent State.completePass; dsimp only; repeat' split
  all_goals exact .elsewhere rfl

theorem KeepsScenes.travelEvent (r : RoomId) (b : BlindId) : KeepsScenes s (s.travelEvent r b) := by
  unfold State.travelEvent; split
  · exact (Follows.finish (s.modifyBlind r b _) s).keepsScenes.since (by rfl)
  · exact .refl s

theorem KeepsScenes.pauseEvent (r : RoomId) (b : BlindId) : KeepsScenes s (s.pauseEvent r b) := by
  unfold State.pauseEvent; split
  · exact (Follows.finish (s.modifyBlind r b _) s).keepsScenes.since (by rfl)
  · exact .refl s

theorem KeepsScenes.drainRoom (r : RoomId) : KeepsScenes s (s.drainRoom r) :=
  (((((KeepsScenes.noShowExpiry s r).trans (.absenceEvent ..)).trans (.quietEvent ..)).trans (.settleEvent ..)).trans
    (.holdEvent ..)).trans
    ((((KeepsScenes.travelEvent ..).trans (.pauseEvent ..)).trans (.travelEvent ..)).trans (.pauseEvent ..))

theorem KeepsScenes.drain : KeepsScenes s s.drain := by
  have clock : KeepsScenes s s.minuteEvent.rolloverEvent.termEnd :=
    ((KeepsScenes.minuteEvent s).trans (.rolloverEvent _)).trans (.termEnd _)
  have held (t : State) : KeepsScenes t
      (if t.store.running.isNone && !t.cal.work.isEmpty then t.applyHeld.finish t else t) := by
    split
    · exact (RoomWork.applyHeld t).keepsScenes.finish t
    · exact .refl t
  have rooms (t : State) : KeepsScenes t (allRooms.foldl State.drainRoom t) := .foldl KeepsScenes.drainRoom ..
  have periods (t : State) : KeepsScenes t ((List.finRange 4).foldl State.periodEvent t) :=
    .foldl KeepsScenes.periodEvent ..
  exact (clock.trans (held _)).trans ((rooms _).trans ((KeepsScenes.silenceExpiry _).trans (periods _)))

theorem KeepsScenes.second : KeepsScenes s s.second := by
  have counted (t : State) : KeepsScenes t t.countSecond := .elsewhere rfl
  exact (KeepsScenes.drain s).trans (counted _)

theorem KeepsScenes.tick : KeepsScenes s s.tick := by
  unfold State.tick; dsimp only; split
  · exact (KeepsScenes.second (s.cycles 1).wrapDivider).since (by rfl)
  · exact .elsewhere rfl

theorem KeepsScenes.secondEvent : KeepsScenes s s.secondEvent :=
  (KeepsScenes.second (s.cycles (secondCycles - s.divider)).wrapDivider).since (by rfl)

end Effects

/-! ## Every step -/

/-- No command and no event takes the scene table or its window out of range. -/
theorem KeepsScenes.of_exec {s t : State} (c : Instr) (hx : exec c s = .next t) : KeepsScenes s t := by
  have next {u : State} (same : exec c s = .next u) (hu : KeepsScenes s u) : KeepsScenes s t := by
    cases same.symm.trans hx; exact hu
  have restarted (cause : ResetCause) : KeepsScenes s (s.warmReset cause) :=
    (KeepsScenes.rewindWindow s).trans ((follows_warmReset s cause).keepsScenes.since (by rfl))
  cases c
  case powerOn => exact next rfl ⟨fun _ => scenesOk_reset⟩
  case resetLine | restart => exact next rfl (restarted _)
  case poll | readResponse | readAttention | ackAttention | readRoomChanges | readBookingChanges =>
    exact next rfl (.elsewhere (by rfl))
  case malformed => exact next rfl (.arrive (fun t => .elsewhere (by rfl)) s)
  case unknownCommand | setAttention | readLoopLog => exact next rfl (.queued (fun t => .elsewhere (by rfl)) s _)
  case readResetCause | readRoom | readProfile | readWing | readPartition | readAirGroup | readCalibration | readClock |
      listClosures | readRoomSensors | readAllocation | readRoomAir | readRoomLighting | readWingLighting =>
    exact next rfl (.queuedRead ..)
  case writePartition | deletePartition | createBooking | amendBooking | cancelBooking | suspendBooking | resumeBooking |
      readBooking | listRoomBookings | readAgenda | findFreeRoom | setClock | addClosure | removeClosure =>
    exact next rfl (.queuedOperation ..)
  case writeRoom => exact next rfl (.queuedEither (fun t a => .writeRoomNow t) s _)
  case writeProfile => exact next rfl (.queuedEffect (fun t => .writeProfile ..) s _)
  case writeWing => exact next rfl (.queuedEither (fun t a => .writeWingNow t) s _)
  case writeAirGroup => exact next rfl (.queued (fun t => .writeAirGroup ..) s _)
  case writeCalibration => exact next rfl (.queued (fun t => .writeCalibration ..) s _)
  case holdRoom => exact next rfl (.queuedTouching (fun t => .holdRoomNow ..) s _ _)
  case releaseHold => exact next rfl (.queuedTouching (fun t => .releaseHoldNow ..) s _ _)
  case endOccurrence => exact .endOccurrence s hx
  case extendOccurrence => exact next rfl (.queuedEither (fun t a => .extendNow t) s _)
  case setOpenRange => exact .setOpenRange s hx
  case readRoomStatus => exact next rfl (.queued (fun t => .readStatus ..) s _)
  case setCapacity => exact next rfl (.queued (fun t => .setCapacity ..) s _)
  case requestAllocation => exact next rfl (.queued (fun t => .requestAllocation ..) s _)
  case sceneWindow => exact next rfl (.queued (fun t => .sceneWindow ..) s _)
  case sceneWriteStart =>
    exact next rfl (.queuedEffect (fun t => .whereCounted t ((KeepsScenes.rewindWindow t).trans (.sceneWrite ..))) s _)
  case sceneWriteContinue => exact next rfl (.queuedEffect (fun t => .whereCounted t (.sceneWrite ..)) s _)
  case sceneReadStart =>
    exact next rfl (.queued (fun t => .whereCounted t ((KeepsScenes.rewindWindow t).trans (.sceneRead ..))) s _)
  case sceneReadContinue => exact next rfl (.queued (fun t => .whereCounted t (.sceneRead ..)) s _)
  case setEconomy => exact next rfl (.queuedEffect (fun t => .setEconomy ..) s _)
  case setFacade => exact next rfl (.queuedEffect (fun t => .setFacade ..) s _)
  case readmitStation => exact next rfl (.queued (fun t => .readmitStation ..) s _)
  case readStation => exact next rfl (.queued (fun t => .readStation ..) s _)
  case storeOperationComplete => exact next rfl (.completeOp s)
  case retirementPass | agendaBuild | termEndStep | noteServed | extensionRequestServed =>
    exact next rfl (.completeIf ..)
  case secondEvent => exact next rfl (.secondEvent s)
  case minuteEvent => exact next rfl (.minuteEvent s)
  case rolloverEvent => exact next rfl (.rolloverEvent s)
  case termEnd => exact next rfl (.termEnd s)
  case noShowExpiry => exact next rfl (.noShowExpiry ..)
  case confirmRequest | endNowRequest => exact next rfl (.requestTaken ..)
  case sensedAbsenceExpiry => exact next rfl (.absenceEvent ..)
  case quietTimerExpiry => exact next rfl (.quietEvent ..)
  case settleTimerExpiry => exact next rfl (.settleEvent ..)
  case holdExpiry => exact next rfl (.holdEvent ..)
  case hostSilenceExpiry => exact next rfl (.silenceExpiry s)
  case periodTimerMatch => exact next rfl (.periodEvent ..)
  case allocationPassComplete => exact next rfl (.passEvent ..)
  case roundStart => exact next rfl (.startRound s)
  case stationVisit => exact next rfl (.visit s)
  case noReply => exact next rfl (.noReply s)
  case reportReceived => exact next rfl (.replyReceived ..)
  case blindTravelComplete => exact next rfl (.travelEvent ..)
  case blindPauseEnd => exact next rfl (.pauseEvent ..)

/-- Settles O53: a step runs a command or lets a cycle pass, and either keeps the table and the window in range. -/
theorem scenesKept : Obligations.ScenesKept := by
  intro s t h hx
  unfold step at hx
  split at hx
  · rename_i c rest _
    exact (KeepsScenes.of_exec (s := { s with pending := rest }) c hx).ok h
  · cases hx
    exact (KeepsScenes.tick s).ok h

end Sys2Proof.Machine
end

section
/-! PROOFS. SET_ECONOMY and SET_FACADE, the lighting levels by effective state, and the blind targets line by line
(R154 to R159, R161). -/
namespace Sys2Proof.Machine

/-! ## SET_ECONOMY and SET_FACADE -/

section Commands
variable {s : State} (hs : s.slotOpen = true)
include hs

theorem exec_setEconomy_refused (cap : Nat) :
    exec (.setEconomy none cap) s = .next (s.answered (.setEconomy none cap) .range .none) :=
  congrArg Host.Outcome.next (queuedEffect_refused hs rfl rfl)

theorem becomes_setEconomy (e : Switch) (cap : Nat) :
    Becomes (.setEconomy (some e) cap) s
      (({ s with economy := e, cap := clampNat 100 1000 cap } : State).answered (.setEconomy (some e) cap)
        (okStatus (clampNat 100 1000 cap ≠ cap)) (.economy e (clampNat 100 1000 cap))) :=
  becomes_queuedEffect hs rfl rfl (okStatus_accepted _)

theorem exec_setFacade_refused {n : Nat} {seen : Option Sun} {season : Option Season} {retract : Option Switch}
    (out : asIndex 6 n = none ∨ seen = none ∨ season = none ∨ retract = none) :
    exec (.setFacade n seen season retract) s =
      .next (s.answered (.setFacade n seen season retract) .range .none) := by
  refine congrArg Host.Outcome.next (queuedEffect_refused hs ?_ rfl)
  unfold State.setFacade
  split
  · rename_i index
    simp [index] at out
  · rfl

theorem becomes_setFacade {n : Nat} {k : FacadeId} (h : asIndex 6 n = some k) (f : Facade) :
    Becomes (.setFacade n (some f.sun) (some f.season) (some f.retract)) s
      (({ s with facades := s.facades.set k f } : State).answered
        (.setFacade n (some f.sun) (some f.season) (some f.retract)) .ok (.facade k f)) := by
  refine becomes_queuedEffect hs rfl ?_ rfl
  simp only [State.setFacade, h]
  rfl

end Commands

/-! ## Lighting levels -/

section Levels
variable {s : State} {r : RoomId}

theorem litState_of_effective (h : s.effective r ≠ .safe) : s.litState r = s.effective r := by
  unfold State.litState
  split
  · contradiction
  · rfl

theorem govProfile_of_ungoverned (h : s.govHandle r = none) : s.govProfile r = s.profiles.get 0 := by
  unfold State.govHandle at h
  rw [State.govProfile, State.govEntry, State.ownEntry, h]
  rfl

/-- The level sent for one channel of a room in effective state `e`, after all four steps (R154 to R157). -/
def State.sentLevel (s : State) (r : RoomId) (e : Effective) (scene : SceneId) (ch : ChannelId) : Nat :=
  capped s.economy s.cap
    (trimmed (s.sceneLevel e scene ch) (s.dimmed r (s.sceneLevel e scene ch) ch) (s.room r).ctx.trim)

/-- No channel at or above a room's count is lit (R154). -/
theorem formLight_beyond {ch : ChannelId} (h : (s.room r).cfg.channels ≤ ch.val) :
    (s.formLight r).levels.get ch = 0 := by
  unfold State.formLight; dsimp only
  split
  · exact Table.get_fill ..
  · split
    · simp [Nat.not_lt.2 h]
    · exact Table.get_fill ..
  · simp [Nat.not_lt.2 h]

/-- The record of a room that is not held: its scene, the profile's fade, and the levels after all steps (R154). -/
structure ShowsScene (s : State) (r : RoomId) (e : Effective) (sc : SceneId) : Prop where
  scene : (s.formLight r).scene = some sc
  fade : (s.formLight r).fade = (s.govProfile r).fade
  levels : ∀ ch, ch.val < (s.room r).cfg.channels → (s.formLight r).levels.get ch = s.sentLevel r e sc ch

theorem showsScene_service {svc : Service} {scene : SceneId} (h : s.effective r = .service svc)
    (chosen : serviceScene svc (s.govProfile r) = some scene) : ShowsScene s r (.service svc) scene := by
  have lit : s.litState r = .service svc := (litState_of_effective (by simp [h])).trans h
  cases svc
  case unconfigured => cases chosen
  all_goals
    cases chosen
    constructor
    · simp only [State.formLight, lit]; rfl
    · simp only [State.formLight, lit]
    · intro ch below
      simp only [State.formLight, lit, Table.get_ofFn, decide_eq_true below]; rfl

theorem showsScene_closed (h : s.effective r = .closed) : ShowsScene s r .closed 0 := by
  have lit : s.litState r = .closed := (litState_of_effective (by simp [h])).trans h
  constructor
  · simp only [State.formLight, lit]
  · simp only [State.formLight, lit]
  · intro ch below
    simp only [State.formLight, lit, Table.get_ofFn, decide_eq_true below]; rfl

theorem formLight_hold {x : Hold} (h : s.effective r = .hold) (hold : (s.room r).ctx.hold = some x) :
    (s.formLight r).scene = some x.scene ∧ (s.formLight r).fade = 0 ∧ ∀ ch, ch.val < (s.room r).cfg.channels →
      (s.formLight r).levels.get ch = capped s.economy s.cap (s.cell x.scene ch) := by
  have lit : s.litState r = .hold := (litState_of_effective (by simp [h])).trans h
  refine ⟨?_, ?_, fun ch below => ?_⟩
  · simp only [State.formLight, lit, hold]
  · simp only [State.formLight, lit, hold]
  · simp only [State.formLight, lit, hold, Table.get_ofFn, decide_eq_true below]; rfl

theorem formLight_unconfigured (h : s.effective r = .service .unconfigured) : s.formLight r = .dark := by
  have lit : s.litState r = .service .unconfigured := (litState_of_effective (by simp [h])).trans h
  simp only [State.formLight, lit]

/-- Only a VACATED room's scene levels are halved (R154). -/
theorem sceneLevel_of_not_vacated {e : Effective} (h : e ≠ .service .vacated) (scene : SceneId) (ch : ChannelId) :
    s.sceneLevel e scene ch = s.cell scene ch := if_neg h

/-- A channel whose scene level is 0 is sent 0 by every step (R156). -/
theorem sentLevel_dark {e : Effective} {scene : SceneId} {ch : ChannelId} (h : s.sceneLevel e scene ch = 0) :
    s.sentLevel r e scene ch = 0 := by
  simp [State.sentLevel, h, trimmed, capped]

/-- A scene whose levels are all 0 leaves every channel dark, lit or not (R154). -/
theorem ShowsScene.dark {e : Effective} {scene : SceneId} (h : ShowsScene s r e scene)
    (dark : ∀ ch, s.sceneLevel e scene ch = 0) (ch : ChannelId) : (s.formLight r).levels.get ch = 0 := by
  obtain below | beyond := Nat.lt_or_ge ch.val (s.room r).cfg.channels
  · rw [h.levels ch below]; exact sentLevel_dark (dark ch)
  · exact formLight_beyond beyond

theorem dimmed_eq (l : Nat) (ch : ChannelId) : s.dimmed r l ch =
    let lux := (s.room r).oce.lux.value.toNat
    let p := s.govProfile r
    let rest := if lux < p.luxTarget then l * (p.luxTarget - lux) / p.luxTarget else 0
    if (s.room r).cfg.daylight.get ch = true ∧ (s.room r).oce.lux.valid = true then min l (max rest p.minDim)
    else l := by
  simp only [State.dimmed, dim, Bool.and_eq_true, Nat.max_comm]

end Levels

/-! ## Blind targets -/

section Targets
variable {s : State} {r : RoomId} {b : BlindId}

theorem chooseTarget_retracted (h : (s.facades.get ((s.room r).cfg.facades.get b)).retract = .on) :
    s.chooseTarget r b = some 0 := if_pos h

section Lines
variable (out : (s.facades.get ((s.room r).cfg.facades.get b)).retract = .off)
include out

theorem chooseTarget_hold {x : Hold} (h : s.effective r = .hold) (hold : (s.room r).ctx.hold = some x) :
    s.chooseTarget r b = some (x.blinds.get b * 10) := by
  simp [State.chooseTarget, out, h, hold]

theorem chooseTarget_none (h : s.effective r = .safe ∨ s.effective r = .service .unconfigured) :
    s.chooseTarget r b = none := by
  obtain h | h := h <;> simp [State.chooseTarget, out, h, Service.occupiedClass]

/-! In an occupied-class state the panel's override goes before the policy (R161). -/

section Used
variable {svc : Service} (h : s.effective r = .service svc) (used : svc.occupiedClass = true)
include h used

theorem chooseTarget_up (up : (s.room r).ctx.overrides.get b = .up) : s.chooseTarget r b = some 0 := by
  simp [State.chooseTarget, out, h, used, up]

theorem chooseTarget_down (down : (s.room r).ctx.overrides.get b = .down) : s.chooseTarget r b = some 1000 := by
  simp [State.chooseTarget, out, h, used, down]

theorem chooseTarget_kept (kept : (s.room r).ctx.overrides.get b = .none) : s.chooseTarget r b =
    some (policyTarget (s.govProfile r) (s.facades.get ((s.room r).cfg.facades.get b)).sun) := by
  simp [State.chooseTarget, out, h, used, kept]

end Used

theorem chooseTarget_precondition (h : s.effective r = .service .precondition) :
    s.chooseTarget r b =
      some (policyTarget (s.govProfile r) (s.facades.get ((s.room r).cfg.facades.get b)).sun) := by
  simp [State.chooseTarget, out, h, Service.occupiedClass]

theorem chooseTarget_empty (h : s.effective r = .service .setback ∨ s.effective r = .closed) :
    s.chooseTarget r b = setbackTarget (s.facades.get ((s.room r).cfg.facades.get b)) := by
  obtain h | h := h <;> simp [State.chooseTarget, out, h, Service.occupiedClass]

end Lines

theorem policyTarget_position {p : Profile} (h : p.policy = .projection ∨ p.policy = .fixed) (seen : Sun) :
    policyTarget p seen = p.blindPos := by
  obtain h | h := h <;> simp only [policyTarget, h]

theorem policyTarget_daylight {p : Profile} (h : p.policy = .daylight) (seen : Sun) :
    policyTarget p seen = if seen = .glare then p.glarePos else 0 := by
  simp only [policyTarget, h]

theorem setbackTarget_lit {f : Facade} (h : f.sun ≠ .none) :
    setbackTarget f = some (if f.season = .cooling then 1000 else 0) := by
  cases sun : f.sun <;> cases season : f.season <;> simp_all [setbackTarget]

theorem setbackTarget_unlit {f : Facade} (h : f.sun = .none) : setbackTarget f = none := by
  simp [setbackTarget, h]

end Targets

/-- Settles O47: the commands by what each stores, the levels by the scene of each effective state and what its steps
make of it, the targets line by line. -/
theorem economyAndFacadeSet : Obligations.EconomyAndFacadeSet := by
  refine ⟨fun s hs => ⟨exec_setEconomy_refused hs, becomes_setEconomy hs, fun n seen season retract =>
    exec_setFacade_refused hs, fun n k seen season retract h => becomes_setFacade hs h ⟨seen, season, retract⟩⟩,
    fun s r => ?_, fun s r b => ?_⟩
  · intro x p out sent lit
    have shown {e : Effective} {scene : SceneId} {level : ChannelId → Nat} (h : ShowsScene s r e scene)
        (levels : ∀ ch, s.sceneLevel e scene ch = level ch) : lit scene level := by
      refine ⟨h.scene, h.fade, fun ch below => (h.levels ch below).trans ?_⟩
      rw [State.sentLevel, levels, dimmed_eq]
      rfl
    have dark {e : Effective} (h : ShowsScene s r e 0) (e_lit : e ≠ .service .vacated) : out.scene = some 0 ∧
        out.fade = p.fade ∧ ((∀ ch, s.cell 0 ch = 0) → ∀ ch, out.levels.get ch = 0) :=
      ⟨h.scene, h.fade, fun zero => h.dark fun ch => (sceneLevel_of_not_vacated e_lit ..).trans (zero ch)⟩
    refine ⟨govProfile_of_ungoverned, fun ch => formLight_beyond, fun h => ?_, fun h => ?_, fun h => ?_, fun h => ?_,
      fun h => ?_, fun h => ?_, fun h e hold => formLight_hold e hold, fun h => ?_⟩
    · exact shown (showsScene_service h rfl) fun ch => sceneLevel_of_not_vacated (by simp) ..
    · exact shown (showsScene_service h rfl) fun ch => sceneLevel_of_not_vacated (by simp) ..
    · obtain h | h := h <;>
        exact shown (showsScene_service h rfl) fun ch => sceneLevel_of_not_vacated (by simp) ..
    · exact shown (showsScene_service h rfl) fun ch => if_pos rfl
    · exact shown (showsScene_service h rfl) fun ch => sceneLevel_of_not_vacated (by simp) ..
    · obtain h | h := h
      · exact dark (showsScene_service h rfl) (by simp)
      · exact dark (showsScene_closed h) (by simp)
    · have off : out = .dark := formLight_unconfigured h
      rw [off]
      exact ⟨rfl, fun ch => Table.get_fill ..⟩
  · intro x f p target used kept policed empty
    have by_policy (out : f.retract = .off) (h : policed) : target = some (policyTarget p f.sun) := by
      obtain ⟨⟨svc, h, occupied⟩, kept⟩ | h := h
      · exact chooseTarget_kept out h occupied kept
      · exact chooseTarget_precondition out h
    refine ⟨chooseTarget_retracted, fun out => ⟨fun h e hold => chooseTarget_hold out e hold, chooseTarget_none out,
      fun ⟨_, h, occupied⟩ => chooseTarget_up out h occupied, fun ⟨_, h, occupied⟩ => chooseTarget_down out h occupied,
      fun h policy => ?_, fun h policy => ?_,
      fun h seen => ?_, fun h unseen => ?_⟩⟩
    · rw [by_policy out h, policyTarget_position policy]
    · rw [by_policy out h, policyTarget_daylight policy]
    · exact (chooseTarget_empty out h).trans (setbackTarget_lit seen)
    · exact (chooseTarget_empty out h).trans (setbackTarget_unlit unseen)

end Sys2Proof.Machine
end

section
/-! PROOFS. The rules of the blind travel model: tokens, planning, new targets and the modelled position (R162 to R164,
R166 to R168). -/
namespace Sys2Proof.Machine

/-! ## Tokens -/

/-- Two tokens sent and one held leave one of the four free, and the lowest such is taken (R163). -/
theorem freeToken_lowest (unit : Token) {sent : List Token} (few : sent.length ≤ 2) :
    freeToken unit sent ≠ unit ∧ freeToken unit sent ∉ sent ∧ ∀ k, k < freeToken unit sent → k = unit ∨ k ∈ sent := by
  have all : [(0 : Token), 1, 2, 3] = List.finRange 4 := rfl
  unfold freeToken
  rw [all]
  cases found : (List.finRange 4).find? fun t => t != unit && !sent.contains t with
  | none =>
    have held (t : Token) : t ∈ (unit :: sent).toFinset := by
      have taken := List.find?_eq_none.1 found t (List.mem_finRange t)
      by_cases own : t = unit <;> simp_all
    have four : (Finset.univ : Finset Token).card ≤ (unit :: sent).length :=
      (Finset.card_le_card fun t _ => held t).trans (List.toFinset_card_le _)
    rw [Finset.card_univ, Fintype.card_fin, List.length_cons] at four
    omega
  | some t =>
    obtain ⟨free, before, after, split, taken⟩ := List.find?_eq_some_iff_append.1 found
    obtain ⟨own, unsent⟩ : t ≠ unit ∧ t ∉ sent := by simpa using free
    refine ⟨own, unsent, fun k below => ?_⟩
    have ordered := List.pairwise_lt_finRange 4
    have listed := List.mem_finRange k
    rw [split] at ordered listed
    obtain ⟨-, tail, -⟩ := List.pairwise_append.1 ordered
    obtain early | late := List.mem_append.1 listed
    · have busy := taken k early
      by_cases same : k = unit
      · exact .inl same
      · exact .inr (by simpa [same] using busy)
    · obtain rfl | late := List.mem_cons.1 late
      · exact absurd below (lt_irrefl _)
      · exact absurd ((List.pairwise_cons.1 tail).1 k late) (lt_asymm below)

/-! ## Planning -/

section Plan
variable {b : Blind} {full : Nat}

theorem plan_waits
    (h : b.motion ≠ .still ∨ b.cmd ≠ none ∨ b.unitToken = none ∨ b.target = none ∨ b.target = b.position) :
    b.plan full = b := by
  unfold Blind.plan
  split
  · split
    · split
      · simp_all
      · split
        · rfl
        · simp_all
    · rfl
  · rfl

/-- A move that is due from UNKNOWN is a first reference run (R164). -/
theorem plan_unknown {unit : Token} {target : Nat} (still : b.motion = .still) (idle : b.cmd = none)
    (known : b.unitToken = some unit) (aimed : b.target = some target) (lost : b.position = none) :
    b.plan full = b.firstReference unit full target := by
  simp [Blind.plan, still, idle, known, aimed, lost]

theorem plan_moves {unit : Token} {origin target : Nat} (still : b.motion = .still) (idle : b.cmd = none)
    (known : b.unitToken = some unit) (aimed : b.target = some target) (here : b.position = some origin)
    (away : origin ≠ target) : b.plan full = b.planFrom unit full origin target := by
  simp [Blind.plan, still, idle, known, aimed, here, away]

theorem distance_eq (a b : Nat) : distance a b = (b - a) + (a - b) := by
  unfold distance; split <;> omega

/-- Whether a planned move is a reference move (R164). -/
def Blind.refers (b : Blind) (target : Nat) : Bool := b.moves == 20 && (target == 0 || target == 1000)

/-- A planned move, reference or ordinary, is one command towards the target (R164). -/
theorem planFrom_eq (b : Blind) (unit : Token) (full origin target : Nat) :
    b.planFrom unit full origin target =
      { b with moves := if b.refers target then b.moves else min 20 (b.moves + 1) }.start unit
        (if target < origin then .up else .down)
        (if b.refers target then referenceRun full origin target else ordinaryRun full origin target) (some origin)
        (some target) (b.refers target) (if target < origin then .raising else .lowering) := by
  have refers : b.refers target = decide (b.moves = 20 ∧ (target = 0 ∨ target = 1000)) := by
    simp [Blind.refers, Bool.beq_eq_decide_eq]
  unfold Blind.planFrom; dsimp only
  split
  · rename_i h; rw [refers, decide_eq_true h]; rfl
  · rename_i h; rw [refers, decide_eq_false h]; rfl

/-- A command raises the blind exactly where its target lies above (R162, R164). -/
theorem motion_of_dir (up : Prop) [Decidable up] : (if up then Motion.raising else Motion.lowering) =
    if (if up then Dir.up else Dir.down) = .up then .raising else .lowering := by
  split <;> simp

end Plan

/-! ## New targets -/

section Targets
variable {b : Blind} {full target : Nat}

theorem newTarget_still (h : b.motion = .still) :
    b.newTarget full target = { b with target := some target }.plan full := by
  simp only [Blind.newTarget, h]

theorem newTarget_halting (h : b.motion = .stopping ∨ b.motion = .pausing) :
    b.newTarget full target = { b with pending := some target } := by
  obtain h | h := h <;> simp only [Blind.newTarget, h]

theorem newTarget_moving {c : BlindCmd} (h : b.motion = .raising ∨ b.motion = .lowering) (cmd : b.cmd = some c) :
    b.newTarget full target = if c.echoed then b.retarget full c target else { b with pending := some target } := by
  obtain h | h := h <;> simp only [Blind.newTarget, h, cmd]

/-- A new target for an echoed move from a known origin: it is the move's own, or lies ahead of it, or turns it (R166,
R167). -/
theorem newTarget_running {c : BlindCmd} {o d m : Nat} (h : b.motion = .raising ∨ b.motion = .lowering)
    (cmd : b.cmd = some c) (echoed : c.echoed = true) (origin : c.origin = some o) (dest : c.dest = some d)
    (here : b.modelled = some m) : b.newTarget full target =
      if target = d then { b with target := some target }
      else if beyond c.dir m target then
        { b with position := some m, target := some target }.planFrom (b.unitToken.getD 0) full m target
      else b.stopFor c target := by
  rw [newTarget_moving h cmd, if_pos echoed]
  simp only [Blind.retarget, origin, here, dest, Option.some.injEq, eq_comm]

theorem beyond_iff {dir : Dir} {m target : Nat} :
    beyond dir m target = true ↔ (dir = .up ∧ target < m) ∨ (dir = .down ∧ m < target) := by
  cases dir <;> simp [beyond]

/-- A target ahead of a move lies in the direction of the move (R166). -/
theorem dir_of_beyond {dir : Dir} {m target : Nat} (h : beyond dir m target = true) :
    (if target < m then Dir.up else Dir.down) = dir := by
  obtain ⟨rfl, above⟩ | ⟨rfl, below⟩ := beyond_iff.1 h
  · exact if_pos above
  · exact if_neg (lt_asymm below)

/-- A retract replaces an unechoed LOWERING command at once, whatever the target (R168; assumption 37). -/
theorem handTarget_retract {c : BlindCmd} (cmd : b.cmd = some c) (down : c.dir = .down) (unechoed : c.echoed = false)
    (t : Nat) : b.handTarget full true (some t) = b.stopFor c 0 := by
  simp [Blind.handTarget, Blind.unechoedLowering, cmd, down, unechoed]

end Targets

/-! ## The modelled position -/

section Modelled
variable {b : Blind}

theorem modelled_moving {c : BlindCmd} {o d : Nat} (h : b.motion = .raising ∨ b.motion = .lowering)
    (cmd : b.cmd = some c) (echoed : c.echoed = true) (origin : c.origin = some o) (dest : c.dest = some d) :
    b.modelled = some (along o d (b.timer.elapsed c.run) c.run) := by
  obtain h | h := h <;> simp only [Blind.modelled, h, cmd, echoed, origin, dest]

theorem modelled_stopping {m : StoppedMove} {o d : Nat} (h : b.motion = .stopping) (stopped : b.stopped = some m)
    (echoed : m.echoed = true) (origin : m.origin = some o) (dest : m.dest = some d) :
    b.modelled = some (along o d (b.timer.elapsed m.run) m.run) := by
  simp only [Blind.modelled, h, stopped, echoed, origin, dest]

theorem modelled_resting (h : b.motion = .still ∨ b.motion = .pausing) : b.modelled = b.position := by
  obtain h | h := h <;> simp only [Blind.modelled, h]

end Modelled

end Sys2Proof.Machine
end

section
/-! PROOFS. What the choosing and handing over of targets never does to a blind, what a report's echo does, and the ends
of travel and pause (R163, R165 to R168). -/
namespace Sys2Proof.Machine

/-! ## What planning and new targets leave -/

/-- No command is held that the room unit has echoed. -/
def Blind.unechoed (b : Blind) : Prop := ∀ c, b.cmd = some c → c.echoed = false

/-- What planning and new targets leave of a blind: pause and unit token. No pause begins; and while nothing runs that
has been echoed, the position stays and nothing echoed comes. -/
structure Steered (b n : Blind) : Prop where
  pause : n.pause = b.pause
  unitToken : n.unitToken = b.unitToken
  motion : b.motion ≠ .pausing → n.motion ≠ .pausing
  position : b.unechoed → n.position = b.position
  unechoed : b.unechoed → n.unechoed

theorem Steered.refl (b : Blind) : Steered b b := ⟨rfl, rfl, id, fun _ => rfl, id⟩

theorem Steered.trans {a b c : Blind} (x : Steered a b) (y : Steered b c) : Steered a c :=
  ⟨y.pause.trans x.pause, y.unitToken.trans x.unitToken, y.motion ∘ x.motion,
   fun h => (y.position (x.unechoed h)).trans (x.position h), y.unechoed ∘ x.unechoed⟩

section Steering
variable (b : Blind) (full : Nat)

theorem Steered.aimed (target pending : Option Nat) (moves : Nat) :
    Steered b { b with target := target, pending := pending, moves := moves } := ⟨rfl, rfl, id, fun _ => rfl, id⟩

theorem Steered.start (unit : Token) (dir : Dir) (run : Nat) (origin dest : Option Nat) (reference : Bool)
    {motion : Motion} (moving : motion ≠ .pausing) : Steered b (b.start unit dir run origin dest reference motion) :=
  ⟨rfl, rfl, fun _ => moving, fun _ => rfl, fun _ c h => by cases h; rfl⟩

theorem Steered.planFrom (unit : Token) (origin target : Nat) : Steered b (b.planFrom unit full origin target) := by
  rw [planFrom_eq]
  exact (Steered.aimed b b.target b.pending _).trans (.start _ _ _ _ _ _ _ (by split <;> simp))

theorem Steered.plan : Steered b (b.plan full) := by
  unfold Blind.plan
  repeat' split
  · exact (Steered.aimed b b.target _ b.moves).trans (.start _ _ _ _ _ _ _ (by simp))
  · exact .refl b
  · exact .planFrom ..
  · exact .refl b
  · exact .refl b

theorem Steered.stopFor (c : BlindCmd) (target : Nat) : Steered b (b.stopFor c target) :=
  ⟨rfl, rfl, fun _ => by simp [Blind.stopFor], fun _ => rfl, fun _ k h => by cases h; rfl⟩

/-- Only an echoed move may be sent on, and from where the model then has it (R166; assumption 41). -/
theorem Steered.retarget {k : BlindCmd} (cmd : b.cmd = some k) (echoed : k.echoed = true) (c : BlindCmd)
    (target : Nat) : Steered b (b.retarget full c target) := by
  unfold Blind.retarget
  split
  · rename_i m _ _
    split
    · exact .aimed ..
    · split
      · have sent := Steered.planFrom { b with position := some m, target := some target } full
          (b.unitToken.getD 0) m target
        have running : ¬ b.unechoed := fun h => by simp [h k cmd] at echoed
        exact ⟨sent.pause, sent.unitToken, sent.motion, fun h => absurd h running, fun h => absurd h running⟩
      · exact .stopFor ..
  · exact .aimed ..

theorem Steered.newTarget (target : Nat) : Steered b (b.newTarget full target) := by
  unfold Blind.newTarget
  split
  · exact (Steered.aimed b _ b.pending b.moves).trans (.plan _ full)
  · exact .aimed ..
  · exact .aimed ..
  · exact .aimed ..
  · rename_i c cmd _ _ _
    split
    · exact .retarget b full cmd ‹_› c target
    · exact .aimed ..

theorem Steered.handTarget (retracted : Bool) (target : Option Nat) :
    Steered b (b.handTarget full retracted target) := by
  unfold Blind.handTarget
  split
  · exact .plan ..
  · split
    · exact .stopFor ..
    · refine Steered.trans ?_ (.plan ..)
      split
      · exact .refl b
      · exact .newTarget ..

theorem Steered.takePending : Steered b (b.takePending full) := by
  unfold Blind.takePending
  split
  · exact (Steered.aimed b _ _ b.moves).trans (.plan _ full)
  · exact .refl b

/-- A completed command leaves the blind at its destination, with nothing echoed held (R165). -/
theorem complete_stands (c : BlindCmd) :
    (b.complete full c).position = c.dest ∧ (b.complete full c).unechoed ∧
      (b.complete full c).unitToken = b.unitToken := by
  have steered : Steered _ (b.complete full c) := .takePending _ full
  have idle : ∀ d, (none : Option BlindCmd) = some d → d.echoed = false := fun d h => by cases h
  exact ⟨steered.position idle, steered.unechoed idle, steered.unitToken⟩

end Steering

/-! ## A report's echo -/

section Echo
variable {b : Blind} {full remaining : Nat} {token : Token} {c : BlindCmd}

theorem echoToken_own (cmd : b.cmd = some c) (own : c.token = token) : b.echoToken token =
    { b with unitToken := some token, sent := [], cmd := some { c with echoed := true } } := by
  simp [Blind.echoToken, cmd, own]

theorem echoToken_other (cmd : b.cmd = some c) (other : c.token ≠ token) : b.echoToken token =
    { b with unitToken := some token, sent := (b.sent.dropWhile fun t => t != token).drop 1 } := by
  simp [Blind.echoToken, cmd, other]

theorem reported_none (idle : b.cmd = none) : b.reported full token remaining = (b.echoToken token).plan full := by
  simp only [Blind.reported, idle]

/-- The echo of a STOP ends the move it replaced once nothing remains to be run (R167). -/
theorem reported_stop (cmd : b.cmd = some c) (stop : c.dir = .stop) (own : c.token = token) :
    b.reported full token remaining = if remaining = 0 then (b.echoToken token).stopDone else b.echoToken token := by
  simp only [Blind.reported, cmd, stop, own, if_true]

/-- Before the echo of a STOP a report moves the travel timer at most (R167). -/
theorem reported_before_stop (cmd : b.cmd = some c) (stop : c.dir = .stop) (other : c.token ≠ token) :
    ∃ timer, b.reported full token remaining = { b.echoToken token with timer := timer } := by
  simp only [Blind.reported, cmd, stop, other, if_true, if_false]
  repeat' split
  all_goals exact ⟨_, rfl⟩

/-- While a STOP is not echoed a report may still echo the move it replaces (R167). -/
theorem reported_stopped_move {m : StoppedMove} (cmd : b.cmd = some c) (stop : c.dir = .stop) (other : c.token ≠ token)
    (stopped : b.stopped = some m) (echoed : m.echoed = true) (own : m.token = token) :
    b.reported full token remaining = { b.echoToken token with timer := rebased m.run remaining } := by
  have known : (b.echoToken token).stopped = some m := stopped
  simp [Blind.reported, cmd, stop, other, known, echoed, own]

theorem reported_other (cmd : b.cmd = some c) (move : c.dir ≠ .stop) (other : c.token ≠ token) :
    b.reported full token remaining = b.echoToken token := by
  simp only [Blind.reported, cmd, move, other, if_false]

theorem reported_done (cmd : b.cmd = some c) (move : c.dir ≠ .stop) (own : c.token = token) (done : remaining = 0) :
    b.reported full token remaining =
      { b.echoToken token with timer := rebased c.run remaining }.complete full c := by
  simp only [Blind.reported, cmd, move, own, done, if_true, if_false]

/-- An echo of a move re-bases the timer, and the first one may take up a target that waited for it (R165, R166). -/
theorem reported_running (cmd : b.cmd = some c) (move : c.dir ≠ .stop) (own : c.token = token) (runs : 0 < remaining) :
    b.reported full token remaining = { b.echoToken token with timer := rebased c.run remaining } ∨
      ∃ target, c.echoed = false ∧ b.pending = some target ∧ b.reported full token remaining =
        { b.echoToken token with timer := rebased c.run remaining, pending := none }.retarget full
          { c with echoed := true } target := by
  simp only [Blind.reported, cmd, move, own, runs.ne', if_true, if_false]
  split
  · rename_i fresh _ waits
    exact .inr ⟨_, fresh, waits, rfl⟩
  · exact .inl rfl

theorem reported_unitToken (b : Blind) (full : Nat) (token : Token) (remaining : Nat) :
    (b.reported full token remaining).unitToken = some token := by
  cases cmd : b.cmd with
  | none => rw [reported_none cmd]; exact (Steered.plan _ full).unitToken
  | some c =>
    by_cases stop : c.dir = .stop <;> by_cases own : c.token = token
    · rw [reported_stop cmd stop own]; split <;> rfl
    · obtain ⟨timer, moved⟩ := reported_before_stop (full := full) (remaining := remaining) cmd stop own
      rw [moved]; rfl
    · obtain done | runs := Nat.eq_zero_or_pos remaining
      · rw [reported_done cmd stop own done]
        obtain ⟨-, -, unitToken⟩ :=
          complete_stands { b.echoToken token with timer := rebased c.run remaining } full c
        exact unitToken
      · obtain rebased | ⟨target, -, -, taken⟩ := reported_running (full := full) cmd stop own runs
        · rw [rebased]; rfl
        · rw [taken, echoToken_own cmd own]
          exact (Steered.retarget _ full rfl rfl ..).unitToken
    · rw [reported_other cmd stop own]; rfl

/-- Where no target waits, or the move has been echoed before, an echo re-bases the timer alone (R165). -/
theorem reported_rebases (cmd : b.cmd = some c) (move : c.dir ≠ .stop) (own : c.token = token) (runs : 0 < remaining)
    (plain : c.echoed = true ∨ b.pending = none) : b.reported full token remaining =
      { b with cmd := some { c with echoed := true }, sent := [], unitToken := some token,
               timer := { base := c.run - remaining, cycles := 0 } } := by
  obtain rebased | ⟨target, fresh, waits, -⟩ := reported_running (full := full) cmd move own runs
  · rw [rebased, echoToken_own cmd own]; rfl
  · simp [fresh, waits] at plain

/-- The stopped blind rests where the model has it, UNKNOWN after a move that was never echoed (R167; assumption 36). -/
theorem reported_stopped {m : StoppedMove} (cmd : b.cmd = some c) (stop : c.dir = .stop) (own : c.token = token)
    (done : remaining = 0) (stopping : b.motion = .stopping) (stopped : b.stopped = some m) :
    b.reported full token remaining =
      { b.echoToken token with position := if m.echoed then b.modelled else none, cmd := none, stopped := none,
                               timer := .at 0, motion := .pausing, pause := some 0 } := by
  have here : (b.echoToken token).modelled = b.modelled := by
    have echoed : (b.echoToken token).stopped = some m := stopped
    have moving : (b.echoToken token).motion = .stopping := stopping
    simp only [Blind.modelled, echoed, moving, stopping, stopped]
    rfl
  have known : (b.echoToken token).stopped = some m := stopped
  rw [reported_stop cmd stop own, if_pos done, Blind.stopDone, here, known]

end Echo

/-! ## The ends of travel and pause -/

section Ends
variable {s : State} {r : RoomId} {b : BlindId}

/-- What follows the change of one blind steers that blind at most. -/
theorem steered_finish (s : State) (r : RoomId) (b : BlindId) (f : Blind → Blind) (before : State) :
    Steered (f ((s.room r).blinds.get b)) ((((s.modifyBlind r b f).finish before).room r).blinds.get b) := by
  have changed : ((s.modifyBlind r b f).room r).blinds.get b = f ((s.room r).blinds.get b) := by
    simp [State.modifyBlind]
  rw [room_finish_blind, changed]
  unfold State.aimBlind; dsimp only
  split
  · exact .handTarget ..
  · exact .refl _

theorem travelDue_of {x : Blind} {c : BlindCmd} (cmd : x.cmd = some c) (echoed : c.echoed = true) (move : c.dir ≠ .stop)
    (reached : c.run ≤ x.timer.elapsed c.run) : x.travelDue = true := by
  simp [Blind.travelDue, cmd, echoed, move, reached]

theorem pauseDue_of {x : Blind} {n : Nat} (pause : x.pause = some n) (reached : 19661 ≤ n) : x.pauseDue = true := by
  have cycles : pauseCycles = 19661 := by decide
  simp [Blind.pauseDue, pause, cycles, reached]

/-- A move that has reached its run completes, and the blind stands at its destination (R165). -/
theorem exec_blindTravelComplete {c : BlindCmd} (cmd : ((s.room r).blinds.get b).cmd = some c)
    (due : ((s.room r).blinds.get b).travelDue = true) :
    let f := fun x : Blind => x.travelComplete ((s.room r).cfg.travels.get b)
    let t := (s.modifyBlind r b f).finish s
    exec (.blindTravelComplete r b) s = .next t ∧ ((t.room r).blinds.get b).position = c.dest ∧
      ((t.room r).blinds.get b).unechoed := by
  intro f t
  have steered : Steered (f ((s.room r).blinds.get b)) ((t.room r).blinds.get b) := steered_finish s r b f s
  have done : f ((s.room r).blinds.get b) = ((s.room r).blinds.get b).complete ((s.room r).cfg.travels.get b) c := by
    simp only [f, Blind.travelComplete, cmd, due, if_true]
  rw [done] at steered
  obtain ⟨position, unechoed, -⟩ := complete_stands ((s.room r).blinds.get b) ((s.room r).cfg.travels.get b) c
  exact ⟨congrArg Host.Outcome.next (if_pos due), (steered.position unechoed).trans position, steered.unechoed unechoed⟩

/-- A pause that is over has ended, and none has begun (R167). -/
theorem exec_blindPauseEnd (due : ((s.room r).blinds.get b).pauseDue = true) :
    let f := fun x : Blind => x.pauseEnd ((s.room r).cfg.travels.get b)
    let t := (s.modifyBlind r b f).finish s
    exec (.blindPauseEnd r b) s = .next t ∧ ((t.room r).blinds.get b).pause = none ∧
      ((t.room r).blinds.get b).motion ≠ .pausing := by
  intro f t
  have steered : Steered { (s.room r).blinds.get b with pause := none, motion := .still }
      ((t.room r).blinds.get b) := by
    refine Steered.trans ?_ (steered_finish s r b f s)
    simp only [f, Blind.pauseEnd, due, if_true]
    exact .takePending ..
  exact ⟨congrArg Host.Outcome.next (if_pos due), steered.pause, steered.motion (by simp)⟩

end Ends

/-- Settles O48: the two events by what completes and ends, the rules by the case of the model that each names. -/
theorem blindMovesEnd : Obligations.BlindMovesEnd := by
  refine ⟨fun s r b => ?_, fun t run => rfl, fun unit sent => freeToken_lowest unit, fun b full => ?_,
    fun b full target => ?_, fun b full remaining token => ?_, fun b o d => ?_⟩
  · intro x full
    refine ⟨fun c cmd echoed move reached _ => ?_, fun n pause reached => ?_⟩
    · obtain ⟨hx, position, unechoed⟩ := exec_blindTravelComplete cmd (travelDue_of cmd echoed move reached)
      exact ⟨_, hx, .finish .., position, unechoed⟩
    · obtain ⟨hx, ended, moving⟩ := exec_blindPauseEnd (pauseDue_of pause reached)
      exact ⟨_, hx, .finish .., ended, moving⟩
  · intro p made
    refine ⟨plan_waits, fun unit target still idle known aimed => ⟨fun lost => ?_, fun origin here away => ?_⟩⟩
    · have planned : p = _ := plan_unknown still idle known aimed lost
      simp only [made, planned]
      exact ⟨⟨rfl, rfl, rfl, rfl, rfl, rfl⟩, rfl, rfl⟩
    · intro run reference
      have planned : p = _ := plan_moves still idle known aimed here away
      rw [planFrom_eq] at planned
      have ordinary : ordinaryRun full origin target = run := by
        rw [ordinaryRun, distance_eq]; rfl
      have refers : b.refers target = reference := rfl
      rw [refers, referenceRun, ordinary] at planned
      simp only [made, planned]
      exact ⟨⟨rfl, rfl, rfl, motion_of_dir _, rfl, rfl⟩, rfl, rfl⟩
  · intro n stops
    refine ⟨newTarget_still, newTarget_halting, fun moving c cmd => ⟨fun unechoed => ?_, ?_⟩,
      fun c cmd down unechoed => handTarget_retract cmd down unechoed target⟩
    · exact (newTarget_moving moving cmd).trans (if_neg (by simp [unechoed]))
    · intro o d m echoed origin dest here ahead
      have taken : n = _ := newTarget_running moving cmd echoed origin dest here
      refine ⟨fun same => taken.trans (if_pos same), fun away behind => ?_, fun away before => ?_⟩
      · exact taken.trans ((if_neg away).trans (if_neg (mt beyond_iff.1 behind)))
      · rw [if_neg away, if_pos (beyond_iff.2 before), planFrom_eq] at taken
        rw [taken]
        exact ⟨_, rfl, rfl, rfl, rfl, dir_of_beyond (beyond_iff.2 before), rfl, rfl, rfl⟩
  · intro n
    refine ⟨reported_unitToken .., fun c cmd => ⟨fun move own done => ?_,
      fun move own runs => reported_rebases cmd move own runs, fun move other => ?_,
      fun stop own done stopping m stopped => ?_, fun stop other m stopped echoed own => ?_⟩⟩
    · have done : n = _ := reported_done cmd move own done
      rw [done]
      obtain ⟨position, unechoed, -⟩ :=
        complete_stands { b.echoToken token with timer := rebased c.run remaining } full c
      exact ⟨position, unechoed⟩
    · have same : n = _ := (reported_other cmd move other).trans (echoToken_other cmd other)
      rw [same]
      exact ⟨rfl, rfl, rfl, rfl, rfl, rfl⟩
    · have rests : n = _ := reported_stopped cmd stop own done stopping stopped
      rw [rests]
      exact ⟨rfl, rfl, rfl, rfl, rfl, rfl⟩
    · have rebases : n = _ := reported_stopped_move cmd stop other stopped echoed own
      rw [rebases, echoToken_other cmd other]
      exact ⟨rfl, rfl⟩
  · exact ⟨fun c moving cmd echoed origin dest => modelled_moving moving cmd echoed origin dest,
      fun m stopping stopped echoed origin dest => modelled_stopping stopping stopped echoed origin dest,
      modelled_resting⟩

end Sys2Proof.Machine
end

section
/-! PROOFS. A failed exchange: what it counts in the loop log, and what it makes of the station and its room (R172,
R174, R181, R182, R183, R186). -/
namespace Sys2Proof.Machine

/-! ## The entering of SAFE -/

theorem SamePort.offerSafeChanged (s : State) : SamePort s (s.offerWork .safeChanged) := by
  unfold State.offerWork State.postWorkOnce
  split
  · split <;> exact .refl _
  · exact .mapAgendas ..

/-- What a room's entering SAFE leaves of the stations, the loop and the port, and that it sets the overlay of this room
alone (R85). -/
structure SafeEntered (s t : State) (r : RoomId) : Prop where
  loop : t.loop = s.loop
  port : t.port = s.port
  cfg : ∀ q, (t.room q).cfg = (s.room q).cfg
  station : ∀ q, (t.room q).station = (s.room q).station
  others : ∀ q, q ≠ r → (t.room q).ctx.safe = (s.room q).ctx.safe
  safe : (t.room r).ctx.safe = true

theorem safeEntered_enterSafe (s : State) (r : RoomId) : SafeEntered s (s.enterSafe r) r := by
  let u := s.modifyCtx r fun c => { c with safe := true }
  let v := (u.freezeRoom r).modifyRoom r fun x => { x with blinds := x.blinds.mapIdx fun _ b => b.lost }
  have frozen : RoomWork u (u.freezeRoom r) := .freezeRoom u r
  have offered : RoomWork v (s.enterSafe r) := .offerWork v .safeChanged
  have lost (q : RoomId) : (v.room q).cfg = ((u.freezeRoom r).room q).cfg ∧
      (v.room q).station = ((u.freezeRoom r).room q).station ∧
      (v.room q).ctx = ((u.freezeRoom r).room q).ctx := by
    simp only [v, room_modifyRoom]
    split
    · subst_vars; exact ⟨rfl, rfl, rfl⟩
    · exact ⟨rfl, rfl, rfl⟩
  have set (q : RoomId) : u.room q =
      if q = r then { s.room r with ctx := { (s.room r).ctx with safe := true } } else s.room q :=
    room_modifyRoom s r q fun x => { x with ctx := { x.ctx with safe := true } }
  have same (q : RoomId) : (u.room q).cfg = (s.room q).cfg ∧ (u.room q).station = (s.room q).station := by
    rw [set]
    split
    · subst_vars; exact ⟨rfl, rfl⟩
    · exact ⟨rfl, rfl⟩
  have safe (q : RoomId) : ((s.enterSafe r).room q).ctx.safe = (u.room q).ctx.safe := by
    obtain ⟨-, -, ctx⟩ := lost q
    rw [offered.safe, ctx, frozen.safe]
  refine ⟨offered.loop.trans frozen.loop, ?_, fun q => ?_, fun q => ?_, fun q other => ?_, ?_⟩
  · have sent : (s.enterSafe r).port = v.port := SamePort.offerSafeChanged v
    exact sent.trans (Quiet.freezeRoom u r).port
  · obtain ⟨cfg, -, -⟩ := lost q
    rw [offered.cfg, cfg, frozen.cfg, (same q).1]
  · obtain ⟨-, station, -⟩ := lost q
    rw [offered.station, station, frozen.station, (same q).2]
  · rw [safe, set, if_neg other]
  · rw [safe, set, if_pos rfl]

/-! ## The failure at the station -/

theorem slot_raiseIf (p : Port) (b : Bool) (c : Cause) : (p.raiseIf b c).slot = p.slot := by
  unfold Port.raiseIf; split <;> rfl

section Station
variable {s : State} {r : RoomId} {st : Station} {p : Port}

/-- The room's station takes a health count that leaves it on; the port hears of an entry into WARNING (R181). -/
theorem gradeStation_exchanged (was : StationState) (health : Nat) :
    (s.exchanged r st p).gradeStation r was health = s.exchanged r { st with health := health, state := gradeOf health }
      (p.raiseIf (gradeOf health = .warning ∧ was ≠ .warning) .stationWarning) := by
  unfold State.gradeStation Port.raiseIf
  dsimp only
  rw [modifyStation_exchanged]
  by_cases warned : gradeOf health = .warning ∧ was ≠ .warning
  · rw [if_pos warned, if_pos (decide_eq_true warned)]; rfl
  · rw [if_neg warned, if_neg fun raised => warned (of_decide_eq_true raised)]

theorem stationOff_exchanged : (s.exchanged r st p).stationOff r =
    (s.exchanged r { st with state := .off, health := 255, goodProbes := 0, readmit := !p.present }
      (p.raise .stationOff)).enterSafe r := by
  unfold State.stationOff
  rw [modifyStation_exchanged]
  rfl

end Station

/-! ## The failure as a whole -/

theorem logFailure_exchangeOver (s : State) :
    ({ s with loop := { s.loop with exchange := none } } : State).logFailure =
      { s.logFailure with loop := { s.logFailure.loop with exchange := none } } := by
  simp only [State.logFailure]
  split <;> rfl

/-- A failure in the loop log (R186). -/
theorem logFailure_log (s : State) :
    (s.loop.logCount < 255 → s.logFailure.loop.logCount = s.loop.logCount + 1 ∧
      s.logFailure.loop.logOverflow = s.loop.logOverflow) ∧
    (255 ≤ s.loop.logCount → s.logFailure.loop.logCount = s.loop.logCount ∧ s.logFailure.loop.logOverflow = true ∧
      s.logFailure.flagged .loopLogOverflow = true) := by
  refine ⟨fun few => ?_, fun full => ?_⟩
  · rw [State.logFailure, if_pos few]; exact ⟨rfl, rfl⟩
  · rw [State.logFailure, if_neg (Nat.not_lt_of_le full)]; exact ⟨rfl, rfl, getLsbD_raise ..⟩

theorem room_logFailure (s : State) (q : RoomId) : s.logFailure.room q = s.room q := by
  unfold State.logFailure; split <;> rfl

theorem portKept_logFailure (s : State) : PortKept s.port s.logFailure.port ∧ s.logFailure.port.slot = s.port.slot := by
  unfold State.logFailure; split
  · exact ⟨.refl _, rfl⟩
  · exact ⟨.raise .., rfl⟩

/-- A failure with no station record to move: the log alone counts it (R174). -/
theorem fail_orphan {s : State} {x : Exchange} (orphan : x.orphan = true) (code : Nat) : s.fail x code =
    { s.logFailure with loop := { s.logFailure.loop with exchange := none } } := by
  rw [State.fail, ← logFailure_exchangeOver]
  exact if_pos orphan

theorem fail_lost {s : State} {x : Exchange} (kept : x.orphan = false) (lost : (s.room x.room).station = none)
    (code : Nat) : s.fail x code = { s.logFailure with loop := { s.logFailure.loop with exchange := none } } := by
  have at_ : (({ s.logFailure with loop := { s.logFailure.loop with exchange := none } } : State).room
      x.room).station = none := by rw [← lost, ← room_logFailure s x.room]; rfl
  simp only [State.fail, kept, logFailure_exchangeOver, State.failedAt, at_]
  rfl

section Fail
variable {s : State} {x : Exchange} {st : Station} (kept : x.orphan = false)
  (station : (s.room x.room).station = some st) (code : Nat)
include kept station

/-- The failed exchange is over, its code is noted, and what the kind of exchange calls for follows. -/
theorem fail_noted : s.fail x code =
    let t := s.logFailure.exchanged x.room { st with lastError := code } s.logFailure.port
    match x.kind with
    | .setpoint => t.setpointFailed x.room st
    | .probe => t.modifyStation x.room fun y => { y with goodProbes := 0 } := by
  have at_ : (s.logFailure.room x.room).station = some st := by rw [room_logFailure, station]
  have ended : (({ s.logFailure with loop := { s.logFailure.loop with exchange := none } } : State).room
      x.room).station = some st := at_
  simp only [State.fail, kept, logFailure_exchangeOver, State.failedAt, ended, modifyStation_exchangeOver at_]
  rfl

theorem fail_graded (kind : x.kind = .setpoint) (on : st.health + 8 < 256) : s.fail x code =
    s.logFailure.exchanged x.room
      { st with lastError := code, health := st.health + 8, state := gradeOf (st.health + 8) }
      (s.logFailure.port.raiseIf (gradeOf (st.health + 8) = .warning ∧ st.state ≠ .warning) .stationWarning) := by
  rw [fail_noted kept station]
  simp only [kind, State.setpointFailed]
  rw [if_neg (Nat.not_le_of_lt on), gradeStation_exchanged]

theorem fail_off (kind : x.kind = .setpoint) (off : 256 ≤ st.health + 8) : s.fail x code =
    (s.logFailure.exchanged x.room
      { st with lastError := code, health := 255, state := .off, goodProbes := 0, readmit := !s.port.present }
      (s.logFailure.port.raise .stationOff)).enterSafe x.room := by
  rw [fail_noted kept station]
  simp only [kind, State.setpointFailed]
  rw [if_pos off, stationOff_exchanged, (portKept_logFailure s).1.present]

theorem fail_probe (kind : x.kind = .probe) : s.fail x code =
    s.logFailure.exchanged x.room { st with lastError := code, goodProbes := 0 } s.logFailure.port := by
  rw [fail_noted kept station]
  simp only [kind]
  rw [modifyStation_exchanged]

end Fail

/-- What every failure leaves as it was, and that it ends the exchange and counts in the log (R174, R186). -/
structure Failed (s t : State) (r : RoomId) : Prop where
  loop : t.loop = { s.logFailure.loop with exchange := none }
  slot : t.port.slot = s.port.slot
  flagged : ∀ k, s.logFailure.flagged k = true → t.flagged k = true
  cfg : ∀ q, (t.room q).cfg = (s.room q).cfg
  others : ∀ q, q ≠ r → (t.room q).station = (s.room q).station ∧ (t.room q).ctx.safe = (s.room q).ctx.safe

section Failed
variable {s t : State} {r : RoomId}

theorem Failed.logged (s : State) (r : RoomId) :
    Failed s { s.logFailure with loop := { s.logFailure.loop with exchange := none } } r := by
  have room (q : RoomId) : ({ s.logFailure with loop := { s.logFailure.loop with exchange := none } } : State).room q =
      s.room q := room_logFailure s q
  exact ⟨rfl, (portKept_logFailure s).2, fun _ h => h, fun q => by rw [room], fun q _ => by rw [room]; exact ⟨rfl, rfl⟩⟩

theorem Failed.exchanged {p : Port} (slot : p.slot = s.logFailure.port.slot)
    (flagged : ∀ k, s.logFailure.flagged k = true → p.flags.getLsbD k.index = true) (st : Station) :
    Failed s (s.logFailure.exchanged r st p) r := by
  refine ⟨rfl, slot.trans (portKept_logFailure s).2, flagged, fun q => ?_, fun q other => ?_⟩
  · rw [cfg_exchanged, room_logFailure]
  · rw [room_exchanged_other other, room_logFailure]; exact ⟨rfl, rfl⟩

theorem Failed.enterSafe (h : Failed s t r) : Failed s (t.enterSafe r) r := by
  have entered := safeEntered_enterSafe t r
  refine ⟨entered.loop.trans h.loop, (congrArg Port.slot entered.port).trans h.slot, fun k set => ?_,
    fun q => (entered.cfg q).trans (h.cfg q), fun q other => ?_⟩
  · rw [State.flagged, entered.port]; exact h.flagged k set
  · rw [entered.station, entered.others q other]; exact h.others q other

theorem Failed.finish (h : Failed s t r) (b : State) : Failed s (t.finish b) r := by
  have follows := Follows.finish t b
  refine ⟨follows.loop.trans h.loop, follows.slot.trans h.slot, fun k set => flagged_finish (h.flagged k set) b,
    fun q => (follows.rooms q).cfg.trans (h.cfg q), fun q other => ?_⟩
  rw [(follows.rooms q).station, (follows.rooms q).safe]
  exact h.others q other

theorem failed_fail (s : State) (x : Exchange) (code : Nat) : Failed s (s.fail x code) x.room := by
  have raised (k c : Cause) (set : s.logFailure.flagged k = true) :
      (s.logFailure.port.raise c).flags.getLsbD k.index = true := flagged_raise set c
  cases orphan : x.orphan with
  | true => rw [fail_orphan orphan]; exact .logged ..
  | false =>
    cases station : (s.room x.room).station with
    | none => rw [fail_lost orphan station]; exact .logged ..
    | some st =>
      cases kind : x.kind with
      | probe => rw [fail_probe orphan station code kind]; exact .exchanged (by rfl) (fun _ h => h) _
      | setpoint =>
        by_cases on : st.health + 8 < 256
        · rw [fail_graded orphan station code kind on]
          exact .exchanged (slot_raiseIf ..) (fun k set => getLsbD_raiseIf set ..) _
        · rw [fail_off orphan station code kind (Nat.le_of_not_lt on)]
          exact .enterSafe (.exchanged (by rfl) (fun k => raised k .stationOff) _)

end Failed

/-! ## The station of a failed exchange -/

section Outcome
variable {s : State} {x : Exchange} {st : Station} (kept : x.orphan = false)
  (station : (s.room x.room).station = some st) (code : Nat)
include kept station

theorem graded_fail (kind : x.kind = .setpoint) (on : st.health + 8 < 256) :
    ((s.fail x code).room x.room).station =
      some { st with lastError := code, health := st.health + 8, state := gradeOf (st.health + 8) } ∧
    ((s.fail x code).room x.room).ctx.safe = (s.room x.room).ctx.safe ∧
    (gradeOf (st.health + 8) = .warning → st.state ≠ .warning → (s.fail x code).flagged .stationWarning = true) := by
  rw [fail_graded kept station code kind on, room_exchanged_self, room_logFailure]
  refine ⟨rfl, rfl, fun warning new => ?_⟩
  have raised : (s.logFailure.port.raiseIf (gradeOf (st.health + 8) = .warning ∧ st.state ≠ .warning)
      .stationWarning) = s.logFailure.port.raise .stationWarning := if_pos (decide_eq_true ⟨warning, new⟩)
  rw [raised]
  exact getLsbD_raise ..

theorem off_fail (kind : x.kind = .setpoint) (off : 256 ≤ st.health + 8) :
    ((s.fail x code).room x.room).station =
      some { st with lastError := code, health := 255, state := .off, goodProbes := 0, readmit := !s.port.present } ∧
    ((s.fail x code).room x.room).ctx.safe = true ∧ (s.fail x code).flagged .stationOff = true := by
  rw [fail_off kept station code kind off]
  have entered := safeEntered_enterSafe (s.logFailure.exchanged x.room
    { st with lastError := code, health := 255, state := .off, goodProbes := 0, readmit := !s.port.present }
    (s.logFailure.port.raise .stationOff)) x.room
  refine ⟨?_, entered.safe, ?_⟩
  · rw [entered.station, room_exchanged_self]
  · rw [State.flagged, entered.port]; exact getLsbD_raise ..

theorem probe_fail (kind : x.kind = .probe) :
    ((s.fail x code).room x.room).station = some { st with lastError := code, goodProbes := 0 } ∧
      ((s.fail x code).room x.room).ctx.safe = (s.room x.room).ctx.safe := by
  rw [fail_probe kept station code kind, room_exchanged_self, room_logFailure]
  exact ⟨rfl, rfl⟩

end Outcome

/-- Both events of a failed exchange fail it with their code (R172). -/
theorem exec_fails {s : State} {x : Exchange} {c : Instr} {code : Nat} (exchange : s.loop.exchange = some x)
    (failure : (c = .noReply ∧ code = 1) ∨
      ∃ reply e, c = .reportReceived reply ∧ judge x.address reply = .error e ∧ code = e.code) :
    exec c s = .next ((s.fail x code).finish s) := by
  obtain ⟨rfl, rfl⟩ | ⟨reply, e, rfl, judged, rfl⟩ := failure
  · refine congrArg Host.Outcome.next ?_
    simp only [State.noReply, exchange]
    rfl
  · refine congrArg Host.Outcome.next ?_
    simp only [State.replyReceived, exchange, judged]

/-- Settles O51: the exchange fails by its kind and by the health that its station held, and nothing that follows undoes
it. -/
theorem exchangeFails : Obligations.ExchangeFails := by
  intro s x c code exchange failure
  have follows := Follows.finish (s.fail x code) s
  have failed := (failed_fail s x code).finish s
  obtain ⟨counted, full⟩ := logFailure_log s
  have room := follows.rooms x.room
  refine ⟨_, exec_fails exchange failure, follows, ?_, failed.slot, fun few => ?_, fun many => ?_, fun q apart => ?_,
    fun st kept station => ⟨fun kind on => ?_, fun kind off => ?_, fun kind => ?_⟩⟩
  · rw [failed.loop]
  · rw [failed.loop]; exact counted few
  · obtain ⟨count, overflow, flag⟩ := full many
    rw [failed.loop]
    exact ⟨count, overflow, failed.flagged _ flag⟩
  · obtain other | orphan := apart
    · exact failed.others q other
    · rw [(follows.rooms q).station, (follows.rooms q).safe, fail_orphan orphan]
      have same : ({ s.logFailure with loop := { s.logFailure.loop with exchange := none } } : State).room q =
        s.room q := room_logFailure s q
      rw [same]; exact ⟨rfl, rfl⟩
  · obtain ⟨graded, safe, warned⟩ := graded_fail kept station code kind on
    refine ⟨room.station.trans graded, room.safe.trans safe, fun low high new => flagged_finish (warned ?_ new) s⟩
    rw [gradeOf, if_neg (Nat.not_lt_of_le low), if_pos high]
  · obtain ⟨lost, safe, flag⟩ := off_fail kept station code kind off
    exact ⟨room.station.trans lost, room.safe.trans safe, flagged_finish flag s⟩
  · obtain ⟨probed, safe⟩ := probe_fail kept station code kind
    exact ⟨room.station.trans probed, room.safe.trans safe⟩

end Sys2Proof.Machine
end

section
/-! PROOFS. The commands of the Room Loop Controller, and which station a round visits next (R175 to R177, R184 to
R186). -/
namespace Sys2Proof.Machine

/-! ## READMIT_STATION, READ_STATION and READ_LOOP_LOG -/

section Commands
variable {s : State} {a : Nat}

theorem readmitStation_beyond (beyond : ¬ (1 ≤ a ∧ a ≤ 62)) : s.readmitStation a = s.refuse .range :=
  if_pos (by omega)

theorem readStation_beyond (beyond : ¬ (1 ≤ a ∧ a ≤ 62)) : s.readStation a = s.refuse .range :=
  if_pos (by omega)

theorem readmitStation_missing (first : 1 ≤ a) (last : a ≤ 62) (missing : s.stationAt a = none) :
    s.readmitStation a = s.refuse .notFound := by
  rw [State.readmitStation, if_neg (by omega), missing]

theorem readStation_missing (first : 1 ≤ a) (last : a ≤ 62) (missing : s.stationAt a = none) :
    s.readStation a = s.refuse .notFound := by
  rw [State.readStation, if_neg (by omega), missing]

/-- The station found for an address stands with its room and has that address (R175). -/
theorem station_of_stationAt {r : RoomId} {x : Station} (found : s.stationAt a = some (r, x)) :
    (s.room r).station = some x ∧ x.address = a := by
  obtain ⟨q, -, here⟩ := List.exists_of_findSome?_eq_some found
  split at here
  · rename_i y station
    split at here
    · rename_i address
      obtain ⟨rfl, rfl⟩ := Prod.mk.inj (Option.some.inj here)
      exact ⟨station, address⟩
    · cases here
  · cases here

section Found
variable {r : RoomId} {x : Station} (first : 1 ≤ a) (last : a ≤ 62) (found : s.stationAt a = some (r, x))
include first last found

theorem readmitStation_found : s.readmitStation a =
    (s.modifyRoom r fun y => { y with station := some (if x.state = .off then { x with readmit := true } else x) },
      .ok, .readmitted r x.state) := by
  obtain ⟨station, -⟩ := station_of_stationAt found
  rw [State.readmitStation, if_neg (by omega), found]
  exact congrArg (·, Status.ok, Result.readmitted r x.state) (modifyStation_of_some station Station.setReadmit)

theorem readStation_found : s.readStation a =
    (s.modifyRoom r fun y => { y with station := some { x with lastError := 7 } }, .ok,
      .station r x s.loop.roundCount) := by
  obtain ⟨station, -⟩ := station_of_stationAt found
  rw [State.readStation, if_neg (by omega), found]
  exact congrArg (·, Status.ok, Result.station r x s.loop.roundCount)
    (modifyStation_of_some station fun y => { y with lastError := 7 })

end Found
end Commands

/-- Settles O49: each command by its checks in order, in a part that has just heard the host. -/
theorem loopCommandsAnswered : Obligations.LoopCommandsAnswered := by
  intro s a taken
  have readmit {u : State} {e : Status} {x : Result} (h : s.hostHeard.readmitStation a = (u, e, x)) :
      exec (.readmitStation a) s = .next (u.respond (.readmitStation a) false e x) :=
    congrArg Host.Outcome.next (queued_of_slotOpen taken h)
  have read {u : State} {e : Status} {x : Result} (h : s.hostHeard.readStation a = (u, e, x)) :
      exec (.readStation a) s = .next (u.respond (.readStation a) false e x) :=
    congrArg Host.Outcome.next (queued_of_slotOpen taken h)
  refine ⟨fun beyond => ⟨readmit (readmitStation_beyond beyond), read (readStation_beyond beyond)⟩,
    fun first last missing => ⟨readmit (readmitStation_missing (s := s.hostHeard) first last missing),
      read (readStation_missing (s := s.hostHeard) first last missing)⟩,
    fun r x first last found => ?_, congrArg Host.Outcome.next (queued_of_slotOpen taken rfl)⟩
  obtain ⟨station, address⟩ := station_of_stationAt found
  exact ⟨station, address, readmit (readmitStation_found (s := s.hostHeard) first last found),
    read (readStation_found (s := s.hostHeard) first last found)⟩

/-! ## The next station of a round -/

/-- The stations that are due above the last address considered (R176, R177). -/
def State.dueStations (s : State) : List (RoomId × Station) :=
  allRooms.filterMap fun r =>
    match (s.room r).station with
    | some x => if s.loop.lastAddress < x.address && s.due r x then some (r, x) else none
    | none => none

theorem nextDue_eq (s : State) : s.nextDue = s.dueStations.foldl lowerStation none := rfl

theorem mem_dueStations {s : State} {r : RoomId} {x : Station} : (r, x) ∈ s.dueStations ↔
    (s.room r).station = some x ∧ s.loop.lastAddress < x.address ∧ s.due r x = true := by
  refine List.mem_filterMap.trans ⟨?_, fun ⟨station, above, due⟩ => ⟨r, List.mem_finRange r, ?_⟩⟩
  · rintro ⟨q, -, here⟩
    split at here
    · rename_i y station
      split at here
      · rename_i passes
        obtain ⟨rfl, rfl⟩ := Prod.mk.inj (Option.some.inj here)
        obtain ⟨above, due⟩ : s.loop.lastAddress < y.address ∧ s.due q y = true := by simpa using passes
        exact ⟨station, above, due⟩
      · cases here
    · cases here
  · simp [station, above, due]

theorem lowerStation_cases (a : Option (RoomId × Station)) (b : RoomId × Station) :
    ∃ p, lowerStation a b = some p ∧ (p = b ∨ a = some p) ∧ p.2.address ≤ b.2.address ∧
      ∀ q, a = some q → p.2.address ≤ q.2.address := by
  cases a with
  | none => exact ⟨b, rfl, .inl rfl, le_refl _, nofun⟩
  | some q =>
    by_cases lower : b.2.address < q.2.address
    · exact ⟨b, if_pos lower, .inl rfl, le_refl _, fun _ h => by cases h; exact Nat.le_of_lt lower⟩
    · exact ⟨q, if_neg lower, .inr rfl, Nat.le_of_not_lt lower, fun _ h => by cases h; exact le_refl _⟩

/-- The fold ends at a station of the list, or at the one it began with, and none of them has a lower address. -/
theorem foldl_lowerStation (l : List (RoomId × Station)) (a : Option (RoomId × Station)) :
    (∀ p, l.foldl lowerStation a = some p → (p ∈ l ∨ a = some p) ∧
      (∀ q ∈ l, p.2.address ≤ q.2.address) ∧ ∀ q, a = some q → p.2.address ≤ q.2.address) ∧
    (l.foldl lowerStation a = none → l = [] ∧ a = none) := by
  induction l generalizing a with
  | nil => exact ⟨fun p h => ⟨.inr h, nofun, fun q hq => by cases h.symm.trans hq; exact le_refl _⟩, fun h => ⟨rfl, h⟩⟩
  | cons b l ih =>
    obtain ⟨p, lower, origin, below, least⟩ := lowerStation_cases a b
    obtain ⟨found, exhausted⟩ := ih (lowerStation a b)
    refine ⟨fun r h => ?_, fun h => ?_⟩
    · obtain ⟨source, lowest, start⟩ := found r h
      have under := start p lower
      refine ⟨?_, fun q member => ?_, fun q hq => under.trans (least q hq)⟩
      · obtain member | began := source
        · exact .inl (List.mem_cons_of_mem b member)
        · cases lower.symm.trans began
          obtain rfl | began := origin
          · exact .inl List.mem_cons_self
          · exact .inr began
      · obtain rfl | member := List.mem_cons.1 member
        · exact under.trans below
        · exact lowest q member
    · obtain ⟨-, began⟩ := exhausted h
      cases lower.symm.trans began

/-- The station that a round visits next is due, and no due station above the last address has a lower one (R176). -/
theorem nextDue_some {s : State} {r : RoomId} {x : Station} (next : s.nextDue = some (r, x)) :
    (r, x) ∈ s.dueStations ∧ ∀ p ∈ s.dueStations, x.address ≤ p.2.address := by
  rw [nextDue_eq] at next
  obtain ⟨found, -⟩ := foldl_lowerStation s.dueStations none
  obtain ⟨member | began, lowest, -⟩ := found (r, x) next
  · exact ⟨member, lowest⟩
  · cases began

theorem nextDue_none {s : State} (next : s.nextDue = none) : s.dueStations = [] := by
  rw [nextDue_eq] at next
  obtain ⟨-, exhausted⟩ := foldl_lowerStation s.dueStations none
  exact (exhausted next).1

/-! ## Rounds -/

theorem startRound_due {s : State} (idle : s.loop.active = false)
    (due : s.loop.firstRound = true ∨ 16384 ≤ s.loop.roundTimer) : s.startRound =
      { s with loop := { s.loop with active := true, firstRound := false, roundTimer := 0, lastAddress := 0 } } :=
  if_pos (by obtain first | passed := due <;> simp [Loop.roundDue, roundCycles, *])

theorem startRound_active {s : State} (active : s.loop.active = true) : s.startRound = s :=
  if_neg (by simp [Loop.roundDue, active])

section Visit
variable {s : State} (active : s.loop.active = true) (silent : s.loop.exchange = none)
include active silent

theorem visit_next {r : RoomId} {x : Station} (next : s.nextDue = some (r, x)) : s.visit =
    { s with loop := { s.loop with lastAddress := x.address, exchange := some (s.exchangeFor r x) } } := by
  rw [State.visit, active, silent, next]
  rfl

theorem visit_last (next : s.nextDue = none) : s.visit =
    { s with loop := { s.loop with active := false, roundCount := (s.loop.roundCount + 1) % 65536 } } := by
  rw [State.visit, active, silent, next]
  rfl

end Visit

end Sys2Proof.Machine
end

section
/-! PROOFS. The frames of the Room Loop by position, and the rounds that send them (R171, R176 to R178, R203, R208). -/
namespace Sys2Proof.Machine

/-! ## Frames closed by their CRC -/

theorem frameOf_checked {bs : List Byte} {n : Nat} (length : bs.length = n) : (frameOf bs).length = n + 2 ∧
    (frameOf bs).drop n = bytes2 (crc ((frameOf bs).take n)).toNat := by
  subst length
  refine ⟨List.length_append, ?_⟩
  rw [frameOf, List.drop_left, List.take_left]

/-! ## The fields of a SETPOINT frame -/

theorem levels_list (t : Table 4 Nat) : t.list = [t.get 0, t.get 1, t.get 2, t.get 3] := by
  refine List.ext_getElem t.size fun k _ h => ?_
  match k, h with
  | 0, _ | 1, _ | 2, _ | 3, _ => rfl

theorem moveBytes_four (free : Nat → Byte) (c : Option BlindCmd) :
    ∃ a b d e, moveBytes free c = [a, b, d, e] := by
  cases c with
  | none => exact ⟨_, _, _, _, rfl⟩
  | some c => exact ⟨_, _, _, _, rfl⟩

theorem moveOf_command {x : Room} {b : BlindId} {c : BlindCmd} (below : b.val < x.cfg.blindCount)
    (cmd : (x.blinds.get b).cmd = some c) : x.moveOf b = some c := (if_pos below).trans cmd

theorem moveOf_none {x : Room} {b : BlindId} (absent : x.cfg.blindCount ≤ b.val ∨ (x.blinds.get b).cmd = none) :
    x.moveOf b = none := by
  unfold Room.moveOf
  split
  · rename_i below
    exact absent.resolve_left (Nat.not_le_of_lt below)
  · rfl

/-- The bytes of a SETPOINT frame up to its moves, one field after another (R208). -/
def State.setpointFields (s : State) (r : RoomId) (x : Station) : List Byte :=
  let light := (s.room r).light
  let band := (s.band r).getD s.setback
  [byte x.address, 0x21, 30, byte (s.indicator r)] ++ bytes2 (s.nextStart r) ++
    [byte (s.extendResult r).code, byteOr (x.lastEvent.map fun t => t.val)] ++ signed2 band.heat ++ signed2 band.cool ++
    bytes2 (s.room r).air.f ++ bytes2 (s.room r).air.grant ++ bytes2 (light.levels.get 0) ++
    bytes2 (light.levels.get 1) ++ bytes2 (light.levels.get 2) ++ bytes2 (light.levels.get 3) ++ [byte light.fade]

/-- The bytes of a SETPOINT frame for one blind group (R162, R203). -/
def State.moveField (s : State) (r : RoomId) (b : BlindId) : List Byte :=
  moveBytes (Config.idleMoveByte s.loop.roundCount r.val b.val) ((s.room r).moveOf b)

theorem setpointFrame_eq (s : State) (r : RoomId) (x : Station) :
    s.setpointFrame r x = frameOf (s.setpointFields r x ++ s.moveField r 0 ++ s.moveField r 1) := by
  rw [State.setpointFrame, State.setpointPayload, levels_list]
  rfl

/-- A frame has this field at this place. -/
def fieldAt (frame : List Byte) (k : Nat) (field : List Byte) : Prop := (frame.drop k).take field.length = field

theorem fieldAt_mid {before : List Byte} {k : Nat} (length : before.length = k) (field after : List Byte) :
    fieldAt (before ++ field ++ after) k field := by
  rw [fieldAt, List.append_assoc, List.drop_left' length, List.take_left]

section Fields
variable (s : State) (r : RoomId) (x : Station)

theorem length_moveField (b : BlindId) : (s.moveField r b).length = 4 := by
  obtain ⟨a, c, d, e, four⟩ := moveBytes_four (Config.idleMoveByte s.loop.roundCount r.val b.val) ((s.room r).moveOf b)
  rw [State.moveField, four]
  rfl

theorem length_setpointBytes : (s.setpointFields r x ++ s.moveField r 0 ++ s.moveField r 1).length = 33 := by
  rw [List.length_append, List.length_append, length_moveField, length_moveField]
  rfl

/-- The moves stand behind the other fields, four bytes each (R208). -/
theorem fieldAt_moveField (b : BlindId) : fieldAt (s.setpointFrame r x) (25 + 4 * b.val) (s.moveField r b) := by
  rw [setpointFrame_eq, frameOf]
  match b with
  | 0 =>
    rw [List.append_assoc]
    exact fieldAt_mid (before := s.setpointFields r x) rfl ..
  | 1 =>
    have first : (s.setpointFields r x ++ s.moveField r 0).length = 29 := by
      rw [List.length_append, length_moveField]; rfl
    exact fieldAt_mid first ..

/-- A field before the moves is read off the fields (R208). -/
theorem fieldAt_setpointFields {k : Nat} {field : List Byte} (here : fieldAt (s.setpointFields r x) k field)
    (within : k + field.length ≤ 25) : fieldAt (s.setpointFrame r x) k field := by
  have length : (s.setpointFields r x).length = 25 := rfl
  rw [fieldAt, setpointFrame_eq, frameOf, List.append_assoc, List.append_assoc,
    List.drop_append_of_le_length (by omega), List.take_append_of_le_length (by rw [List.length_drop]; omega)]
  exact here

end Fields

/-- The level of each channel stands in its own place (R208). -/
theorem fieldAt_level (s : State) (r : RoomId) (x : Station) (ch : ChannelId) :
    fieldAt (s.setpointFrame r x) (16 + 2 * ch.val) (bytes2 ((s.room r).light.levels.get ch)) := by
  refine fieldAt_setpointFields s r x ?_ (show 16 + 2 * ch.val + 2 ≤ 25 by omega)
  match ch with
  | 0 | 1 | 2 | 3 => rfl

theorem fieldAt_command {s : State} {r : RoomId} {b : BlindId} {c : BlindCmd} (x : Station)
    (below : b.val < (s.room r).cfg.blindCount) (cmd : ((s.room r).blinds.get b).cmd = some c) :
    fieldAt (s.setpointFrame r x) (25 + 4 * b.val) ([byte c.token.val, byte c.dir.code] ++ bytes2 c.run) := by
  have carried := fieldAt_moveField s r x b
  rw [State.moveField, moveOf_command below cmd] at carried
  exact carried

/-- Where a frame carries no move the token's byte is 0xFF (R203). -/
theorem fieldAt_no_command {s : State} {r : RoomId} {b : BlindId} (x : Station)
    (absent : (s.room r).cfg.blindCount ≤ b.val ∨ ((s.room r).blinds.get b).cmd = none) :
    fieldAt (s.setpointFrame r x) (25 + 4 * b.val) [0xFF] := by
  have carried := fieldAt_moveField s r x b
  rw [State.moveField, moveOf_none absent] at carried
  exact (List.take_take (i := 1) (j := 4)).symm.trans (congrArg (List.take 1) carried)

/-! ## Rounds and visits -/

/-- Settles O50: rounds by their conditions, the station visited as the lowest that is due, and each field of a frame at
its place. -/
theorem roundsAndVisits : Obligations.RoundsAndVisits := by
  refine ⟨fun s => ⟨fun idle due => ?_, fun active => ?_, fun active silent r x next => ?_,
    fun active silent next => ?_⟩, fun s r x => ?_⟩
  · exact congrArg Host.Outcome.next (startRound_due idle due)
  · exact congrArg Host.Outcome.next (startRound_active active)
  · obtain ⟨member, lowest⟩ := nextDue_some next
    obtain ⟨station, above, due⟩ := mem_dueStations.1 member
    exact ⟨station, above, due, fun q y has beyond isDue => lowest (q, y) (mem_dueStations.2 ⟨has, beyond, isDue⟩),
      congrArg Host.Outcome.next (visit_next active silent next)⟩
  · refine ⟨fun q y station above => ?_, congrArg Host.Outcome.next (visit_last active silent next)⟩
    by_contra due
    have member := mem_dueStations.2 ⟨station, above, Bool.not_eq_false _ ▸ due⟩
    rw [nextDue_none next] at member
    cases member
  · intro frame at_ two signed checked
    have early {k : Nat} {field : List Byte} (here : fieldAt (s.setpointFields r x) k field)
        (within : k + field.length ≤ 25 := by exact Nat.le_of_ble_eq_true rfl) : at_ k field :=
      fieldAt_setpointFields s r x here within
    refine ⟨?whole, frameOf_checked rfl, rfl, early rfl, early rfl, early rfl, early ?extension, early ?event,
      fun band held => ?band, early rfl, early rfl, fieldAt_level s r x, early rfl,
      fun b => ⟨fun c below cmd => ?command, fieldAt_no_command x⟩⟩
    case whole =>
      have whole := frameOf_checked (length_setpointBytes s r x)
      rw [← setpointFrame_eq] at whole
      exact whole
    case extension =>
      simp only [State.setpointFields]
      cases s.extendResult r <;> exact rfl
    case event =>
      simp only [State.setpointFields]
      cases x.lastEvent <;> exact rfl
    case band =>
      have shown : (s.band r).getD s.setback = band := by rw [held]; rfl
      subst shown
      exact ⟨early rfl, early rfl⟩
    case command =>
      have direction : byte c.dir.code = match c.dir with | .up => 0 | .down => 1 | .stop => 2 := by
        cases c.dir <;> rfl
      have carried := fieldAt_command x below cmd
      rw [direction] at carried
      exact carried

end Sys2Proof.Machine
end

section
/-! PROOFS. What keeps stations, SAFE overlays and the exchange in agreement: changes that none of them notices, and the
replacing of one room's station (R171, R174, R175, R181, R182). -/
namespace Sys2Proof.Machine

/-! ## The agreement, room by room -/

/-- A room has a station where it is enabled, with a health in range, and it is SAFE where that station is OFF. -/
def Room.stationOk (x : Room) : Prop :=
  x.station.isSome = x.cfg.enabled ∧
    (∀ st, x.station = some st → st.health ≤ 255 ∧ (x.ctx.safe = true ↔ st.state = .off)) ∧
    (x.station = none → x.ctx.safe = false)

theorem stationsOk_iff {s : State} : StationsOk s ↔ (∀ r, (s.room r).stationOk) ∧ ExchangeOk s :=
  ⟨fun ⟨enabled, health, lost, exchange⟩ => ⟨fun r => ⟨enabled r, health r, lost r⟩, exchange⟩,
   fun ⟨rooms, exchange⟩ => ⟨fun r => (rooms r).1, fun r => (rooms r).2.1, fun r => (rooms r).2.2, exchange⟩⟩

section Room
variable {x y : Room} {st : Station}

theorem stationOk_of_none (off : x.cfg.enabled = false) (lost : x.station = none) (sound : x.ctx.safe = false) :
    x.stationOk := ⟨by rw [lost, off]; rfl, fun _ h => (by cases lost.symm.trans h), fun _ => sound⟩

theorem stationOk_of_some (on : x.cfg.enabled = true) (has : x.station = some st) (health : st.health ≤ 255)
    (safe : x.ctx.safe = true ↔ st.state = .off) : x.stationOk :=
  ⟨by rw [has, on]; rfl, fun _ h => (by cases has.symm.trans h; exact ⟨health, safe⟩),
    fun h => (by cases has.symm.trans h)⟩

/-- A room with a station that has just joined (R4, R6, R175). -/
theorem stationOk_of_joining {address : Nat} (on : x.cfg.enabled = true) (has : x.station = some (.joining address))
    (sound : x.ctx.safe = false) : x.stationOk :=
  stationOk_of_some on has (Nat.zero_le _) (by rw [sound]; exact ⟨nofun, nofun⟩)

theorem Room.stationOk.enabled (h : x.stationOk) (has : x.station = some st) : x.cfg.enabled = true := by
  rw [← h.1, has]; rfl

theorem Room.stationOk.of_some (h : x.stationOk) (has : x.station = some st) :
    st.health ≤ 255 ∧ (x.ctx.safe = true ↔ st.state = .off) := h.2.1 st has

theorem Room.stationOk.of_disabled (h : x.stationOk) (off : x.cfg.enabled = false) :
    x.station = none ∧ x.ctx.safe = false := by
  have lost : x.station = none := by simpa [off] using h.1
  exact ⟨lost, h.2.2 lost⟩

/-- All that the agreement reads of a room. -/
def Room.stationFacts (x : Room) : Bool × Bool × Option (Nat × StationState × Nat) :=
  (x.cfg.enabled, x.ctx.safe, x.station.map fun y => (y.address, y.state, y.health))

theorem stationFacts_eq (cfg : y.cfg.enabled = x.cfg.enabled) (safe : y.ctx.safe = x.ctx.safe)
    (station : y.station = x.station) : y.stationFacts = x.stationFacts := by
  rw [Room.stationFacts, cfg, safe, station]; rfl

theorem station_of_facts (same : y.stationFacts = x.stationFacts) (has : x.station = some st) :
    ∃ z, y.station = some z ∧ z.address = st.address ∧ z.state = st.state ∧ z.health = st.health := by
  obtain ⟨-, facts⟩ := Prod.mk.inj (Prod.mk.inj same).2
  rw [has] at facts
  obtain ⟨z, hz, eq⟩ := Option.map_eq_some_iff.1 facts
  obtain ⟨address, state, health⟩ : z.address = st.address ∧ z.state = st.state ∧ z.health = st.health := by
    simpa using eq
  exact ⟨z, hz, address, state, health⟩

theorem Room.stationOk.of_facts (h : x.stationOk) (same : y.stationFacts = x.stationFacts) : y.stationOk := by
  obtain ⟨enabled, rest⟩ := Prod.mk.inj same
  obtain ⟨safe, station⟩ := Prod.mk.inj rest
  cases has : x.station with
  | none =>
    have lost : y.station = none := by simpa [has] using station
    have off : x.cfg.enabled = false := by rw [← h.1, has]; rfl
    exact stationOk_of_none (enabled.trans off) lost (safe.trans (h.of_disabled off).2)
  | some st =>
    obtain ⟨z, hz, -, state, health⟩ := station_of_facts same has
    obtain ⟨range, overlay⟩ := h.of_some has
    exact stationOk_of_some (enabled.trans (h.enabled has)) hz (by rw [health]; exact range)
      (by rw [safe, state]; exact overlay)

end Room

/-! ## Changes that the agreement does not notice -/

/-- All that the agreement reads of the part. -/
def State.stationMemory (s : State) : (RoomId → Bool × Bool × Option (Nat × StationState × Nat)) × Option Exchange :=
  (fun r => (s.room r).stationFacts, s.loop.exchange)

theorem stationMemory_eq {s t : State} (rooms : ∀ r, (t.room r).stationFacts = (s.room r).stationFacts)
    (loop : t.loop = s.loop) : t.stationMemory = s.stationMemory :=
  Prod.ext (funext rooms) (congrArg Loop.exchange loop)

theorem StationsOk.of_memory {s t : State} (h : StationsOk s) (same : t.stationMemory = s.stationMemory) :
    StationsOk t := by
  obtain ⟨rooms, exchange⟩ := stationsOk_iff.1 h
  obtain ⟨facts, loop⟩ := Prod.mk.inj same
  refine stationsOk_iff.2 ⟨fun r => (rooms r).of_facts (congrFun facts r), fun x running serving => ?_⟩
  obtain ⟨st, station, address, kind⟩ := exchange x (loop ▸ running) serving
  obtain ⟨z, hz, address', state, -⟩ := station_of_facts (congrFun facts x.room) station
  exact ⟨z, hz, address'.trans address, by rw [state]; exact kind⟩

/-- One room is replaced by another that agrees with its station; an exchange with it that goes on has lost the station
record it was begun with (R174). -/
theorem StationsOk.replaced {s t : State} {r : RoomId} (h : StationsOk s)
    (others : ∀ q, q ≠ r → (t.room q).stationFacts = (s.room q).stationFacts) (room : (t.room r).stationOk)
    (exchange : ∀ x, t.loop.exchange = some x → x.orphan = false → x.room ≠ r ∧ s.loop.exchange = some x) :
    StationsOk t := by
  obtain ⟨rooms, serves⟩ := stationsOk_iff.1 h
  refine stationsOk_iff.2 ⟨fun q => ?_, fun x running serving => ?_⟩
  · by_cases own : q = r
    · rw [own]; exact room
    · exact (rooms q).of_facts (others q own)
  · obtain ⟨other, same⟩ := exchange x running serving
    obtain ⟨st, station, address, kind⟩ := serves x same serving
    obtain ⟨z, hz, address', state, -⟩ := station_of_facts (others x.room other) station
    exact ⟨z, hz, address'.trans address, by rw [state]; exact kind⟩

/-- An exchange with a room that is not enabled has lost its station record (R174). -/
theorem StationsOk.exchange_elsewhere {s : State} {r : RoomId} (h : StationsOk s)
    (off : (s.room r).cfg.enabled = false) (x : Exchange) (running : s.loop.exchange = some x)
    (serving : x.orphan = false) : x.room ≠ r := by
  rintro rfl
  obtain ⟨rooms, serves⟩ := stationsOk_iff.1 h
  obtain ⟨st, station, -⟩ := serves x running serving
  cases station.symm.trans ((rooms x.room).of_disabled off).1

/-- What goes on of an exchange whose room loses its station record (R174). -/
theorem exchange_orphanExchange {s : State} {r : RoomId} {x : Exchange}
    (running : (s.orphanExchange r).loop.exchange = some x) (serving : x.orphan = false) :
    x.room ≠ r ∧ s.loop.exchange = some x := by
  obtain ⟨y, before, rfl⟩ := Option.map_eq_some_iff.1 running
  by_cases own : y.room = r
  · rw [if_pos own] at serving; cases serving
  · rw [if_neg own] at serving ⊢; exact ⟨own, before⟩

/-- Where stations, overlays and the exchange agree before, they do so after. -/
structure KeepsStations (s t : State) : Prop where
  ok : StationsOk s → StationsOk t

/-- A change that the agreement does not read. -/
theorem KeepsStations.elsewhere {s t : State} (same : t.stationMemory = s.stationMemory) : KeepsStations s t :=
  ⟨fun h => h.of_memory same⟩

theorem KeepsStations.refl (s : State) : KeepsStations s s := ⟨id⟩

theorem KeepsStations.trans {s t u : State} (a : KeepsStations s t) (b : KeepsStations t u) : KeepsStations s u :=
  ⟨b.ok ∘ a.ok⟩

/-- What keeps the agreement from one state on keeps it from any other of which the agreement reads the same. -/
theorem KeepsStations.since {s u t : State} (h : KeepsStations u t) (same : u.stationMemory = s.stationMemory) :
    KeepsStations s t := .trans (.elsewhere same) h

theorem KeepsStations.foldl {α : Type} {f : State → α → State} (h : ∀ s a, KeepsStations s (f s a)) (l : List α)
    (s : State) : KeepsStations s (l.foldl f s) := by
  induction l generalizing s with
  | nil => exact .refl s
  | cons a l ih => exact (h s a).trans (ih _)

theorem RoomWork.keepsStations {s t : State} (h : RoomWork s t) : KeepsStations s t :=
  .elsewhere (stationMemory_eq
    (fun r => stationFacts_eq (congrArg RoomRec.enabled (h.cfg r)) (h.safe r) (h.station r)) h.loop)

theorem Follows.keepsStations {s t : State} (h : Follows s t) : KeepsStations s t :=
  .elsewhere (stationMemory_eq
    (fun r => stationFacts_eq (congrArg RoomRec.enabled (h.rooms r).cfg) (h.rooms r).safe (h.rooms r).station) h.loop)

theorem KeepsStations.finish {s t : State} (h : KeepsStations s t) (b : State) : KeepsStations s (t.finish b) :=
  h.trans (Follows.finish t b).keepsStations

/-- A change of one room that the agreement does not read. -/
theorem KeepsStations.modifyRoom (s : State) (r : RoomId) {f : Room → Room}
    (h : ∀ x, (f x).stationFacts = x.stationFacts) : KeepsStations s (s.modifyRoom r f) := by
  refine .elsewhere (stationMemory_eq (fun q => ?_) rfl)
  rw [room_modifyRoom]
  split
  · subst_vars; exact h _
  · rfl

theorem KeepsStations.modifyOce (s : State) (r : RoomId) (f : Estimator → Estimator) :
    KeepsStations s (s.modifyOce r f) := .modifyRoom s r fun _ => rfl

theorem KeepsStations.modifyCtx (s : State) (r : RoomId) {f : Context → Context} (h : ∀ c, (f c).safe = c.safe) :
    KeepsStations s (s.modifyCtx r f) := .modifyRoom s r fun x => stationFacts_eq rfl (h x.ctx) rfl

theorem KeepsStations.modifyBlind (s : State) (r : RoomId) (b : BlindId) (f : Blind → Blind) :
    KeepsStations s (s.modifyBlind r b f) := .modifyRoom s r fun _ => rfl

theorem KeepsStations.mapRooms (s : State) {f : RoomId → Room → Room}
    (h : ∀ r x, (f r x).stationFacts = x.stationFacts) : KeepsStations s (s.mapRooms f) := by
  refine .elsewhere (stationMemory_eq (fun q => ?_) rfl)
  rw [room_mapRooms]
  exact h q _

/-- A change of a station record that moves neither address, state nor health. -/
theorem KeepsStations.modifyStation (s : State) (r : RoomId) {f : Station → Station}
    (h : ∀ x, (f x).address = x.address ∧ (f x).state = x.state ∧ (f x).health = x.health) :
    KeepsStations s (s.modifyStation r f) := by
  refine .modifyRoom s r fun x => ?_
  cases has : x.station with
  | none => simp [Room.stationFacts, has]
  | some st => simp [Room.stationFacts, has, h st]

/-! ## Room records -/

section Records
variable {s : State} {r : RoomId} {c : RoomRec}

theorem StationsOk.enableRoom (h : StationsOk s) (was : (s.room r).cfg.enabled = false) (on : c.enabled = true) :
    StationsOk (s.enableRoom r c) := by
  obtain ⟨cfg, -, safe, -, -, -, station⟩ := room_enableRoom s r c
  refine h.replaced (r := r) (fun q other => ?_) (stationOk_of_joining (by rw [cfg, on]) station safe)
    fun x running serving => ⟨h.exchange_elsewhere was x running serving, running⟩
  rw [State.enableRoom, room_modifyRoom_other _ _ other]

theorem StationsOk.disableRoom (h : StationsOk s) (off : c.enabled = false) : StationsOk (s.disableRoom r c) := by
  obtain ⟨cfg, -, safe, -, -, -, -, station⟩ := room_disableRoom s r c
  refine h.replaced (r := r) (fun q other => ?_) (stationOk_of_none (by rw [cfg, off]) station safe)
    fun x running serving => exchange_orphanExchange running serving
  have orphaned (t : State) : (t.orphanExchange r).room q = t.room q := rfl
  rw [State.disableRoom, orphaned, room_modifyRoom_other _ _ other]

/-- A room that leaves SAFE, seen from another. -/
theorem stationFacts_leaveSafe (s : State) {q : RoomId} (other : q ≠ r) :
    ((s.leaveSafe r).room q).stationFacts = (s.room q).stationFacts := by
  have work := RoomWork.leaveSafe s r
  have same : (s.modifyCtx r fun c => { c with safe := false }).room q = s.room q := room_modifyRoom_other _ _ other
  rw [← same]
  exact stationFacts_eq (congrArg RoomRec.enabled (work.cfg q)) (work.safe q) (work.station q)

/-- A new unit in an enabled room: its station joins, and the room is no longer SAFE (R6). -/
theorem StationsOk.readdress (h : StationsOk s) (on : (s.room r).cfg.enabled = true) (address : Nat) :
    StationsOk (s.readdress r address) := by
  obtain ⟨work, -⟩ := readdress_after s r address
  obtain ⟨cfg, -, -, sound⟩ := room_leaveSafe s r
  have room := room_replaceUnit s r address
  refine (work.keepsStations).ok (h.replaced (r := r) (fun q other => ?_) (stationOk_of_joining (address := address)
    (by rw [room, cfg, on]) (by rw [room]) (by rw [room]; exact sound)) fun x running serving => ?_)
  · have orphaned (t : State) : (t.orphanExchange r).room q = t.room q := rfl
    rw [State.replaceUnit, orphaned, room_modifyRoom_other _ _ other, stationFacts_leaveSafe s other]
  · obtain ⟨other, before⟩ := exchange_orphanExchange running serving
    exact ⟨other, before.symm.trans (congrArg Loop.exchange (RoomWork.leaveSafe s r).loop) ▸ rfl⟩

/-- A write to a room that stays enabled keeps its station, or has a new one join (R6 to R9). -/
theorem StationsOk.rewriteRoom (h : StationsOk s) (was : (s.room r).cfg.enabled = true) (on : c.enabled = true) :
    StationsOk (s.rewriteRoom r c) := by
  let u := s.modifyRoom r fun x => { x with cfg := c }
  have at_ : u.room r = { s.room r with cfg := c } := room_modifyRoom_self ..
  have written : StationsOk u := by
    refine h.of_memory (stationMemory_eq (fun q => ?_) rfl)
    by_cases own : q = r
    · rw [own, at_]; exact stationFacts_eq (on.trans was.symm) rfl rfl
    · rw [room_modifyRoom_other _ _ own]
  have recorded : StationsOk (s.recorded r c) := by
    unfold State.recorded; dsimp only; split
    · exact written
    · exact written.readdress (by rw [at_, on]) c.station
  have refitted (t : State) (off : Bool) : KeepsStations t (t.refitTally r off) := by
    obtain ⟨groups, same, -⟩ := refitTally_after t r off
    rw [same]
    exact (KeepsStations.modifyOce t r (refitted · (t.room r).cfg.tallyLimit off)).trans (.elsewhere (by rfl))
  have moved (t : State) (old new : Option AirId) : KeepsStations t (t.moveAirGroup r old new) := by
    have kept : KeepsStations t (t.modifyAir r fun a => { a with grant := 0 }) := .modifyRoom t r fun _ => rfl
    unfold State.moveAirGroup
    split
    · exact .refl t
    · cases old <;> cases new <;> exact kept.trans (.elsewhere (by rfl))
  have resized (t : State) (old new : Nat) : KeepsStations t (t.resizeBlinds r old new) := by
    unfold State.resizeBlinds
    exact .modifyRoom t r fun _ => rfl
  rw [rewriteRoom_eq]
  exact (((refitted ..).trans (moved ..)).trans (resized ..)).ok recorded

theorem StationsOk.applyRoom (h : StationsOk s) (r : RoomId) (c : RoomRec) : StationsOk (s.applyRoom r c) := by
  cases was : (s.room r).cfg.enabled <;> cases on : c.enabled
  · rw [applyRoom_stored was on]
    refine h.of_memory (stationMemory_eq (fun q => ?_) rfl)
    rw [room_modifyRoom]
    split
    · subst_vars; exact stationFacts_eq (on.trans was.symm) rfl rfl
    · rfl
  · rw [applyRoom_enabled was on]; exact h.enableRoom was on
  · rw [applyRoom_disabled was on]; exact h.disableRoom on
  · rw [applyRoom_rewritten was on]; exact h.rewriteRoom was on

end Records

/-! ## The exchange and its station -/

section Exchanges
variable {s : State} {x : Exchange}

/-- The exchange is over, and nothing else that the agreement reads has changed. -/
theorem StationsOk.exchangeOver {t : State} (h : StationsOk s)
    (rooms : ∀ r, (t.room r).stationFacts = (s.room r).stationFacts) (ended : t.loop.exchange = none) : StationsOk t :=
  stationsOk_iff.2 ⟨fun r => ((stationsOk_iff.1 h).1 r).of_facts (rooms r), fun x running => by
    cases ended.symm.trans running⟩

/-- A visit begins the exchange that the station's state calls for (R171, R178). -/
theorem StationsOk.visit (h : StationsOk s) : StationsOk s.visit := by
  unfold State.visit
  split
  · split
    · rename_i r st next
      obtain ⟨member, -⟩ := nextDue_some next
      obtain ⟨station, -, -⟩ := mem_dueStations.1 member
      refine stationsOk_iff.2 ⟨(stationsOk_iff.1 h).1, fun x running _ => ?_⟩
      cases running
      refine ⟨st, ?_⟩
      unfold State.exchangeFor
      split
      · rename_i off
        exact ⟨station, rfl, fun _ => rfl, fun _ => off⟩
      · rename_i on
        exact ⟨station, rfl, fun off => absurd off on, nofun⟩
    · exact h.of_memory rfl
  · exact h

/-- The station of an exchange that has not lost it, with the state that the exchange's kind tells (R171, R174). -/
theorem StationsOk.exchanging (h : StationsOk s) (running : s.loop.exchange = some x) (serving : x.orphan = false) :
    ∃ st, (s.room x.room).station = some st ∧ (st.state = .off ↔ x.kind = .probe) ∧ (s.room x.room).cfg.enabled = true ∧
      st.health ≤ 255 ∧ ((s.room x.room).ctx.safe = true ↔ st.state = .off) := by
  obtain ⟨rooms, serves⟩ := stationsOk_iff.1 h
  obtain ⟨st, station, -, kind⟩ := serves x running serving
  obtain ⟨health, safe⟩ := (rooms x.room).of_some station
  exact ⟨st, station, kind, (rooms x.room).enabled station, health, safe⟩

theorem gradeOf_ne_off (health : Nat) : gradeOf health ≠ .off := by
  unfold gradeOf; repeat' split
  all_goals nofun

/-- A failed exchange (R172, R181, R182, R183). -/
theorem StationsOk.fail (h : StationsOk s) (running : s.loop.exchange = some x) (code : Nat) :
    StationsOk (s.fail x code) := by
  have failed := failed_fail s x code
  have ended : (s.fail x code).loop.exchange = none := by rw [failed.loop]
  cases serving : x.orphan with
  | true =>
    refine h.exchangeOver (fun r => ?_) ended
    rw [fail_orphan serving]
    exact congrArg Room.stationFacts (room_logFailure s r)
  | false =>
    obtain ⟨st, station, state, on, health, safe⟩ := h.exchanging running serving
    have enabled : ((s.fail x code).room x.room).cfg.enabled = true := by rw [failed.cfg, on]
    refine h.replaced (r := x.room) (fun q other => ?_) ?_ fun y more => by cases ended.symm.trans more
    · obtain ⟨same, overlay⟩ := failed.others q other
      exact stationFacts_eq (congrArg RoomRec.enabled (failed.cfg q)) overlay same
    · cases kind : x.kind with
      | probe =>
        obtain ⟨probed, overlay⟩ := probe_fail serving station code kind
        exact stationOk_of_some enabled probed health (by rw [overlay]; exact safe)
      | setpoint =>
        have awake : st.state ≠ .off := fun off => by cases kind.symm.trans (state.1 off)
        by_cases low : st.health + 8 < 256
        · obtain ⟨graded, overlay, -⟩ := graded_fail serving station code kind low
          refine stationOk_of_some enabled graded (Nat.le_of_lt_succ low) ?_
          rw [overlay]
          exact ⟨fun set => absurd (safe.1 set) awake, fun off => absurd off (gradeOf_ne_off _)⟩
        · obtain ⟨lost, overlay, -⟩ := off_fail serving station code kind (Nat.le_of_not_lt low)
          exact stationOk_of_some enabled lost (le_refl 255) ⟨fun _ => rfl, fun _ => overlay⟩

/-- The exchange is over, and its station's record is replaced by one that is OFF where it was. -/
theorem StationsOk.exchanged (h : StationsOk s) {r : RoomId} {st y : Station} (p : Port)
    (station : (s.room r).station = some st) (health : y.health ≤ 255) (state : y.state = .off ↔ st.state = .off) :
    StationsOk (s.exchanged r y p) := by
  have own := (stationsOk_iff.1 h).1 r
  refine h.replaced (r := r) (fun q other => by rw [room_exchanged_other other]) ?_ nofun
  refine stationOk_of_some (st := y) ?_ ?_ health ?_
  · rw [cfg_exchanged]; exact own.enabled station
  · rw [room_exchanged_self]
  · rw [ctx_exchanged, state]; exact (own.of_some station).2

/-- The delivery of a report moves nothing that the agreement reads (R173). -/
theorem KeepsStations.delivered (s : State) (r : RoomId) (rep : Report) : KeepsStations s (s.delivered r rep) := by
  have event (t : State) : KeepsStations t (t.takeEvent r rep) := by
    cases has : (t.room r).station with
    | none => rw [State.takeEvent, has]; exact .refl t
    | some y =>
      have noted : t.modifyStation r (fun x => x.afterEvent rep) = t.eventNoted r y rep :=
        modifyStation_of_some has fun x => x.afterEvent rep
      have kept : KeepsStations t (t.eventNoted r y rep) := noted ▸ .modifyStation t r fun _ => ⟨rfl, rfl, rfl⟩
      exact kept.trans (RoomWork.takeEvent has).keepsStations
  have blinds (t : State) : KeepsStations t (t.modifyRoom r fun x =>
      { x with blinds := x.blinds.mapIdx fun b y => reportBlind x.cfg rep b y }) := .modifyRoom t r fun _ => rfl
  exact ((RoomWork.told s r rep).keepsStations.trans (event _)).trans (blinds _)

/-- A station that has answered its eighth good probe is ACTIVE, and its room is no longer SAFE (R183). -/
theorem StationsOk.returned (h : StationsOk s) {r : RoomId} {st y : Station} (p : Port)
    (station : (s.room r).station = some st) (health : y.health ≤ 255) (awake : y.state ≠ .off) :
    StationsOk ((s.exchanged r y p).leaveSafe r) := by
  obtain ⟨cfg, -, -, sound⟩ := room_leaveSafe (s.exchanged r y p) r
  have work := RoomWork.leaveSafe (s.exchanged r y p) r
  refine h.replaced (r := r) (fun q other => ?_) (stationOk_of_some (st := y) ?_ ?_ health ?_) fun x running => ?_
  · rw [stationFacts_leaveSafe _ other, room_exchanged_other other]
  · rw [cfg, cfg_exchanged]; exact ((stationsOk_iff.1 h).1 r).enabled station
  · rw [work.station, State.modifyCtx, room_modifyRoom_self, room_exchanged_self]
  · rw [sound]; exact ⟨nofun, fun off => absurd off awake⟩
  · rw [work.loop] at running; cases running

/-- A good exchange (R173, R181, R183). -/
theorem StationsOk.succeed (h : StationsOk s) (running : s.loop.exchange = some x) (rep : Report) :
    StationsOk (s.succeed x rep) := by
  cases serving : x.orphan with
  | true => rw [State.succeed, serving]; exact h.exchangeOver (fun _ => rfl) rfl
  | false =>
    obtain ⟨st, station, state, -, health, -⟩ := h.exchanging running serving
    cases kind : x.kind with
    | setpoint =>
      have awake : st.state ≠ .off := fun off => by cases kind.symm.trans (state.1 off)
      obtain ⟨p, -, succeeded⟩ := succeed_setpoint (rep := rep) serving station kind
      rw [succeeded]
      refine (KeepsStations.delivered ..).ok (h.exchanged p station ((Nat.sub_le ..).trans health) ?_)
      exact ⟨fun off => absurd off (gradeOf_ne_off _), fun off => absurd off awake⟩
    | probe =>
      rw [succeed_probe serving station kind]
      split
      · exact h.returned s.port station (Nat.zero_le _) nofun
      · exact h.exchanged s.port station health Iff.rfl

end Exchanges

/-! ## Resets -/

theorem StationsOk.warmReset (s : State) (cause : ResetCause) : StationsOk (s.warmReset cause) := by
  refine (follows_warmReset s cause).keepsStations.ok (stationsOk_iff.2 ⟨fun r => ?_, nofun⟩)
  rw [room_restarted]
  cases on : (s.room r).cfg.enabled with
  | true => exact stationOk_of_joining on (if_pos on) rfl
  | false => exact stationOk_of_none on (if_neg (by simp [on])) rfl

end Sys2Proof.Machine
end

section
/-! PROOFS. Every command and every event keeps stations, SAFE overlays and the exchange in agreement: all but the
configuration of rooms, the resets and the loop's own events leave what the agreement reads as it was (R171, R174, R175,
R181, R182). -/
namespace Sys2Proof.Machine

/-! ## Commands as they arrive -/

theorem KeepsStations.arrive {act : State → State} (h : ∀ t, KeepsStations t (act t)) (s : State) :
    KeepsStations s (s.arrive act) := by
  unfold State.arrive; split
  · exact .elsewhere rfl
  · exact h s

theorem KeepsStations.hostHeard_arrive {act : State → State} (h : ∀ t, KeepsStations t (act t)) (s : State) :
    KeepsStations s (s.hostHeard.arrive act) := (KeepsStations.arrive h s.hostHeard).since (by rfl)

theorem KeepsStations.queued {act : State → Answered} (h : ∀ t, KeepsStations t (act t).1) (s : State) (c : Instr) :
    KeepsStations s (s.queued c act) :=
  .hostHeard_arrive (fun t => (h t).trans (.elsewhere (by rfl))) s

theorem KeepsStations.queuedRead (s : State) (c : Instr) (answer : State → Status × Result) :
    KeepsStations s (s.queuedRead c answer) := .queued (fun t => .refl t) s c

theorem KeepsStations.queuedTouching {act : State → Answered} (h : ∀ t, KeepsStations t (act t).1) (s : State)
    (c : Instr) (touched : RoomId → Bool) : KeepsStations s (s.queuedTouching c touched act) := by
  refine .queued (fun t => ?_) s c
  change KeepsStations t (if (act t).2.1.accepted then (act t).1.finishWith t touched else (act t).1)
  split
  · exact (h t).trans (Follows.finishWith ..).keepsStations
  · exact h t

theorem KeepsStations.queuedEffect {act : State → Answered} (h : ∀ t, KeepsStations t (act t).1) (s : State)
    (c : Instr) : KeepsStations s (s.queuedEffect c act) := .queuedTouching h s c _

theorem KeepsStations.storeCommand (s : State) (c : Instr) (op : HostOp) :
    KeepsStations s (s.storeCommand c op).takeNext :=
  (Follows.takeNext (s.storeCommand c op)).keepsStations.since (by rfl)

theorem KeepsStations.queuedOperation (s : State) (c : Instr) (op : HostOp) :
    KeepsStations s (s.queuedOperation c op) :=
  .hostHeard_arrive (fun t => .storeCommand t c op) s

theorem KeepsStations.queuedEither {act : State → Answered ⊕ HostOp} (h : ∀ t a, act t = .inl a → KeepsStations t a.1)
    (s : State) (c : Instr) : KeepsStations s (s.queuedEither c act) := by
  refine .hostHeard_arrive (fun t => ?_) s
  split
  · rename_i u e x ha
    have kept : KeepsStations t u := h t _ ha
    split
    · exact (kept.finish t).trans (.elsewhere (by rfl))
    · exact kept.trans (.elsewhere (by rfl))
  · exact .storeCommand ..

section Effects
variable (s : State)

/-! ### Configuration -/

theorem KeepsStations.writeRoom (r : RoomId) (w : RoomWrite) : KeepsStations s (s.writeRoom r w).1 := by
  unfold State.writeRoom; split
  · exact .refl s
  · exact ⟨fun h => h.applyRoom ..⟩

theorem KeepsStations.writeRoomStored (n : Nat) (w : RoomWrite) : KeepsStations s (s.writeRoomStored n w).1 := by
  unfold State.writeRoomStored; repeat' split
  all_goals first
    | exact .refl s
    | exact .writeRoom ..

theorem KeepsStations.writeRoomNow {n : Nat} {w : RoomWrite} {a : Answered} (h : s.writeRoomNow n w = .inl a) :
    KeepsStations s a.1 := by
  unfold State.writeRoomNow at h
  repeat' split at h
  all_goals cases h
  · exact .refl s
  · exact .refl s
  · exact .writeRoom ..

theorem KeepsStations.writeWing (gap : Nat) (b : Band) (silence : Nat) (check : State → Nat → Option Result) :
    KeepsStations s (s.writeWing gap b silence check).1 := by
  unfold State.writeWing; dsimp only; repeat' split
  all_goals exact .elsewhere rfl

theorem KeepsStations.writeWingNow {gap silence : Nat} {b : Band} {a : Answered}
    (h : s.writeWingNow gap b silence = .inl a) : KeepsStations s a.1 := by
  unfold State.writeWingNow at h
  split at h
  · cases h
  · cases h; exact .writeWing ..

theorem KeepsStations.writePartition (n : Nat) (rooms : List Nat) : KeepsStations s (s.writePartition n rooms).1 := by
  unfold State.writePartition; repeat' split
  all_goals first
    | exact .elsewhere rfl
    | exact (RoomWork.splitIfMerged ..).keepsStations.trans (.elsewhere (by rfl))

theorem KeepsStations.deletePartition (n : Nat) : KeepsStations s (s.deletePartition n).1 := by
  unfold State.deletePartition; repeat' split
  all_goals first
    | exact .elsewhere rfl
    | exact (RoomWork.splitIfMerged ..).keepsStations.trans (.elsewhere (by rfl))

theorem KeepsStations.writeAirGroup (n fallback period : Nat) (mask : TriggerMask) :
    KeepsStations s (s.writeAirGroup n fallback period mask).1 := by
  unfold State.writeAirGroup; split <;> exact .elsewhere rfl

theorem KeepsStations.writeCalibration (n : Nat) (c : Calibration) : KeepsStations s (s.writeCalibration n c).1 := by
  unfold State.writeCalibration; split
  · exact .refl s
  · dsimp only; exact .modifyOce ..

theorem KeepsStations.writeProfile (n : Nat) (w : ProfileWrite) : KeepsStations s (s.writeProfile n w).1 := by
  unfold State.writeProfile; repeat' split
  all_goals exact .elsewhere rfl

/-! ### Service, air, light and loop -/

theorem KeepsStations.holdRoomNow (n : Nat) (f : HoldFields) : KeepsStations s (s.holdRoomNow n f).1 := by
  unfold State.holdRoomNow State.holdRoom; repeat' split
  · exact .refl s
  · exact .refl s
  · exact .refl s
  · dsimp only; exact .modifyCtx s _ fun _ => rfl

theorem KeepsStations.endHold (r : RoomId) : KeepsStations s (s.endHold r) := by
  unfold State.endHold
  exact .modifyCtx s r fun _ => rfl

theorem KeepsStations.releaseHoldNow (n : Nat) : KeepsStations s (s.releaseHoldNow n).1 := by
  unfold State.releaseHoldNow State.releaseHold; repeat' split
  · exact .refl s
  · exact .refl s
  · exact .endHold ..

theorem KeepsStations.extendNow {n : Nat} {h : Handle} {a : Answered} (ha : s.extendNow n h = .inl a) :
    KeepsStations s a.1 := by
  unfold State.extendNow at ha
  repeat' split at ha
  all_goals cases ha
  all_goals exact .refl s

theorem KeepsStations.endOccurrence {t : State} {n : Nat} {h : Handle} (hx : execEndOccurrence n h s = .next t) :
    KeepsStations s t := by
  cases hx
  refine .hostHeard_arrive (fun t => ?_) s
  repeat' split
  all_goals exact .elsewhere rfl

theorem KeepsStations.setOpenRange {t : State} {first last : Nat} (hx : execSetOpenRange first last s = .next t) :
    KeepsStations s t := by
  cases hx
  refine .hostHeard_arrive (fun t => ?_) s
  split
  · rename_i a b _ _
    let u := t.takeCommand (.setOpenRange first last)
    have taken : KeepsStations t (u.rangeTaken a b) := (RoomWork.rangeTaken u a b).keepsStations.since (by rfl)
    exact KeepsStations.finish (taken.trans (RoomWork.offerWork ..).keepsStations) t
  · exact .elsewhere rfl

theorem KeepsStations.readStatus (n : Nat) : KeepsStations s (s.readStatus n).1 := by
  unfold State.readStatus; split
  · exact .refl s
  · dsimp only; exact .modifyCtx s _ fun _ => rfl

theorem KeepsStations.setCapacity (n capacity : Nat) : KeepsStations s (s.setCapacity n capacity).1 := by
  unfold State.setCapacity; split <;> exact .elsewhere rfl

theorem KeepsStations.requestAllocation (n : Nat) : KeepsStations s (s.requestAllocation n).1 := by
  unfold State.requestAllocation; split <;> exact .elsewhere rfl

theorem KeepsStations.sceneWindow (f : WindowFields) : KeepsStations s (s.sceneWindow f).1 := by
  unfold State.sceneWindow; split <;> exact .elsewhere rfl

theorem KeepsStations.setEconomy (e : Option Switch) (cap : Nat) : KeepsStations s (s.setEconomy e cap).1 := by
  unfold State.setEconomy; split <;> exact .elsewhere rfl

theorem KeepsStations.setFacade (n : Nat) (a : Option Sun) (b : Option Season) (c : Option Switch) :
    KeepsStations s (s.setFacade n a b c).1 := by
  unfold State.setFacade; split <;> exact .elsewhere rfl

/-- Readmit is all that a readmission sets (R184). -/
theorem setReadmit_kept (x : Station) :
    x.setReadmit.address = x.address ∧ x.setReadmit.state = x.state ∧ x.setReadmit.health = x.health := by
  unfold Station.setReadmit; split <;> exact ⟨rfl, rfl, rfl⟩

theorem KeepsStations.readmitStation (n : Nat) : KeepsStations s (s.readmitStation n).1 := by
  unfold State.readmitStation; repeat' split
  · exact .refl s
  · exact .refl s
  · exact .modifyStation s _ setReadmit_kept

theorem KeepsStations.readStation (n : Nat) : KeepsStations s (s.readStation n).1 := by
  unfold State.readStation; repeat' split
  · exact .refl s
  · exact .refl s
  · exact .modifyStation s _ fun _ => ⟨rfl, rfl, rfl⟩

/-- The levels of a run go to the scene table alone (R151). -/
theorem KeepsStations.sceneWrite (count : Nat) (levels : List Nat) : KeepsStations s (s.sceneWrite count levels).1 := by
  have taken (t : State) (n : SceneTally) (level : Nat) : KeepsStations t (t.takeLevel n level).1 := by
    unfold State.takeLevel; dsimp only; repeat' split
    all_goals exact .elsewhere rfl
  have run (l : List Nat) (p : State × SceneTally) : KeepsStations p.1 (takeRun p l).1 := by
    induction l generalizing p with
    | nil => exact .refl _
    | cons a l ih => exact (taken ..).trans (ih _)
  exact run _ (s, ⟨0, 0, false⟩)

/-- A run of levels is written or read where its count is in range, and refused otherwise (R151, R152). -/
theorem KeepsStations.whereCounted {a : Answered} {count : Nat} (h : KeepsStations s a.1) :
    KeepsStations s (if countOk count then a else s.refuse .range).1 := by
  split
  · exact h
  · exact .refl s

theorem KeepsStations.startRound : KeepsStations s s.startRound := by
  unfold State.startRound; split <;> exact .elsewhere rfl

theorem KeepsStations.noReply : KeepsStations s s.noReply := by
  unfold State.noReply; split
  · exact .refl s
  · rename_i x running
    exact KeepsStations.finish ⟨fun h => h.fail running _⟩ s

theorem KeepsStations.replyReceived (reply : Reply) : KeepsStations s (s.replyReceived reply) := by
  unfold State.replyReceived; split
  · exact .refl s
  · rename_i x running
    split
    · exact KeepsStations.finish ⟨fun h => h.fail running _⟩ s
    · exact KeepsStations.finish ⟨fun h => h.succeed running _⟩ s

/-! ### Store operations -/

theorem KeepsStations.createBooking (now : Instant) (f : BookingFields) :
    KeepsStations s (s.createBooking now f).1 := by
  unfold State.createBooking; repeat' split
  all_goals first
    | exact .elsewhere rfl
    | exact ((RoomWork.placeToday ..).trans (.reportChanges ..)).keepsStations.since (by rfl)

theorem KeepsStations.amendBooking (now : Instant) (g : Handle) (f : BookingFields) :
    KeepsStations s (s.amendBooking now g f).1 := by
  cases hr : s.resolve g with
  | refused e => rw [amendBooking_refused hr]; exact .refl s
  | live k old =>
    cases hf : recordOf f with
    | none => rw [amendBooking_range hr hf]; exact .refl s
    | some p =>
      rw [amendBooking_checks hr hf]; repeat' split
      all_goals first
        | exact .elsewhere rfl
        | exact ((OnlyAgendas.amendAgendas ..).roomWork.trans (.reportChanges ..)).keepsStations.since (by rfl)

theorem KeepsStations.cancelBooking (g : Handle) : KeepsStations s (s.cancelBooking g).1 := by
  unfold State.cancelBooking; split
  · exact .refl s
  · exact ((RoomWork.removeHandle ..).trans (.reportChanges ..)).keepsStations.since (by rfl)

theorem KeepsStations.suspendBooking (g : Handle) : KeepsStations s (s.suspendBooking g).1 := by
  unfold State.suspendBooking; split
  · exact .refl s
  · exact ((RoomWork.removeHandle ..).trans (.reportChanges ..)).keepsStations.since (by rfl)

theorem KeepsStations.resumeBooking (now : Instant) (g : Handle) : KeepsStations s (s.resumeBooking now g).1 := by
  unfold State.resumeBooking; dsimp only; repeat' split
  all_goals first
    | exact .elsewhere rfl
    | exact ((RoomWork.placeToday ..).trans (.reportChanges ..)).keepsStations.since (by rfl)

theorem KeepsStations.retire (d : Date) : KeepsStations s (s.retire d).1 := by
  have freed (slots : Table 512 Slot) : KeepsStations s { s with store := { s.store with slots := slots } } :=
    .elsewhere rfl
  exact (freed _).trans (RoomWork.retire s d).keepsStations

theorem KeepsStations.setClock (d : Date) (m : Nat) : KeepsStations s (s.setClock d m).1 := by
  unfold State.setClock; split
  · exact .refl s
  · split
    · exact (RoomWork.jump ..).keepsStations.since (by rfl)
    · have retired : KeepsStations s ((s.putClock d m).retire d).1 :=
        (KeepsStations.retire (s.putClock d m) d).since (by rfl)
      exact retired.trans ((RoomWork.mapAgendas _ fun _ _ => []).trans (.buildAll ..)).keepsStations

theorem KeepsStations.addClosure (now : Instant) (d : Date) : KeepsStations s (s.addClosure now d).1 := by
  unfold State.addClosure; dsimp only; split
  · exact .refl s
  · split
    · exact .refl s
    · split
      · exact .refl s
      · refine KeepsStations.trans ?_ (RoomWork.reportChanges ..).keepsStations
        split
        · exact (RoomWork.mapAgendas ..).keepsStations.since (by rfl)
        · exact .elsewhere rfl

theorem KeepsStations.removeClosure (now : Instant) (d : Date) : KeepsStations s (s.removeClosure now d).1 := by
  unfold State.removeClosure; dsimp only; split
  · exact .refl s
  · split
    · exact .refl s
    · refine KeepsStations.trans ?_ (RoomWork.reportChanges ..).keepsStations
      split
      · exact (OnlyAgendas.broughtBack _ now allRooms).roomWork.keepsStations.since (by rfl)
      · exact .elsewhere rfl

theorem KeepsStations.extend (now : Instant) (r : RoomId) (g : Handle) (step : Nat) :
    KeepsStations s (s.extend now r g step).1 := by
  unfold State.extend; split
  · exact ((RoomWork.mapHandle ..).trans (.reportChanges ..)).keepsStations
  · exact .refl s

theorem KeepsStations.extendForHost (now : Instant) (r : RoomId) (g : Handle) (step : Nat) :
    KeepsStations s (s.extendForHost now r g step).1 := by
  have kept := KeepsStations.extend s now r g step
  unfold State.extendForHost
  split <;> simp_all

theorem KeepsStations.serveNote (kind : NoteKind) (g : Handle) : KeepsStations s (s.serveNote kind g) := by
  unfold State.serveNote; dsimp only; repeat' split
  all_goals first
    | exact .elsewhere rfl
    | exact ((RoomWork.removeHandle ..).trans (.reportChanges ..)).keepsStations.since (by rfl)

theorem KeepsStations.serveRoom (now : Instant) (r : RoomId) (q : RoomReq) : KeepsStations s (s.serveRoom now r q) := by
  cases q with
  | note kind g => exact .serveNote s kind g
  | extend g step =>
    have answered (t : State) (x : Extended) : KeepsStations t (t.extensionAnswered r g x) := by
      unfold State.extensionAnswered
      exact .modifyCtx t r fun _ => rfl
    exact (KeepsStations.extend s now r g step).trans (answered ..)

theorem KeepsStations.stepEffect (now : Instant) (st : CalStep) : KeepsStations s (s.stepEffect now st) := by
  cases st with
  | retire => exact .retire s now.date
  | build r =>
    have ended (t : State) : KeepsStations t t.endRebuild := by
      unfold State.endRebuild; dsimp only; repeat' split
      all_goals exact .elsewhere rfl
    exact (RoomWork.build s now r).keepsStations.trans (ended _)
  | termEnd => exact (RoomWork.termStepped s).keepsStations

theorem KeepsStations.hostEffect (now : Instant) (op : HostOp) : KeepsStations s (s.hostEffect now op).1 := by
  cases op with
  | extend r g step => exact .extendForHost ..
  | command c =>
    cases c
    case createBooking => exact .createBooking ..
    case amendBooking => exact .amendBooking ..
    case cancelBooking => exact .cancelBooking ..
    case suspendBooking => exact .suspendBooking ..
    case resumeBooking => exact .resumeBooking ..
    case setClock => exact .setClock ..
    case addClosure => exact .addClosure ..
    case removeClosure => exact .removeClosure ..
    case writeRoom => exact .writeRoomStored ..
    case writeWing => exact .writeWing ..
    case writePartition => exact .writePartition ..
    case deletePartition => exact .deletePartition ..
    all_goals exact .refl s

theorem KeepsStations.completeOp : KeepsStations s s.completeOp := by
  have effect (run : Running) : KeepsStations s (s.opEffect run) := by
    unfold State.opEffect; split
    · exact (KeepsStations.hostEffect ..).trans (RoomWork.completeCommand ..).keepsStations
    · exact .serveRoom ..
    · exact .stepEffect ..
  unfold State.completeOp; split
  · exact .refl s
  · rename_i run _
    exact ((effect run).trans ((RoomWork.applyHeld _).keepsStations.since (by rfl))).finish s

theorem KeepsStations.completeIf (p : StoreOp → Bool) : KeepsStations s (s.completeIf p) := by
  unfold State.completeIf; split
  · exact .completeOp s
  · exact .refl s

/-! ### The clock and the timers -/

theorem KeepsStations.minuteEvent : KeepsStations s s.minuteEvent := by
  unfold State.minuteEvent; split
  · exact (((RoomWork.offerWork ..).trans (.overrunChecks _)).keepsStations.since (by rfl)).finish s
  · exact .refl s

theorem KeepsStations.rolloverEvent : KeepsStations s s.rolloverEvent := by
  unfold State.rolloverEvent; split
  · have ended : KeepsStations s (s.offerWork (.minute 1440)) := (RoomWork.offerWork ..).keepsStations
    exact (ended.trans ((RoomWork.overrunChecks _).keepsStations.since (by rfl))).finish s
  · exact .refl s

theorem KeepsStations.termEnd : KeepsStations s s.termEnd := by
  unfold State.termEnd; split
  · have ended : KeepsStations s (s.offerWork (.minute 1440)) := (RoomWork.offerWork ..).keepsStations
    exact (ended.trans ((RoomWork.overrunChecks _).keepsStations.since (by rfl))).finish s
  · exact .refl s

theorem KeepsStations.noShowExpiry (r : RoomId) : KeepsStations s (s.noShowExpiry r) := by
  unfold State.noShowExpiry; repeat' split
  · exact (RoomWork.offerWork ..).keepsStations.finish s
  · exact .refl s
  · exact .refl s

theorem KeepsStations.requestTaken (p : CalWork → Bool) : KeepsStations s (s.requestTaken p) := by
  unfold State.requestTaken; split
  · exact (RoomWork.takeWork s p).keepsStations.finish s
  · exact .refl s

theorem KeepsStations.absenceEvent (r : RoomId) : KeepsStations s (s.absenceEvent r) := by
  unfold State.absenceEvent; split
  · exact (RoomWork.absenceExpiry s r).keepsStations.finish s
  · exact .refl s

theorem KeepsStations.quietEvent (r : RoomId) : KeepsStations s (s.quietEvent r) := by
  unfold State.quietEvent; split
  · exact (RoomWork.quietExpiry s r).keepsStations.finish s
  · exact .refl s

theorem KeepsStations.settleEvent (r : RoomId) : KeepsStations s (s.settleEvent r) := by
  unfold State.settleEvent; split
  · exact (RoomWork.settleExpiry s r).keepsStations.finish s
  · exact .refl s

theorem KeepsStations.holdEvent (r : RoomId) : KeepsStations s (s.holdEvent r) := by
  unfold State.holdEvent; split
  · exact (KeepsStations.endHold s r).trans (Follows.finishWith ..).keepsStations
  · exact .refl s

/-- The absence of the host sets readmit, and ends holds (R199). -/
theorem KeepsStations.hostAbsent : KeepsStations s s.hostAbsent := by
  refine .elsewhere (stationMemory_eq (fun r => ?_) rfl)
  have room := room_hostAbsent s r
  have readmitted (x : Station) : (x.setReadmit.address, x.setReadmit.state, x.setReadmit.health) =
      (x.address, x.state, x.health) := by
    obtain ⟨address, state, health⟩ := setReadmit_kept x
    rw [address, state, health]
  have safe : (s.hostAbsent.room r).ctx.safe = (s.room r).ctx.safe := by rw [room]; dsimp only; split <;> rfl
  rw [Room.stationFacts, safe, room]
  simp [Room.stationFacts, Function.comp_def, readmitted]

theorem KeepsStations.silenceExpiry : KeepsStations s s.silenceExpiry := by
  unfold State.silenceExpiry; split
  · exact (KeepsStations.hostAbsent s).trans (Follows.finishWith s.hostAbsent ..).keepsStations
  · exact .refl s

theorem KeepsStations.periodEvent (g : AirId) : KeepsStations s (s.periodEvent g) := by
  unfold State.periodEvent; split <;> exact .elsewhere rfl

theorem KeepsStations.passEvent (g : AirId) : KeepsStations s (s.passEvent g) := by
  have granted (p : PassRecord) (r : RoomId) (x : Room) : (storeGrant g p r x).stationFacts = x.stationFacts := by
    obtain same | ⟨-, -, m, -, stored⟩ := storeGrant_cases g p r x
    · rw [same]
    · rw [stored]; rfl
  have completed : KeepsStations s (s.completePass g) := by
    unfold State.completePass; dsimp only; split
    · exact .refl s
    · rename_i p _
      exact (KeepsStations.mapRooms s (granted p)).trans (.elsewhere (by rfl))
  unfold State.passEvent; split
  · exact completed.trans (.elsewhere (by rfl))
  · exact .refl s

theorem KeepsStations.travelEvent (r : RoomId) (b : BlindId) : KeepsStations s (s.travelEvent r b) := by
  unfold State.travelEvent; split
  · exact (KeepsStations.modifyBlind s r b _).finish s
  · exact .refl s

theorem KeepsStations.pauseEvent (r : RoomId) (b : BlindId) : KeepsStations s (s.pauseEvent r b) := by
  unfold State.pauseEvent; split
  · exact (KeepsStations.modifyBlind s r b _).finish s
  · exact .refl s

theorem KeepsStations.drainRoom (r : RoomId) : KeepsStations s (s.drainRoom r) :=
  (((((KeepsStations.noShowExpiry s r).trans (.absenceEvent ..)).trans (.quietEvent ..)).trans (.settleEvent ..)).trans
    (.holdEvent ..)).trans
    ((((KeepsStations.travelEvent ..).trans (.pauseEvent ..)).trans (.travelEvent ..)).trans (.pauseEvent ..))

theorem KeepsStations.drain : KeepsStations s s.drain := by
  have clock : KeepsStations s s.minuteEvent.rolloverEvent.termEnd :=
    ((KeepsStations.minuteEvent s).trans (.rolloverEvent _)).trans (.termEnd _)
  have held (t : State) : KeepsStations t
      (if t.store.running.isNone && !t.cal.work.isEmpty then t.applyHeld.finish t else t) := by
    split
    · exact (RoomWork.applyHeld t).keepsStations.finish t
    · exact .refl t
  have rooms (t : State) : KeepsStations t (allRooms.foldl State.drainRoom t) := .foldl KeepsStations.drainRoom ..
  have periods (t : State) : KeepsStations t ((List.finRange 4).foldl State.periodEvent t) :=
    .foldl KeepsStations.periodEvent ..
  exact (clock.trans (held _)).trans ((rooms _).trans ((KeepsStations.silenceExpiry _).trans (periods _)))

theorem KeepsStations.cycles (n : Nat) : KeepsStations s (s.cycles n) :=
  (KeepsStations.mapRooms s (f := fun _ x => { x with blinds := x.blinds.mapIdx fun _ b => b.cycles n })
    fun _ _ => rfl).trans (.elsewhere (by rfl))

theorem KeepsStations.second : KeepsStations s s.second := by
  have counted (t : State) : KeepsStations t t.countSecond :=
    (KeepsStations.mapRooms t (f := fun _ x => x.second) fun _ _ => rfl).trans (.elsewhere (by rfl))
  exact (KeepsStations.drain s).trans (counted _)

/-- Cycles that complete a second, and the second (R46). -/
theorem KeepsStations.cycles_second (n : Nat) : KeepsStations s (s.cycles n).wrapDivider.second :=
  (KeepsStations.cycles s n).trans ((KeepsStations.second _).since (by rfl))

theorem KeepsStations.tick : KeepsStations s s.tick := by
  unfold State.tick; dsimp only; split
  · exact .cycles_second s 1
  · exact .cycles s 1

end Effects

/-! ## Every step -/

/-- No command and no event breaks the agreement of stations, SAFE overlays and the exchange. -/
theorem KeepsStations.of_exec {s t : State} (c : Instr) (hx : exec c s = .next t) : KeepsStations s t := by
  have next {u : State} (same : exec c s = .next u) (hu : KeepsStations s u) : KeepsStations s t := by
    cases same.symm.trans hx; exact hu
  cases c
  case powerOn => exact next rfl ⟨fun _ => stationsOk_reset⟩
  case resetLine | restart => exact next rfl ⟨fun _ => .warmReset ..⟩
  case poll | readResponse | readAttention | ackAttention | readRoomChanges | readBookingChanges =>
    exact next rfl (.elsewhere (by rfl))
  case malformed => exact next rfl (.arrive (fun t => .elsewhere (by rfl)) s)
  case unknownCommand | setAttention | readLoopLog => exact next rfl (.queued (fun t => .elsewhere (by rfl)) s _)
  case readResetCause | readRoom | readProfile | readWing | readPartition | readAirGroup | readCalibration | readClock |
      listClosures | readRoomSensors | readAllocation | readRoomAir | readRoomLighting | readWingLighting =>
    exact next rfl (.queuedRead ..)
  case writePartition | deletePartition | createBooking | amendBooking | cancelBooking | suspendBooking |
      resumeBooking | readBooking | listRoomBookings | readAgenda | findFreeRoom | setClock | addClosure |
      removeClosure =>
    exact next rfl (.queuedOperation ..)
  case writeRoom => exact next rfl (.queuedEither (fun t a => .writeRoomNow t) s _)
  case writeProfile => exact next rfl (.queuedEffect (fun t => .writeProfile ..) s _)
  case writeWing => exact next rfl (.queuedEither (fun t a => .writeWingNow t) s _)
  case writeAirGroup => exact next rfl (.queued (fun t => .writeAirGroup ..) s _)
  case writeCalibration => exact next rfl (.queued (fun t => .writeCalibration ..) s _)
  case holdRoom => exact next rfl (.queuedTouching (fun t => .holdRoomNow ..) s _ _)
  case releaseHold => exact next rfl (.queuedTouching (fun t => .releaseHoldNow ..) s _ _)
  case endOccurrence => exact .endOccurrence s hx
  case extendOccurrence => exact next rfl (.queuedEither (fun t a => .extendNow t) s _)
  case setOpenRange => exact .setOpenRange s hx
  case readRoomStatus => exact next rfl (.queued (fun t => .readStatus ..) s _)
  case setCapacity => exact next rfl (.queued (fun t => .setCapacity ..) s _)
  case requestAllocation => exact next rfl (.queued (fun t => .requestAllocation ..) s _)
  case sceneWindow => exact next rfl (.queued (fun t => .sceneWindow ..) s _)
  case sceneWriteStart =>
    have rewound (t : State) (n : Nat) (l : List Nat) : KeepsStations t (t.rewindWindow.sceneWrite n l).1 :=
      (KeepsStations.sceneWrite t.rewindWindow n l).since (by rfl)
    exact next rfl (.queuedEffect (fun t => .whereCounted t (rewound ..)) s _)
  case sceneWriteContinue => exact next rfl (.queuedEffect (fun t => .whereCounted t (.sceneWrite ..)) s _)
  case sceneReadStart | sceneReadContinue =>
    exact next rfl (.queued (fun t => .whereCounted t (.elsewhere (by rfl))) s _)
  case setEconomy => exact next rfl (.queuedEffect (fun t => .setEconomy ..) s _)
  case setFacade => exact next rfl (.queuedEffect (fun t => .setFacade ..) s _)
  case readmitStation => exact next rfl (.queued (fun t => .readmitStation ..) s _)
  case readStation => exact next rfl (.queued (fun t => .readStation ..) s _)
  case storeOperationComplete => exact next rfl (.completeOp s)
  case retirementPass | agendaBuild | termEndStep | noteServed | extensionRequestServed =>
    exact next rfl (.completeIf ..)
  case secondEvent => exact next rfl (.cycles_second s _)
  case minuteEvent => exact next rfl (.minuteEvent s)
  case rolloverEvent => exact next rfl (.rolloverEvent s)
  case termEnd => exact next rfl (.termEnd s)
  case noShowExpiry => exact next rfl (.noShowExpiry ..)
  case confirmRequest | endNowRequest => exact next rfl (.requestTaken ..)
  case sensedAbsenceExpiry => exact next rfl (.absenceEvent ..)
  case quietTimerExpiry => exact next rfl (.quietEvent ..)
  case settleTimerExpiry => exact next rfl (.settleEvent ..)
  case holdExpiry => exact next rfl (.holdEvent ..)
  case hostSilenceExpiry => exact next rfl (.silenceExpiry s)
  case periodTimerMatch => exact next rfl (.periodEvent ..)
  case allocationPassComplete => exact next rfl (.passEvent ..)
  case roundStart => exact next rfl (.startRound s)
  case stationVisit => exact next rfl ⟨fun h => h.visit⟩
  case noReply => exact next rfl (.noReply s)
  case reportReceived => exact next rfl (.replyReceived ..)
  case blindTravelComplete => exact next rfl (.travelEvent ..)
  case blindPauseEnd => exact next rfl (.pauseEvent ..)

/-- Settles O55: a step runs a command or lets a cycle pass, and either keeps the agreement. -/
theorem stationsKept : Obligations.StationsKept := by
  intro s t h hx
  unfold step at hx
  split at hx
  · rename_i c rest _
    exact (KeepsStations.of_exec (s := { s with pending := rest }) c hx).ok h
  · cases hx
    exact (KeepsStations.tick s).ok h

end Sys2Proof.Machine
end

section
/-! PROOFS. The change sets of the Supervisor Port and their attention flags: what each move of the port makes of both,
and why a change set that is not empty stays flagged (R194, R195, R196). -/
namespace Sys2Proof

/-- A table holds a value that passes a test where some index does. -/
theorem Table.any_eq_true {n : Nat} {α : Type} (t : Table n α) (p : α → Bool) :
    t.any p = true ↔ ∃ i, p (t.get i) = true := by
  rw [Table.any, List.any_eq_true]
  constructor
  · rintro ⟨x, hx, passes⟩
    obtain ⟨k, bound, rfl⟩ := List.mem_iff_getElem.1 hx
    exact ⟨⟨k, t.size ▸ bound⟩, passes⟩
  · rintro ⟨i, passes⟩
    exact ⟨_, List.getElem_mem _, passes⟩

end Sys2Proof

namespace Sys2Proof.Machine

/-! ## Attention flags -/

/-- A mask meets a cause's bit where it has that bit set (R204). -/
theorem and_mask_ne_zero (m : BitVec 11) (c : Cause) : m &&& c.mask ≠ 0#11 ↔ m.getLsbD c.index = true := by
  have own : c.mask ≠ 0#11 := by cases c <;> decide
  have split : m &&& c.mask = if m.getLsbD c.index then c.mask else 0#11 := BitVec.and_twoPow m c.index
  rw [split]
  split <;> simp_all

/-- The bit of a cause in another's mask is clear (R204). -/
theorem getLsbD_mask (c d : Cause) : c.mask.getLsbD d.index = decide (d = c) := by
  cases c <;> cases d <;> rfl

theorem index_lt (c : Cause) : c.index < 11 := by cases c <;> decide

/-- Raising a cause sets its flag, and leaves every other as it was (R196). -/
theorem flag_raise (p : Port) (c d : Cause) :
    (p.raise c).flags.getLsbD d.index = (p.flags.getLsbD d.index || decide (d = c)) := by
  rw [Port.raise, BitVec.getLsbD_or, getLsbD_mask]

theorem flag_raiseIf (p : Port) (b : Bool) (c d : Cause) :
    (p.raiseIf b c).flags.getLsbD d.index = (p.flags.getLsbD d.index || (b && decide (d = c))) := by
  cases b
  · simp [Port.raiseIf]
  · simp [Port.raiseIf, flag_raise]

/-- The flags after an acknowledgement: those its mask does not name stay, and of those it names the flag of a change
set that is not empty is set again (R196). -/
theorem flag_acknowledge (p : Port) (mask : Word16) (c : Cause) :
    (p.acknowledge mask).flags.getLsbD c.index =
      if mask.getLsbD c.index then
        match c with
        | .roomsChanged => p.roomChanges.any id
        | .bookingsChanged => !p.bookingChanges.isEmpty
        | _ => false
      else p.flags.getLsbD c.index := by
  have named (d : Cause) : decide (mask.setWidth 11 &&& d.mask ≠ 0#11) = mask.getLsbD d.index := by
    rw [Bool.eq_iff_iff, decide_eq_true_iff, and_mask_ne_zero]
    simp [index_lt]
  simp only [Port.acknowledge, flag_raiseIf, named, BitVec.getLsbD_and, BitVec.getLsbD_not, BitVec.getLsbD_setWidth,
    index_lt, decide_true, Bool.true_and]
  cases c
  case roomsChanged => cases mask.getLsbD Cause.roomsChanged.index <;> simp
  case bookingsChanged => cases mask.getLsbD Cause.bookingsChanged.index <;> simp
  all_goals simp [Bool.and_comm]

/-- An acknowledgement moves nothing of the port but its flags (R196). -/
theorem acknowledge_eq (p : Port) (mask : Word16) :
    p.acknowledge mask = { p with flags := (p.acknowledge mask).flags } := by
  simp only [Port.acknowledge, Port.raiseIf, Port.raise]
  split <;> split <;> rfl

/-! ## Change sets that are flagged -/

/-- `ChangesOk` of the port alone, with each flag read by its bit. -/
def Port.changesOk (p : Port) : Prop :=
  ((∃ r, p.roomChanges.get r = true) → p.flags.getLsbD Cause.roomsChanged.index = true) ∧
    (p.bookingChanges ≠ [] → p.flags.getLsbD Cause.bookingsChanged.index = true) ∧
    p.bookingChanges.Pairwise (fun a b => a.slot < b.slot)

theorem changesOk_iff {s : State} : ChangesOk s ↔ s.port.changesOk := by
  unfold ChangesOk Port.changesOk
  rw [and_mask_ne_zero, and_mask_ne_zero]

/-- Change sets that are both empty need no flag. -/
theorem changesOk_of_empty {p : Port} (rooms : p.roomChanges = .fill 48 false) (bookings : p.bookingChanges = []) :
    p.changesOk := by
  refine ⟨fun ⟨r, h⟩ => ?_, fun h => absurd bookings h, by rw [bookings]; exact .nil⟩
  rw [rooms, Table.get_fill] at h
  cases h

section Moves
variable {p q : Port}

/-- Flags that are set, and change sets that are not touched. -/
theorem Port.changesOk.flagged (h : p.changesOk) (rooms : q.roomChanges = p.roomChanges)
    (bookings : q.bookingChanges = p.bookingChanges)
    (flags : ∀ c : Cause, p.flags.getLsbD c.index = true → q.flags.getLsbD c.index = true) : q.changesOk := by
  obtain ⟨roomFlag, bookingFlag, sorted⟩ := h
  exact ⟨fun some => flags _ (roomFlag (rooms ▸ some)), fun some => flags _ (bookingFlag (bookings ▸ some)),
    bookings ▸ sorted⟩

theorem Port.changesOk.raise (h : p.changesOk) (c : Cause) : (p.raise c).changesOk :=
  h.flagged rfl rfl fun d set => by rw [flag_raise, set, Bool.true_or]

theorem Port.changesOk.raiseIf (h : p.changesOk) (b : Bool) (c : Cause) : (p.raiseIf b c).changesOk := by
  unfold Port.raiseIf; split
  · exact h.raise c
  · exact h

/-! ### The room change set -/

theorem Port.changesOk.roomChanged (h : p.changesOk) (r : RoomId) : (p.roomChanged r).changesOk := by
  obtain ⟨-, bookingFlag, sorted⟩ := h
  exact ⟨fun _ => getLsbD_raise .., fun some => by rw [Port.roomChanged, flag_raise, bookingFlag some, Bool.true_or],
    sorted⟩

/-- The rooms that pass a test enter the set, which is flagged where there is such a room (R194). -/
theorem Port.changesOk.roomsNoted (h : p.changesOk) (test : RoomId → Bool) :
    (({ p with roomChanges := p.roomChanges.mapIdx fun r b => b || test r } : Port).raiseIf (allRooms.any test)
      .roomsChanged).changesOk := by
  obtain ⟨roomFlag, bookingFlag, sorted⟩ := h
  have lists (b : Bool) (u : Port) : (u.raiseIf b .roomsChanged).bookingChanges = u.bookingChanges := by
    unfold Port.raiseIf; split <;> rfl
  refine ⟨fun ⟨r, entered⟩ => ?_, fun some => ?_, ?_⟩
  · rw [raiseIf_roomChanges, Table.get_mapIdx, Bool.or_eq_true] at entered
    rw [flag_raiseIf]
    obtain before | now := entered
    · rw [roomFlag ⟨r, before⟩, Bool.true_or]
    · have found : allRooms.any test = true := List.any_eq_true.2 ⟨r, List.mem_finRange r, now⟩
      rw [found]; simp
  · rw [lists] at some
    rw [flag_raiseIf, bookingFlag some, Bool.true_or]
  · rw [lists]; exact sorted

/-- READ_ROOM_CHANGES empties the set (R194). -/
theorem Port.changesOk.roomsRead (h : p.changesOk) :
    ({ p with roomChanges := .fill 48 false } : Port).changesOk := by
  obtain ⟨-, bookingFlag, sorted⟩ := h
  refine ⟨fun ⟨r, entered⟩ => ?_, bookingFlag, sorted⟩
  rw [Table.get_fill] at entered
  cases entered

/-! ### The booking change set -/

theorem mem_insertChange {c x : BookingChange} {l : List BookingChange} (h : x ∈ insertChange c l) :
    x = c ∨ x ∈ l := by
  induction l with
  | nil => exact .inl (List.mem_singleton.1 h)
  | cons y l ih =>
    unfold insertChange at h
    split at h
    · exact (List.mem_cons.1 h).imp_right (List.mem_cons_of_mem _)
    · split at h
      · exact List.mem_cons.1 h
      · obtain rfl | h := List.mem_cons.1 h
        · exact .inr (List.mem_cons_self ..)
        · exact (ih h).imp_right (List.mem_cons_of_mem _)

/-- An entry put at its place by slot keeps the set in ascending order, each slot once (R195). -/
theorem insertChange_sorted (c : BookingChange) {l : List BookingChange}
    (h : l.Pairwise fun a b => a.slot < b.slot) : (insertChange c l).Pairwise fun a b => a.slot < b.slot := by
  induction l with
  | nil => exact List.pairwise_singleton ..
  | cons y l ih =>
    obtain ⟨first, rest⟩ := List.pairwise_cons.1 h
    unfold insertChange
    split
    · rename_i same
      exact List.pairwise_cons.2 ⟨fun x hx => by rw [same]; exact first x hx, rest⟩
    · rename_i differ
      split
      · rename_i before
        refine List.pairwise_cons.2 ⟨fun x hx => ?_, h⟩
        obtain rfl | hx := List.mem_cons.1 hx
        · exact before
        · exact before.trans (first x hx)
      · rename_i after
        refine List.pairwise_cons.2 ⟨fun x hx => ?_, ih rest⟩
        obtain rfl | hx := mem_insertChange hx
        · exact lt_of_le_of_ne (not_lt.1 after) (Ne.symm differ)
        · exact first x hx

theorem Port.changesOk.bookingChanged (h : p.changesOk) (c : BookingChange) : (p.bookingChanged c).changesOk := by
  obtain ⟨roomFlag, -, sorted⟩ := h
  exact ⟨fun some => by rw [Port.bookingChanged, flag_raise, roomFlag some, Bool.true_or],
    fun _ => bookingChanged_flagged .., insertChange_sorted c sorted⟩

theorem Port.changesOk.retired (h : p.changesOk) (l : List (SlotId × Handle)) : (retiredPort p l).changesOk := by
  induction l generalizing p with
  | nil => exact h
  | cons x l ih => exact ih (h.bookingChanged _)

/-- READ_BOOKING_CHANGES takes the first entries out; the flag stays (R195). -/
theorem Port.changesOk.bookingsRead (h : p.changesOk) (n : Nat) :
    ({ p with bookingChanges := p.bookingChanges.drop n } : Port).changesOk := by
  obtain ⟨roomFlag, bookingFlag, sorted⟩ := h
  refine ⟨roomFlag, fun some => bookingFlag fun none => some ?_, sorted.sublist (List.drop_sublist ..)⟩
  change List.drop n p.bookingChanges = []
  rw [none, List.drop_nil]

/-- An acknowledgement sets the flag of a change set that is not empty again at once (R196). -/
theorem Port.changesOk.acknowledge (h : p.changesOk) (mask : Word16) : (p.acknowledge mask).changesOk := by
  obtain ⟨roomFlag, bookingFlag, sorted⟩ := h
  have rooms : (p.acknowledge mask).roomChanges = p.roomChanges := by rw [acknowledge_eq]
  have bookings : (p.acknowledge mask).bookingChanges = p.bookingChanges := by rw [acknowledge_eq]
  refine ⟨fun some => ?_, fun some => ?_, bookings ▸ sorted⟩
  · rw [rooms] at some
    rw [flag_acknowledge, roomFlag some]
    split
    · exact (Table.any_eq_true ..).2 some
    · rfl
  · rw [bookings] at some
    rw [flag_acknowledge, bookingFlag some]
    split
    · simp [some]
    · rfl

end Moves

end Sys2Proof.Machine
end

section
/-! PROOFS. What leaves the whole port as it is: store operations but those that retire or reclaim a record, the
configuration of rooms and groups, and reports (R194, R195, R196). -/
namespace Sys2Proof.Machine

/-! ## Operations of the store -/

section SamePort
variable (s : State)

theorem SamePort.createBooking (now : Instant) (f : BookingFields) : SamePort s (s.createBooking now f).1 := by
  unfold State.createBooking; repeat' split
  all_goals first
    | exact .refl s
    | exact Eq.trans (SamePort.reportChanges ..) (SamePort.placeToday ..)

theorem SamePort.amendBooking (now : Instant) (g : Handle) (f : BookingFields) :
    SamePort s (s.amendBooking now g f).1 := by
  cases hr : s.resolve g with
  | refused e => rw [amendBooking_refused hr]; exact .refl s
  | live k old =>
    cases hf : recordOf f with
    | none => rw [amendBooking_range hr hf]; exact .refl s
    | some p =>
      rw [amendBooking_checks hr hf]; repeat' split
      all_goals first
        | exact .refl s
        | exact Eq.trans (SamePort.reportChanges ..) (OnlyAgendas.amendAgendas ..).port

theorem SamePort.cancelBooking (g : Handle) : SamePort s (s.cancelBooking g).1 := by
  unfold State.cancelBooking; split
  · exact .refl s
  · exact (SamePort.removeHandle (s.freeSlot _) g).trans (.reportChanges ..)

theorem SamePort.suspendBooking (g : Handle) : SamePort s (s.suspendBooking g).1 := by
  unfold State.suspendBooking; split
  · exact .refl s
  · exact (SamePort.removeHandle (s.modifyRecord _ _) g).trans (.reportChanges ..)

theorem SamePort.resumeBooking (now : Instant) (g : Handle) : SamePort s (s.resumeBooking now g).1 := by
  unfold State.resumeBooking; dsimp only; repeat' split
  all_goals first
    | exact .refl s
    | exact Eq.trans (SamePort.reportChanges ..) (SamePort.placeToday ..)

theorem SamePort.addClosure (now : Instant) (d : Date) : SamePort s (s.addClosure now d).1 := by
  unfold State.addClosure; dsimp only; repeat' split
  all_goals first
    | exact .refl s
    | exact SamePort.reportChanges ..

theorem SamePort.removeClosure (now : Instant) (d : Date) : SamePort s (s.removeClosure now d).1 := by
  unfold State.removeClosure; dsimp only; split
  · exact .refl s
  · split
    · exact .refl s
    · refine SamePort.trans ?_ (.reportChanges ..)
      split
      · exact (OnlyAgendas.broughtBack _ now allRooms).port
      · exact .refl s

theorem SamePort.extend (now : Instant) (r : RoomId) (g : Handle) (step : Nat) :
    SamePort s (s.extend now r g step).1 := by
  unfold State.extend; split
  · exact (SamePort.mapHandle ..).trans (.reportChanges ..)
  · exact .refl s

theorem SamePort.extendForHost (now : Instant) (r : RoomId) (g : Handle) (step : Nat) :
    SamePort s (s.extendForHost now r g step).1 := by
  have kept := SamePort.extend s now r g step
  unfold State.extendForHost
  split <;> simp_all

/-! ## Configuration -/

theorem SamePort.readdress (r : RoomId) (address : Nat) : SamePort s (s.readdress r address) := by
  have replaced : SamePort s (s.replaceUnit r address) := SamePort.leaveSafe s r
  refine replaced.trans ?_
  unfold State.readdress State.replaceUnit; dsimp only; repeat' split
  all_goals first
    | exact .refl _
    | exact (Quiet.evaluateGroup ..).port

theorem SamePort.rewriteRoom (r : RoomId) (c : RoomRec) : SamePort s (s.rewriteRoom r c) := by
  have recorded : SamePort s (s.recorded r c) := by
    unfold State.recorded; dsimp only; split
    · exact .refl s
    · exact .readdress (s.modifyRoom r fun x => { x with cfg := c }) r _
  have refitted (t : State) (off : Bool) : SamePort t (t.refitTally r off) := by
    unfold State.refitTally; dsimp only; repeat' split
    all_goals exact .refl t
  have moved (t : State) (old new : Option AirId) : SamePort t (t.moveAirGroup r old new) := by
    unfold State.moveAirGroup; dsimp only; repeat' split
    all_goals exact .refl t
  rw [rewriteRoom_eq]
  exact (recorded.trans (refitted ..)).trans (moved ..)

theorem SamePort.writeRoom (r : RoomId) (w : RoomWrite) : SamePort s (s.writeRoom r w).1 := by
  unfold State.writeRoom; split
  · exact .refl s
  · unfold State.applyRoom; split
    · exact .refl s
    · exact .refl s
    · exact .rewriteRoom ..
    · exact .refl s

theorem SamePort.writeRoomStored (n : Nat) (w : RoomWrite) : SamePort s (s.writeRoomStored n w).1 := by
  unfold State.writeRoomStored; repeat' split
  all_goals first
    | exact .refl s
    | exact .writeRoom ..

theorem SamePort.writeRoomNow {n : Nat} {w : RoomWrite} {a : Answered} (h : s.writeRoomNow n w = .inl a) :
    SamePort s a.1 := by
  unfold State.writeRoomNow at h
  repeat' split at h
  all_goals cases h
  · exact .refl s
  · exact .refl s
  · exact .writeRoom ..

theorem SamePort.writePartition (n : Nat) (rooms : List Nat) : SamePort s (s.writePartition n rooms).1 := by
  unfold State.writePartition; repeat' split
  all_goals first
    | exact .refl s
    | exact (Quiet.splitIfMerged ..).port

theorem SamePort.deletePartition (n : Nat) : SamePort s (s.deletePartition n).1 := by
  unfold State.deletePartition; repeat' split
  all_goals first
    | exact .refl s
    | exact (Quiet.splitIfMerged ..).port

theorem SamePort.extendNow {n : Nat} {h : Handle} {a : Answered} (ha : s.extendNow n h = .inl a) :
    SamePort s a.1 := by
  unfold State.extendNow at ha
  repeat' split at ha
  all_goals cases ha
  all_goals exact .refl s

/-! ## Scenes and reports -/

theorem SamePort.sceneWrite (count : Nat) (levels : List Nat) : SamePort s (s.sceneWrite count levels).1 := by
  have taken (t : State) (n : SceneTally) (level : Nat) : SamePort t (t.takeLevel n level).1 := by
    unfold State.takeLevel; dsimp only; repeat' split
    all_goals exact .refl t
  have run (l : List Nat) (p : State × SceneTally) : SamePort p.1 (takeRun p l).1 := by
    induction l generalizing p with
    | nil => exact .refl _
    | cons a l ih => exact (taken ..).trans (ih _)
  exact run _ (s, ⟨0, 0, false⟩)

theorem SamePort.enterSafe (r : RoomId) : SamePort s (s.enterSafe r) := (safeEntered_enterSafe s r).port

theorem SamePort.deliverReport (r : RoomId) (rep : Report) : SamePort s (s.deliverReport r rep) := by
  have event (t : State) : SamePort t (t.takeEvent r rep) := by
    cases station : (t.room r).station with
    | none => rw [State.takeEvent, station]; exact .refl t
    | some y => exact (Quiet.takeEvent (rep := rep) station).port
  have restarted : SamePort s
      (if rep.flags.restarted then s.modifyStation r fun x => { x with lastEvent := none } else s) := by
    split <;> exact .refl s
  exact (restarted.trans (Quiet.told _ r rep).port).trans (event _)

end SamePort

end Sys2Proof.Machine
end

section
/-! PROOFS. Every command and every event keeps a change set that is not empty flagged: what changes a flag or a set
either raises the flag with the set or empties the set (R194, R195, R196). -/
namespace Sys2Proof.Machine

/-! ## Steps that keep the change sets flagged -/

/-- Where the change sets are flagged before, they are so after. -/
structure KeepsChanges (s t : State) : Prop where
  ok : s.port.changesOk → t.port.changesOk

/-- The change sets and the flags. -/
def Port.changeMemory (p : Port) : BitVec 11 × Table 48 Bool × List BookingChange :=
  (p.flags, p.roomChanges, p.bookingChanges)

/-- A change elsewhere leaves change sets and flags the very same. -/
theorem KeepsChanges.elsewhere {s t : State} (same : t.port.changeMemory = s.port.changeMemory) : KeepsChanges s t :=
  ⟨fun h => by
    obtain ⟨flags, sets⟩ := Prod.mk.inj same
    obtain ⟨rooms, bookings⟩ := Prod.mk.inj sets
    exact h.flagged rooms bookings fun c set => by rw [flags]; exact set⟩

theorem KeepsChanges.refl (s : State) : KeepsChanges s s := ⟨id⟩

theorem KeepsChanges.trans {s t u : State} (a : KeepsChanges s t) (b : KeepsChanges t u) : KeepsChanges s u :=
  ⟨b.ok ∘ a.ok⟩

/-- What keeps them from one state on keeps them from any other with the same change sets and flags. -/
theorem KeepsChanges.since {s u t : State} (h : KeepsChanges u t) (same : u.port.changeMemory = s.port.changeMemory) :
    KeepsChanges s t := .trans (.elsewhere same) h

theorem KeepsChanges.foldl {α : Type} {f : State → α → State} (h : ∀ s a, KeepsChanges s (f s a)) (l : List α)
    (s : State) : KeepsChanges s (l.foldl f s) := by
  induction l generalizing s with
  | nil => exact .refl s
  | cons a l ih => exact (h s a).trans (ih _)

theorem SamePort.keepsChanges {s t : State} (h : SamePort s t) : KeepsChanges s t :=
  .elsewhere (congrArg Port.changeMemory h)

theorem Quiet.keepsChanges {s t : State} (h : Quiet s t) : KeepsChanges s t := SamePort.keepsChanges h.port

theorem KeepsChanges.raise (s : State) (c : Cause) : KeepsChanges s (s.raise c) := ⟨fun h => h.raise c⟩

theorem KeepsChanges.roomChanged (s : State) (r : RoomId) : KeepsChanges s (s.roomChanged r) :=
  ⟨fun h => h.roomChanged r⟩

theorem KeepsChanges.respond (s : State) (c : Instr) (l : Bool) (e : Status) (x : Result) :
    KeepsChanges s (s.respond c l e x) :=
  (KeepsChanges.raise { s with port := { s.port with slot := .done ⟨e, c.code, l, x⟩ } } .responseReady).since (by rfl)

theorem KeepsChanges.completeCommand (s : State) (e : Status) (x : Result) :
    KeepsChanges s (s.completeCommand e x) := by
  unfold State.completeCommand; split
  · exact .respond ..
  · exact .refl s

/-- All that follows an effect does to the port: rooms enter the room change set (R194). -/
theorem KeepsChanges.finishWith (s b : State) (p : RoomId → Bool) : KeepsChanges s (s.finishWith b p) := ⟨fun h => by
  have port : (s.finishWith b p).port = (s.follow.noteRooms (s.follow.roomMoved b)).port := takeNext_port _
  rw [port]
  exact Port.changesOk.roomsNoted (p := s.port) h _⟩

theorem KeepsChanges.finish {s t : State} (h : KeepsChanges s t) (b : State) : KeepsChanges s (t.finish b) :=
  h.trans (.finishWith ..)

/-! ### Commands as they arrive -/

theorem KeepsChanges.arrive {act : State → State} (h : ∀ t, KeepsChanges t (act t)) (s : State) :
    KeepsChanges s (s.arrive act) := by
  unfold State.arrive; split
  · exact .elsewhere rfl
  · exact h s

theorem KeepsChanges.hostHeard_arrive {act : State → State} (h : ∀ t, KeepsChanges t (act t)) (s : State) :
    KeepsChanges s (s.hostHeard.arrive act) := (KeepsChanges.arrive h s.hostHeard).since (by rfl)

theorem KeepsChanges.queued {act : State → Answered} (h : ∀ t, KeepsChanges t (act t).1) (s : State) (c : Instr) :
    KeepsChanges s (s.queued c act) := .hostHeard_arrive (fun t => (h t).trans (.respond ..)) s

theorem KeepsChanges.queuedRead (s : State) (c : Instr) (answer : State → Status × Result) :
    KeepsChanges s (s.queuedRead c answer) := .queued (fun t => .refl t) s c

theorem KeepsChanges.queuedTouching {act : State → Answered} (h : ∀ t, KeepsChanges t (act t).1) (s : State)
    (c : Instr) (touched : RoomId → Bool) : KeepsChanges s (s.queuedTouching c touched act) := by
  refine .queued (fun t => ?_) s c
  change KeepsChanges t (if (act t).2.1.accepted then (act t).1.finishWith t touched else (act t).1)
  split
  · exact (h t).trans (.finishWith ..)
  · exact h t

theorem KeepsChanges.queuedEffect {act : State → Answered} (h : ∀ t, KeepsChanges t (act t).1) (s : State)
    (c : Instr) : KeepsChanges s (s.queuedEffect c act) := .queuedTouching h s c _

theorem KeepsChanges.storeCommand (s : State) (c : Instr) (op : HostOp) :
    KeepsChanges s (s.storeCommand c op).takeNext := by
  have taken : SamePort (s.storeCommand c op) (s.storeCommand c op).takeNext := takeNext_port _
  exact taken.keepsChanges.since (by rfl)

theorem KeepsChanges.queuedOperation (s : State) (c : Instr) (op : HostOp) :
    KeepsChanges s (s.queuedOperation c op) := .hostHeard_arrive (fun t => .storeCommand t c op) s

theorem KeepsChanges.queuedEither {act : State → Answered ⊕ HostOp} (h : ∀ t a, act t = .inl a → KeepsChanges t a.1)
    (s : State) (c : Instr) : KeepsChanges s (s.queuedEither c act) := by
  refine .hostHeard_arrive (fun t => ?_) s
  split
  · rename_i u e x ha
    have kept : KeepsChanges t u := h t _ ha
    split
    · exact (kept.finish t).trans (.respond ..)
    · exact kept.trans (.respond ..)
  · exact .storeCommand ..

section Effects
variable (s : State)

/-! ### The calendar's own work -/

theorem KeepsChanges.reportRelease (h : Handle) : KeepsChanges s (s.reportRelease h) :=
  .foldl (fun t r => (Quiet.report t none r).keepsChanges.trans (.roomChanged ..)) ..

theorem KeepsChanges.expire (h : Handle) : KeepsChanges s (s.expire h) := by
  unfold State.expire; dsimp only; split
  · refine KeepsChanges.trans (.elsewhere ?_) (.reportRelease ..)
    split <;> rfl
  · exact .refl s

theorem KeepsChanges.applyReopened (r : RoomId) : KeepsChanges s (s.applyReopened r) := by
  have reopened (l : List Entry) : SamePort s (l.foldl (fun t e => t.reopenEntry r e) s) :=
    .foldl (fun t e => .reopenEntry t r e) l s
  exact ((reopened _).trans (.derive ..)).keepsChanges.trans (.roomChanged ..)

theorem KeepsChanges.applyWork (w : CalWork) : KeepsChanges s (s.applyWork w) := by
  cases w with
  | confirm r h => exact (SamePort.applyConfirm ..).keepsChanges
  | endNow r h host =>
    have ended := (SamePort.applyEndNow s r h).keepsChanges
    simp only [State.applyWork]
    split
    · split
      · exact ended.trans (.completeCommand ..)
      · exact ended.trans (.completeCommand ..)
    · exact ended
  | minute m => exact (SamePort.evalAgendas ..).keepsChanges
  | expiry h => exact .expire ..
  | safeChanged => exact .elsewhere rfl
  | closed r => exact (SamePort.applyClosed ..).keepsChanges
  | reopened r => exact (KeepsChanges.applyReopened s r).trans (Quiet.evaluateRoom ..).keepsChanges
  | rangeDone => exact .completeCommand ..

theorem KeepsChanges.offerWork (w : CalWork) : KeepsChanges s (s.offerWork w) := by
  unfold State.offerWork; split
  · exact (Quiet.postWorkOnce s w).keepsChanges
  · exact .applyWork ..

theorem KeepsChanges.applyHeld : KeepsChanges s s.applyHeld :=
  KeepsChanges.since (.foldl KeepsChanges.applyWork s.cal.work { s with cal := { s.cal with work := [] } }) (by rfl)

theorem KeepsChanges.takeWork (p : CalWork → Bool) : KeepsChanges s (s.takeWork p) := by
  unfold State.takeWork; split
  · exact .refl s
  · split
    · exact (KeepsChanges.applyWork ..).since (by rfl)
    · exact .refl s

theorem KeepsChanges.build (now : Instant) (r : RoomId) : KeepsChanges s (s.build now r) := by
  have placed (t : State) (l : List (Handle × Record)) :
      SamePort t (l.foldl (fun t p => t.buildEntry now.minute r p.1 p.2) t) :=
    .foldl (fun t p => .buildEntry t now.minute r p.1 p.2) l t
  unfold State.build; dsimp only
  refine KeepsChanges.trans ?_ (.roomChanged ..)
  refine KeepsChanges.trans ?_ (Quiet.clearForBuild ..).keepsChanges
  refine KeepsChanges.trans ?_ (SamePort.derive ..).keepsChanges
  exact (placed ..).keepsChanges.since (by rfl)

/-! ### Configuration, service and loop -/

theorem KeepsChanges.writeWing (gap : Nat) (b : Band) (silence : Nat) (check : State → Nat → Option Result) :
    KeepsChanges s (s.writeWing gap b silence check).1 := by
  unfold State.writeWing; dsimp only; repeat' split
  all_goals exact .elsewhere rfl

theorem KeepsChanges.writeWingNow {gap silence : Nat} {b : Band} {a : Answered}
    (h : s.writeWingNow gap b silence = .inl a) : KeepsChanges s a.1 := by
  unfold State.writeWingNow at h
  split at h
  · cases h
  · cases h; exact .writeWing ..

theorem KeepsChanges.writeProfile (n : Nat) (w : ProfileWrite) : KeepsChanges s (s.writeProfile n w).1 := by
  unfold State.writeProfile; repeat' split
  all_goals exact .elsewhere rfl

theorem KeepsChanges.writeAirGroup (n fallback period : Nat) (mask : TriggerMask) :
    KeepsChanges s (s.writeAirGroup n fallback period mask).1 := by
  unfold State.writeAirGroup; split <;> exact .elsewhere rfl

theorem KeepsChanges.writeCalibration (n : Nat) (c : Calibration) : KeepsChanges s (s.writeCalibration n c).1 := by
  unfold State.writeCalibration; split <;> exact .elsewhere rfl

theorem KeepsChanges.holdRoomNow (n : Nat) (f : HoldFields) : KeepsChanges s (s.holdRoomNow n f).1 := by
  unfold State.holdRoomNow State.holdRoom; repeat' split
  all_goals exact .elsewhere rfl

theorem KeepsChanges.releaseHoldNow (n : Nat) : KeepsChanges s (s.releaseHoldNow n).1 := by
  unfold State.releaseHoldNow State.releaseHold; repeat' split
  all_goals exact .elsewhere rfl

theorem KeepsChanges.endOccurrence {t : State} {n : Nat} {h : Handle} (hx : execEndOccurrence n h s = .next t) :
    KeepsChanges s t := by
  cases hx
  refine .hostHeard_arrive (fun t => ?_) s
  repeat' split
  · exact .respond ..
  · exact .respond ..
  · exact .respond ..
  · exact .elsewhere rfl

theorem KeepsChanges.applyOpenRange (first last : RoomId) : KeepsChanges s (s.applyOpenRange first last) := by
  have closed (t : State) (r : RoomId) : KeepsChanges t (t.closeRoom r) := by
    have rested : SamePort t ((t.evaluateRoom r).setService r .setback none) :=
      ((Quiet.evaluateRoom t r).trans (.setService ..)).port
    have cleared : SamePort t (((t.evaluateRoom r).setService r .setback none).modifyCtx r Context.clearOutputs) :=
      rested
    exact cleared.keepsChanges.trans (.offerWork ..)
  refine KeepsChanges.trans ?_ (.offerWork ..)
  refine (KeepsChanges.foldl (fun t r => ?_) _ _).since (by rfl)
  split
  · exact .offerWork ..
  · exact closed ..

theorem KeepsChanges.setOpenRange {t : State} {first last : Nat} (hx : execSetOpenRange first last s = .next t) :
    KeepsChanges s t := by
  cases hx
  refine .hostHeard_arrive (fun t => ?_) s
  split
  · exact KeepsChanges.finish ((KeepsChanges.applyOpenRange (t.takeCommand _) _ _).since (by rfl)) t
  · exact .respond ..

theorem KeepsChanges.readStatus (n : Nat) : KeepsChanges s (s.readStatus n).1 := by
  unfold State.readStatus; split <;> exact .elsewhere rfl

theorem KeepsChanges.setCapacity (n capacity : Nat) : KeepsChanges s (s.setCapacity n capacity).1 := by
  unfold State.setCapacity; split <;> exact .elsewhere rfl

theorem KeepsChanges.requestAllocation (n : Nat) : KeepsChanges s (s.requestAllocation n).1 := by
  unfold State.requestAllocation; split <;> exact .elsewhere rfl

theorem KeepsChanges.sceneWindow (f : WindowFields) : KeepsChanges s (s.sceneWindow f).1 := by
  unfold State.sceneWindow; split <;> exact .elsewhere rfl

/-- A run of levels is written or read where its count is in range, and refused otherwise (R151, R152). -/
theorem KeepsChanges.whereCounted {a : Answered} {count : Nat} (h : KeepsChanges s a.1) :
    KeepsChanges s (if countOk count then a else s.refuse .range).1 := by
  split
  · exact h
  · exact .refl s

theorem KeepsChanges.setEconomy (e : Option Switch) (cap : Nat) : KeepsChanges s (s.setEconomy e cap).1 := by
  unfold State.setEconomy; split <;> exact .elsewhere rfl

theorem KeepsChanges.setFacade (n : Nat) (a : Option Sun) (b : Option Season) (c : Option Switch) :
    KeepsChanges s (s.setFacade n a b c).1 := by
  unfold State.setFacade; split <;> exact .elsewhere rfl

theorem KeepsChanges.readmitStation (n : Nat) : KeepsChanges s (s.readmitStation n).1 := by
  unfold State.readmitStation; repeat' split
  all_goals exact .elsewhere rfl

theorem KeepsChanges.readStation (n : Nat) : KeepsChanges s (s.readStation n).1 := by
  unfold State.readStation; repeat' split
  all_goals exact .elsewhere rfl

/-! ### The Room Loop -/

theorem KeepsChanges.startRound : KeepsChanges s s.startRound := by
  unfold State.startRound; split <;> exact .elsewhere rfl

theorem KeepsChanges.visit : KeepsChanges s s.visit := by
  unfold State.visit; repeat' split
  all_goals exact .elsewhere rfl

theorem KeepsChanges.gradeStation (r : RoomId) (was : StationState) (health : Nat) :
    KeepsChanges s (s.gradeStation r was health) := by
  unfold State.gradeStation; dsimp only; split
  · exact (KeepsChanges.raise ..).since (by rfl)
  · exact .elsewhere rfl

theorem KeepsChanges.setpointFailed (r : RoomId) (x : Station) : KeepsChanges s (s.setpointFailed r x) := by
  unfold State.setpointFailed; split
  · exact ((KeepsChanges.raise ..).trans (SamePort.enterSafe ..).keepsChanges).since (by rfl)
  · exact .gradeStation ..

theorem KeepsChanges.fail (x : Exchange) (code : Nat) : KeepsChanges s (s.fail x code) := by
  have logged (t : State) : KeepsChanges t t.logFailure := by
    unfold State.logFailure; split
    · exact .elsewhere rfl
    · exact (KeepsChanges.raise ..).since (by rfl)
  have failed (t : State) : KeepsChanges t (t.failedAt x code) := by
    unfold State.failedAt; split
    · exact .refl t
    · dsimp only; split
      · exact (KeepsChanges.setpointFailed ..).since (by rfl)
      · exact .elsewhere rfl
  unfold State.fail; dsimp only; split
  · exact (logged _).since (by rfl)
  · exact ((logged _).trans (failed _)).since (by rfl)

theorem KeepsChanges.succeed (x : Exchange) (rep : Report) : KeepsChanges s (s.succeed x rep) := by
  have good (t : State) : KeepsChanges t (t.goodAt x rep) := by
    unfold State.goodAt; split
    · exact .refl t
    · dsimp only; repeat' split
      · exact ((KeepsChanges.gradeStation ..).trans (SamePort.deliverReport ..).keepsChanges).since (by rfl)
      · exact (SamePort.leaveSafe ..).keepsChanges.since (by rfl)
      · exact .elsewhere rfl
  unfold State.succeed; dsimp only; split
  · exact .elsewhere rfl
  · exact (good _).since (by rfl)

theorem KeepsChanges.noReply : KeepsChanges s s.noReply := by
  unfold State.noReply; split
  · exact .refl s
  · exact (KeepsChanges.fail ..).finish s

theorem KeepsChanges.replyReceived (reply : Reply) : KeepsChanges s (s.replyReceived reply) := by
  unfold State.replyReceived; split
  · exact .refl s
  · split
    · exact (KeepsChanges.fail ..).finish s
    · exact (KeepsChanges.succeed ..).finish s

/-! ### Store operations -/

/-- Every slot that is retired enters the booking change set (R41, R195). -/
theorem KeepsChanges.retire (d : Date) : KeepsChanges s (s.retire d).1 := ⟨fun h => by
  rw [port_retire]
  exact h.retired _⟩

theorem KeepsChanges.setClock (d : Date) (m : Nat) : KeepsChanges s (s.setClock d m).1 := by
  unfold State.setClock; split
  · exact .refl s
  · split
    · exact (SamePort.jump ..).keepsChanges.since (by rfl)
    · have retired : KeepsChanges s ((s.putClock d m).retire d).1 :=
        (KeepsChanges.retire (s.putClock d m) d).since (by rfl)
      have built (t : State) (now : Instant) : KeepsChanges t (allRooms.foldl (fun t r => t.build now r) t) :=
        .foldl (fun t r => .build t now r) allRooms t
      exact retired.trans ((built ..).since (by rfl))

/-- A reclaimed slot enters the booking change set (R36, R195). -/
theorem KeepsChanges.reclaim (k : SlotId) (h : Handle) : KeepsChanges s (s.reclaim k h) := ⟨fun ok => by
  have port : (s.reclaim k h).port = s.port.bookingChanged ⟨k, h.gen, .reclaimed⟩ := SamePort.reportChanges ..
  rw [port]
  exact ok.bookingChanged _⟩

theorem KeepsChanges.serveNote (kind : NoteKind) (g : Handle) : KeepsChanges s (s.serveNote kind g) := by
  unfold State.serveNote; split
  · exact .refl s
  · split
    · cases kind with
      | confirm => exact .elsewhere rfl
      | release =>
        dsimp only; split
        · exact (KeepsChanges.reclaim ..).since (by rfl)
        · exact .elsewhere rfl
    · exact .refl s

theorem KeepsChanges.serveRoom (now : Instant) (r : RoomId) (q : RoomReq) : KeepsChanges s (s.serveRoom now r q) := by
  cases q with
  | note kind g => exact .serveNote s kind g
  | extend g step => exact (SamePort.extend s now r g step).keepsChanges.trans (.elsewhere (by rfl))

theorem KeepsChanges.stepEffect (now : Instant) (st : CalStep) : KeepsChanges s (s.stepEffect now st) := by
  cases st with
  | retire => exact .retire s now.date
  | build r =>
    have ended (t : State) : KeepsChanges t t.endRebuild := by
      unfold State.endRebuild; dsimp only; repeat' split
      · exact .refl t
      · exact (KeepsChanges.raise ..).since (by rfl)
      · exact .elsewhere rfl
    exact (KeepsChanges.build s now r).trans (ended _)
  | termEnd => exact (Quiet.termStepped s).keepsChanges.since (by rfl)

theorem KeepsChanges.hostEffect (now : Instant) (op : HostOp) : KeepsChanges s (s.hostEffect now op).1 := by
  cases op with
  | extend r g step => exact (SamePort.extendForHost ..).keepsChanges
  | command c =>
    cases c
    case createBooking => exact (SamePort.createBooking ..).keepsChanges
    case amendBooking => exact (SamePort.amendBooking ..).keepsChanges
    case cancelBooking => exact (SamePort.cancelBooking ..).keepsChanges
    case suspendBooking => exact (SamePort.suspendBooking ..).keepsChanges
    case resumeBooking => exact (SamePort.resumeBooking ..).keepsChanges
    case setClock => exact .setClock ..
    case addClosure => exact (SamePort.addClosure ..).keepsChanges
    case removeClosure => exact (SamePort.removeClosure ..).keepsChanges
    case writeRoom => exact (SamePort.writeRoomStored ..).keepsChanges
    case writeWing => exact .writeWing ..
    case writePartition => exact (SamePort.writePartition ..).keepsChanges
    case deletePartition => exact (SamePort.deletePartition ..).keepsChanges
    all_goals exact .refl s

theorem KeepsChanges.completeOp : KeepsChanges s s.completeOp := by
  have effect (run : Running) : KeepsChanges s (s.opEffect run) := by
    unfold State.opEffect; split
    · exact (KeepsChanges.hostEffect ..).trans (.completeCommand ..)
    · exact .serveRoom ..
    · exact .stepEffect ..
  unfold State.completeOp; split
  · exact .refl s
  · rename_i run _
    exact ((effect run).trans ((KeepsChanges.applyHeld _).since (by rfl))).finish s

theorem KeepsChanges.completeIf (p : StoreOp → Bool) : KeepsChanges s (s.completeIf p) := by
  unfold State.completeIf; split
  · exact .completeOp s
  · exact .refl s

/-! ### The clock and the timers -/

theorem KeepsChanges.minuteEvent : KeepsChanges s s.minuteEvent := by
  unfold State.minuteEvent; split
  · exact (((KeepsChanges.offerWork ..).trans (Quiet.overrunChecks _).keepsChanges).since (by rfl)).finish s
  · exact .refl s

theorem KeepsChanges.rolloverEvent : KeepsChanges s s.rolloverEvent := by
  unfold State.rolloverEvent; split
  · exact ((KeepsChanges.offerWork s (.minute 1440)).trans
      ((Quiet.overrunChecks _).keepsChanges.since (by rfl))).finish s
  · exact .refl s

theorem KeepsChanges.termEnd : KeepsChanges s s.termEnd := by
  unfold State.termEnd; split
  · exact ((KeepsChanges.offerWork s (.minute 1440)).trans
      (((KeepsChanges.raise _ .clockInvalid).trans (Quiet.overrunChecks _).keepsChanges).since (by rfl))).finish s
  · exact .refl s

theorem KeepsChanges.noShowExpiry (r : RoomId) : KeepsChanges s (s.noShowExpiry r) := by
  unfold State.noShowExpiry; repeat' split
  · exact (KeepsChanges.offerWork ..).finish s
  · exact .refl s
  · exact .refl s

theorem KeepsChanges.requestTaken (p : CalWork → Bool) : KeepsChanges s (s.requestTaken p) := by
  unfold State.requestTaken; split
  · exact (KeepsChanges.takeWork s p).finish s
  · exact .refl s

theorem KeepsChanges.absenceEvent (r : RoomId) : KeepsChanges s (s.absenceEvent r) := by
  unfold State.absenceEvent; split
  · exact (Quiet.absenceExpiry s r).keepsChanges.finish s
  · exact .refl s

theorem KeepsChanges.quietEvent (r : RoomId) : KeepsChanges s (s.quietEvent r) := by
  unfold State.quietEvent; split
  · exact (Quiet.quietExpiry s r).keepsChanges.finish s
  · exact .refl s

theorem KeepsChanges.settleEvent (r : RoomId) : KeepsChanges s (s.settleEvent r) := by
  unfold State.settleEvent; split
  · exact (Quiet.settleExpiry s r).keepsChanges.finish s
  · exact .refl s

theorem KeepsChanges.holdEvent (r : RoomId) : KeepsChanges s (s.holdEvent r) := by
  unfold State.holdEvent; split
  · exact (KeepsChanges.finishWith (s.endHold r) ..).since (by rfl)
  · exact .refl s

theorem KeepsChanges.silenceExpiry : KeepsChanges s s.silenceExpiry := by
  have absent : KeepsChanges s s.hostAbsent :=
    (KeepsChanges.raise { s with port := { s.port with present := false } } .hostAbsent).since (by rfl) |>.trans
      (.elsewhere (by rfl))
  unfold State.silenceExpiry; split
  · exact absent.trans (.finishWith ..)
  · exact .refl s

theorem KeepsChanges.periodEvent (g : AirId) : KeepsChanges s (s.periodEvent g) := by
  unfold State.periodEvent; split <;> exact .elsewhere rfl

theorem KeepsChanges.passEvent (g : AirId) : KeepsChanges s (s.passEvent g) := by
  have completed : KeepsChanges s (s.completePass g) := by
    unfold State.completePass; dsimp only; split
    · exact .refl s
    · exact ⟨fun h => h.raiseIf ..⟩
  unfold State.passEvent; split
  · exact completed.trans (.elsewhere (by rfl))
  · exact .refl s

theorem KeepsChanges.travelEvent (r : RoomId) (b : BlindId) : KeepsChanges s (s.travelEvent r b) := by
  unfold State.travelEvent; split
  · exact (KeepsChanges.elsewhere (t := s.modifyBlind r b _) (by rfl)).finish s
  · exact .refl s

theorem KeepsChanges.pauseEvent (r : RoomId) (b : BlindId) : KeepsChanges s (s.pauseEvent r b) := by
  unfold State.pauseEvent; split
  · exact (KeepsChanges.elsewhere (t := s.modifyBlind r b _) (by rfl)).finish s
  · exact .refl s

theorem KeepsChanges.drainRoom (r : RoomId) : KeepsChanges s (s.drainRoom r) :=
  (((((KeepsChanges.noShowExpiry s r).trans (.absenceEvent ..)).trans (.quietEvent ..)).trans (.settleEvent ..)).trans
    (.holdEvent ..)).trans
    ((((KeepsChanges.travelEvent ..).trans (.pauseEvent ..)).trans (.travelEvent ..)).trans (.pauseEvent ..))

theorem KeepsChanges.drain : KeepsChanges s s.drain := by
  have clock : KeepsChanges s s.minuteEvent.rolloverEvent.termEnd :=
    ((KeepsChanges.minuteEvent s).trans (.rolloverEvent _)).trans (.termEnd _)
  have held (t : State) : KeepsChanges t
      (if t.store.running.isNone && !t.cal.work.isEmpty then t.applyHeld.finish t else t) := by
    split
    · exact (KeepsChanges.applyHeld t).finish t
    · exact .refl t
  have rooms (t : State) : KeepsChanges t (allRooms.foldl State.drainRoom t) := .foldl KeepsChanges.drainRoom ..
  have periods (t : State) : KeepsChanges t ((List.finRange 4).foldl State.periodEvent t) :=
    .foldl KeepsChanges.periodEvent ..
  exact (clock.trans (held _)).trans ((rooms _).trans ((KeepsChanges.silenceExpiry _).trans (periods _)))

theorem KeepsChanges.second : KeepsChanges s s.second := by
  have counted (t : State) : KeepsChanges t t.countSecond := by
    refine .elsewhere ?_
    change t.port.second.changeMemory = t.port.changeMemory
    unfold Port.second; split <;> rfl
  exact (KeepsChanges.drain s).trans (counted _)

/-- Cycles that complete a second, and the second (R46). -/
theorem KeepsChanges.cycles_second (n : Nat) : KeepsChanges s (s.cycles n).wrapDivider.second :=
  (KeepsChanges.second (s.cycles n).wrapDivider).since (by rfl)

theorem KeepsChanges.tick : KeepsChanges s s.tick := by
  unfold State.tick; dsimp only; split
  · exact .cycles_second s 1
  · exact .elsewhere rfl

/-! ### The port's own commands and the resets -/

/-- READ_RESPONSE takes a response out of the slot, and nothing out of a change set (R192). -/
theorem KeepsChanges.readResponse : KeepsChanges s (s.immediate s.port.slot.response Port.takeResponse) := by
  refine .elsewhere ?_
  change s.port.takeResponse.changeMemory = s.port.changeMemory
  unfold Port.takeResponse; split <;> rfl

theorem KeepsChanges.warmReset (cause : ResetCause) : KeepsChanges s (s.warmReset cause) := ⟨fun _ => by
  rw [warmReset_port]
  exact changesOk_of_empty rfl rfl⟩

end Effects

/-! ## Every step -/

/-- No command and no event leaves a change set that is not empty without its flag. -/
theorem KeepsChanges.of_exec {s t : State} (c : Instr) (hx : exec c s = .next t) : KeepsChanges s t := by
  have next {u : State} (same : exec c s = .next u) (hu : KeepsChanges s u) : KeepsChanges s t := by
    cases same.symm.trans hx; exact hu
  cases c
  case powerOn => exact next rfl ⟨fun _ => changesOk_of_empty rfl rfl⟩
  case resetLine | restart => exact next rfl (.warmReset ..)
  case poll | readAttention => exact next rfl (.elsewhere (by rfl))
  case readResponse => exact next rfl (.readResponse s)
  case ackAttention => exact next rfl ⟨fun h => h.acknowledge _⟩
  case readRoomChanges => exact next rfl ⟨fun h => h.roomsRead⟩
  case readBookingChanges => exact next rfl ⟨fun h => h.bookingsRead 16⟩
  case malformed => exact next rfl (.arrive (fun t => .respond ..) s)
  case unknownCommand | setAttention | readLoopLog => exact next rfl (.queued (fun t => .elsewhere (by rfl)) s _)
  case readResetCause | readRoom | readProfile | readWing | readPartition | readAirGroup | readCalibration | readClock |
      listClosures | readRoomSensors | readAllocation | readRoomAir | readRoomLighting | readWingLighting =>
    exact next rfl (.queuedRead ..)
  case writePartition | deletePartition | createBooking | amendBooking | cancelBooking | suspendBooking |
      resumeBooking | readBooking | listRoomBookings | readAgenda | findFreeRoom | setClock | addClosure |
      removeClosure =>
    exact next rfl (.queuedOperation ..)
  case writeRoom => exact next rfl (.queuedEither (fun t a h => (SamePort.writeRoomNow t h).keepsChanges) s _)
  case writeProfile => exact next rfl (.queuedEffect (fun t => .writeProfile ..) s _)
  case writeWing => exact next rfl (.queuedEither (fun t a => .writeWingNow t) s _)
  case writeAirGroup => exact next rfl (.queued (fun t => .writeAirGroup ..) s _)
  case writeCalibration => exact next rfl (.queued (fun t => .writeCalibration ..) s _)
  case holdRoom => exact next rfl (.queuedTouching (fun t => .holdRoomNow ..) s _ _)
  case releaseHold => exact next rfl (.queuedTouching (fun t => .releaseHoldNow ..) s _ _)
  case endOccurrence => exact .endOccurrence s hx
  case extendOccurrence => exact next rfl (.queuedEither (fun t a h => (SamePort.extendNow t h).keepsChanges) s _)
  case setOpenRange => exact .setOpenRange s hx
  case readRoomStatus => exact next rfl (.queued (fun t => .readStatus ..) s _)
  case setCapacity => exact next rfl (.queued (fun t => .setCapacity ..) s _)
  case requestAllocation => exact next rfl (.queued (fun t => .requestAllocation ..) s _)
  case sceneWindow => exact next rfl (.queued (fun t => .sceneWindow ..) s _)
  case sceneWriteStart =>
    have rewound (t : State) (n : Nat) (l : List Nat) : KeepsChanges t (t.rewindWindow.sceneWrite n l).1 :=
      (SamePort.sceneWrite t.rewindWindow n l).keepsChanges.since (by rfl)
    exact next rfl (.queuedEffect (fun t => .whereCounted t (rewound ..)) s _)
  case sceneWriteContinue =>
    exact next rfl (.queuedEffect (fun t => .whereCounted t (SamePort.sceneWrite ..).keepsChanges) s _)
  case sceneReadStart | sceneReadContinue =>
    exact next rfl (.queued (fun t => .whereCounted t (.elsewhere (by rfl))) s _)
  case setEconomy => exact next rfl (.queuedEffect (fun t => .setEconomy ..) s _)
  case setFacade => exact next rfl (.queuedEffect (fun t => .setFacade ..) s _)
  case readmitStation => exact next rfl (.queued (fun t => .readmitStation ..) s _)
  case readStation => exact next rfl (.queued (fun t => .readStation ..) s _)
  case storeOperationComplete => exact next rfl (.completeOp s)
  case retirementPass | agendaBuild | termEndStep | noteServed | extensionRequestServed =>
    exact next rfl (.completeIf ..)
  case secondEvent => exact next rfl (.cycles_second s _)
  case minuteEvent => exact next rfl (.minuteEvent s)
  case rolloverEvent => exact next rfl (.rolloverEvent s)
  case termEnd => exact next rfl (.termEnd s)
  case noShowExpiry => exact next rfl (.noShowExpiry ..)
  case confirmRequest | endNowRequest => exact next rfl (.requestTaken ..)
  case sensedAbsenceExpiry => exact next rfl (.absenceEvent ..)
  case quietTimerExpiry => exact next rfl (.quietEvent ..)
  case settleTimerExpiry => exact next rfl (.settleEvent ..)
  case holdExpiry => exact next rfl (.holdEvent ..)
  case hostSilenceExpiry => exact next rfl (.silenceExpiry s)
  case periodTimerMatch => exact next rfl (.periodEvent ..)
  case allocationPassComplete => exact next rfl (.passEvent ..)
  case roundStart => exact next rfl (.startRound s)
  case stationVisit => exact next rfl (.visit s)
  case noReply => exact next rfl (.noReply s)
  case reportReceived => exact next rfl (.replyReceived ..)
  case blindTravelComplete => exact next rfl (.travelEvent ..)
  case blindPauseEnd => exact next rfl (.pauseEvent ..)

/-- Settles O58: a step runs a command or lets a cycle pass, and either keeps the change sets flagged. -/
theorem changesKept : Obligations.ChangesKept := by
  intro s t h hx
  refine changesOk_iff.2 ?_
  unfold step at hx
  split at hx
  · rename_i c rest _
    exact (KeepsChanges.of_exec (s := { s with pending := rest }) c hx).ok (changesOk_iff.1 h)
  · cases hx
    exact (KeepsChanges.tick s).ok (changesOk_iff.1 h)

end Sys2Proof.Machine
end

section
/-! PROOFS. A select period as it is decoded: a command stands under its own code byte, with as many parameter bytes as
that code has (R188, R205). -/
namespace Sys2Proof

theorem length_takeParams {n : Nat} {rest : List Shifted} {params : List Byte}
    (h : takeParams n rest = some params) : params.length = n ∧ n ≤ rest.length := by
  induction n generalizing rest params with
  | zero => cases h; exact ⟨rfl, Nat.zero_le _⟩
  | succ n ih =>
    cases rest with
    | nil => cases h
    | cons b rest =>
      rw [takeParams] at h
      split at h
      · obtain ⟨tail, taken, rfl⟩ := Option.map_eq_some_iff.1 h
        obtain ⟨own, enough⟩ := ih taken
        exact ⟨congrArg (· + 1) own, Nat.succ_le_succ enough⟩
      · cases h

/-- A period framed as a command holds the code byte and every parameter byte of the code (R188). -/
theorem framePeriod_command {period : List Shifted} {code : Byte} {params : List Byte}
    (h : framePeriod period = .command code params) :
    paramCount code = some params.length ∧ 1 + params.length ≤ period.length := by
  cases period with
  | nil => cases h
  | cons first rest =>
    rw [framePeriod] at h
    split at h
    · cases h
    · split at h
      · cases h
      · rename_i n count
        split at h
        · cases h
        · rename_i taken
          cases h
          obtain ⟨own, enough⟩ := length_takeParams taken
          rw [own, List.length_cons]
          exact ⟨count, by omega⟩

theorem mem_commandCodes {code : Byte} {n : Nat} (h : paramCount code = some n) : (code.toNat, n) ∈ commandCodes := by
  obtain ⟨⟨k, m⟩, found, rfl⟩ := Option.map_eq_some_iff.1 h
  have own : k = code.toNat := by simpa using List.find?_some found
  exact own ▸ List.mem_of_find?_eq_some found

/-- Every code with its count of parameter bytes, whatever they hold, is a command of that code (R205). -/
theorem code_of_commandCodes : ∀ p ∈ commandCodes, ∀ bytes : Nat → Byte,
    (commandOf (BitVec.ofNat 8 p.1) ((List.range p.2).map bytes)).map Instr.code = some (BitVec.ofNat 8 p.1) := by
  simp only [commandCodes, List.forall_mem_append, List.forall_mem_cons, List.not_mem_nil, false_imp_iff,
    implies_true, and_true]
  refine ⟨⟨?_, ?_⟩, ?_⟩
  all_goals
    repeat' apply And.intro
    all_goals exact fun _ => rfl

/-- A decoded command's code is the byte it was decoded from (R205). -/
theorem code_commandOf {code : Byte} {params : List Byte} {c : Instr} (count : paramCount code = some params.length)
    (h : commandOf code params = some c) : c.code = code := by
  have own : BitVec.ofNat 8 code.toNat = code := by simp
  have bytes : (List.range params.length).map (fun i => params.getD i 0) = params :=
    List.ext_getElem (by simp) fun i _ bound => by simp [bound]
  have decoded := code_of_commandCodes _ (mem_commandCodes count) fun i => params.getD i 0
  rw [own, bytes, h] at decoded
  exact Option.some.inj decoded

end Sys2Proof
end

section
/-! PROOFS. The Supervisor Port: a command that finds the slot EXECUTING, the port's own queued commands, the immediate
commands and data out (R188 to R192, R194 to R198, R200). -/
namespace Sys2Proof.Machine

/-! ## The command slot -/

theorem arrive_of_executing {s : State} {d : Instr} {late : Bool} (h : s.port.slot = .executing d late)
    (act : State → State) : s.arrive act = { s with port := { s.port with slot := .executing d true } } := by
  rw [State.arrive, h]

/-- The part when a complete queued command has been discarded behind the executing one: the host has been heard, and
LATE is set (R188, R190, R198). -/
def State.discarding (s : State) (d : Instr) : State :=
  { s.hostHeard with port := { s.hostHeard.port with slot := .executing d true } }

section Executing
variable {s : State} {c d : Instr} {late : Bool} (h : s.port.slot = .executing d late)
include h

theorem hostHeard_arrive_of_executing (act : State → State) : s.hostHeard.arrive act = s.discarding d :=
  arrive_of_executing (s := s.hostHeard) h act

theorem queued_of_executing (act : State → Answered) : s.queued c act = s.discarding d :=
  hostHeard_arrive_of_executing h _

theorem queuedRead_of_executing (answer : State → Status × Result) : s.queuedRead c answer = s.discarding d :=
  queued_of_executing h _

theorem queuedTouching_of_executing (touched : RoomId → Bool) (act : State → Answered) :
    s.queuedTouching c touched act = s.discarding d := queued_of_executing h _

theorem queuedEffect_of_executing (act : State → Answered) : s.queuedEffect c act = s.discarding d :=
  queuedTouching_of_executing h _ act

end Executing

/-- Settles O5: every queued command but a malformed one is heard before it arrives at the slot. -/
theorem executingSlotDiscards : Obligations.ExecutingSlotDiscards := by
  intro s c d late slot queued
  have next {u v : State} (runs : exec c s = .next u) (same : u = v) : exec c s = .next v :=
    runs.trans (congrArg Host.Outcome.next same)
  cases c
  case malformed => exact next rfl (arrive_of_executing slot _)
  case readResetCause | readRoom | readProfile | readWing | readPartition | readAirGroup | readCalibration | readClock |
      listClosures | readRoomSensors | readAllocation | readRoomAir | readRoomLighting | readWingLighting =>
    exact next rfl (queuedRead_of_executing slot _)
  case unknownCommand | setAttention | writeAirGroup | writeCalibration | readRoomStatus | setCapacity |
      requestAllocation | sceneWindow | sceneReadStart | sceneReadContinue | readmitStation | readStation |
      readLoopLog =>
    exact next rfl (queued_of_executing slot _)
  case writeProfile | sceneWriteStart | sceneWriteContinue | setEconomy | setFacade =>
    exact next rfl (queuedEffect_of_executing slot _)
  case holdRoom | releaseHold => exact next rfl (queuedTouching_of_executing slot _ _)
  case writeRoom | writeWing | writePartition | deletePartition | createBooking | amendBooking | cancelBooking |
      suspendBooking | resumeBooking | readBooking | listRoomBookings | readAgenda | findFreeRoom | setClock |
      addClosure | removeClosure | endOccurrence | extendOccurrence | setOpenRange =>
    exact next rfl (hostHeard_arrive_of_executing slot _)
  all_goals exact absurd queued Bool.false_ne_true

/-- Settles O6: an open slot takes each of the port's own queued commands, and is DONE with its answer at once. -/
theorem portCommandsAnswered : Obligations.PortCommandsAnswered := by
  intro s opened
  refine ⟨fun b => ?_, fun b => ?_, fun e l => ?_, ?_⟩
  · exact congrArg Host.Outcome.next (arrive_of_slotOpen opened _)
  · exact congrArg Host.Outcome.next (queued_of_slotOpen opened rfl)
  · exact congrArg Host.Outcome.next (queued_of_slotOpen opened rfl)
  · exact congrArg Host.Outcome.next (queuedRead_of_slotOpen opened rfl)

/-! ## Immediate commands -/

theorem takeResponse_of_slotOpen {s : State} (h : s.slotOpen = true) :
    s.port.takeResponse = { s.port with slot := .empty } := by
  unfold State.slotOpen at h
  unfold Port.takeResponse
  split
  · rfl
  · rename_i notDone
    cases slot : s.port.slot with
    | empty => rw [← slot]
    | executing d late => rw [slot] at h; exact absurd h Bool.false_ne_true
    | done response => exact absurd slot (notDone response)

theorem takeResponse_of_executing {s : State} (h : s.slotOpen = false) : s.port.takeResponse = s.port := by
  unfold State.slotOpen at h
  unfold Port.takeResponse
  split
  · rename_i slot
    rw [slot] at h
    exact absurd h.symm Bool.false_ne_true
  · rfl

/-- What the immediate commands form, and that their select period leaves it to be clocked out (R189). -/
theorem exec_immediate {s : State} {c : Instr} {out : PortOut} (h : s.immediateOut c = some out) :
    ∃ effect, exec c s = .next (s.immediate out effect) := by
  cases c
  case poll | readResponse | readAttention | ackAttention | readRoomChanges | readBookingChanges =>
    cases h; exact ⟨_, rfl⟩
  all_goals cases h

/-! ## Data out -/

/-- How many bytes of an immediate command's period are its code and parameters: ACK_ATTENTION has a mask of two
(R205). -/
def immediateHead : Instr → Nat
  | .ackAttention _ => 3
  | _ => 1

theorem paramCount_immediate {s : State} {c : Instr} {out : PortOut} (h : s.immediateOut c = some out) :
    some (immediateHead c) = (paramCount c.code).map (1 + ·) := by
  cases c
  case poll | readResponse | readAttention | ackAttention | readRoomChanges | readBookingChanges => rfl
  all_goals cases h

/-- The period of an immediate command holds its code byte and parameters, which are no more than its head (R188). -/
theorem head_of_immediate {s : State} {period : List Shifted} {c : Instr} {out : PortOut}
    (decoded : decodePeriod period = some c) (immediate : s.immediateOut c = some out) :
    headCount period = immediateHead c ∧ immediateHead c ≤ period.length := by
  unfold decodePeriod at decoded
  unfold headCount
  cases framed : framePeriod period with
  | noCommand => rw [framed] at decoded; cases decoded
  | malformed code => rw [framed] at decoded; cases decoded; cases immediate
  | unknown code => rw [framed] at decoded; cases decoded; cases immediate
  | command code params =>
    rw [framed] at decoded
    obtain ⟨count, enough⟩ := framePeriod_command framed
    have head := paramCount_immediate immediate
    rw [code_commandOf count decoded, count] at head
    have own : immediateHead c = 1 + params.length := Option.some.inj head
    simp only [count, own, Option.getD_some]
    exact ⟨trivial, enough⟩

/-- Zeros after a response beyond what is clocked out are not seen (R189). -/
theorem take_append_replicate {bytes : List Byte} {k n m : Nat} (hn : k ≤ n) (hm : k ≤ m) :
    (bytes ++ List.replicate n 0).take k = (bytes ++ List.replicate m 0).take k := by
  rw [List.take_append, List.take_append, List.take_replicate, List.take_replicate, Nat.min_eq_left (by omega),
    Nat.min_eq_left (by omega)]

theorem dataOut_immediate {s : State} {period : List Shifted} {c : Instr} {out : PortOut}
    (decoded : decodePeriod period = some c) (immediate : s.immediateOut c = some out) :
    s.dataOut period = List.replicate (immediateHead c) 0
      ++ (out.bytesOf ++ List.replicate period.length 0).take (period.length - immediateHead c) := by
  obtain ⟨head, enough⟩ := head_of_immediate decoded immediate
  have formed : (decodePeriod period).bind s.immediateOut = some out := by rw [decoded]; exact immediate
  simp only [State.dataOut, State.extraOut, formed, head, Nat.min_eq_left enough, PortOut.clocked]
  rw [take_append_replicate (le_refl _) (Nat.sub_le ..)]

/-- Settles O7: each immediate command by its arm; ACK_ATTENTION flag by flag; data out by the period as decoded. -/
theorem immediateCommands : Obligations.ImmediateCommands := by
  refine ⟨fun s => ⟨rfl, rfl, fun opened => ?_, fun executing => ?_, rfl, rfl⟩, fun s mask => ?_,
    fun s period c out decoded immediate => ?_⟩
  · have taken : exec .readResponse s = .next (s.immediate s.port.slot.response fun _ => s.port.takeResponse) := rfl
    rw [taken, takeResponse_of_slotOpen opened]
    rfl
  · have taken : exec .readResponse s = .next (s.immediate s.port.slot.response fun _ => s.port.takeResponse) := rfl
    rw [taken, takeResponse_of_executing executing]
    rfl
  · refine ⟨s.immediate (.bytes []) fun _ => s.port.acknowledge mask, rfl, ?_, flag_acknowledge s.port mask⟩
    rw [acknowledge_eq]
    rfl
  · obtain ⟨effect, run⟩ := exec_immediate immediate
    exact ⟨⟨_, run, rfl⟩, (head_of_immediate decoded immediate).2, dataOut_immediate decoded immediate⟩

end Sys2Proof.Machine
end
